-- ==== Sys2Proof/Word.lean ====
section
/-! DEFINITION. The words of the configuration memory, the bytes of frames, and the plainest arithmetic over numbers. -/

namespace Sys2Proof

/-- One word of the configuration image (12_frame_and_record_layouts.md, section 12.3). -/
abbrev Word16 := BitVec 16

/-- One byte of a line frame or of a link message (R177). -/
abbrev Byte := BitVec 8

/-- A number taken to the nearer limit of `lo` to `hi` when it lies outside (00_scope.md, Conventions, Quantities). -/
def clampNat (lo hi n : Nat) : Nat := max lo (min hi n)

/-- The same for a signed number. -/
def clampInt (lo hi n : Int) : Int := max lo (min hi n)

/-- The quotient rounded up (R116); 0 for a divisor of 0, which R115 never lets through. -/
def ceilDiv (a b : Nat) : Nat := if b = 0 then 0 else (a + b - 1) / b

end Sys2Proof
end

