-- ==== Sys2Proof/Config.lean ====
section
/-! DEFINITION. What the part fixes: the intervals and limits of the chapters, in milliseconds unless a name says otherwise, and the one free value. -/

namespace Sys2Proof.Config

/-! ### Filters (R1, R69) -/

def presenceShort : Nat := 200
def presenceLong : Nat := 400
def plugShort : Nat := 20
def plugLong : Nat := 40
def keyShort : Nat := 50
def keyLong : Nat := 100
def litShort : Nat := 20
def litLong : Nat := 40

/-! ### Start (R2, R172) -/

def startInterval : Nat := 400
def readTime : Nat := 300
/-- The image is 183 words, the last of them the check word (12_frame_and_record_layouts.md, section 12.3). -/
def imageWords : Nat := 183

/-! ### The bay and the link (R9, R24, R26, R32, R34, R35, R37) -/

def reidentify : Nat := 10000
def responseWait : Nat := 250
def failuresToLoss : Nat := 3
def poll : Nat := 30000
def cacheLife : Nat := 120000
def passPeriod : Nat := 600000
def passLimit : Nat := 255

/-! ### The fault list (R40) -/

def listPlaces : Nat := 24

/-! ### Lamp steps (R66, R67, R68, R69, R74) -/

def warm : Nat := 300
def steadyMean : Nat := 200
def watchBlock : Nat := 20
def captureWindow : Nat := 3000
def linkWait : Nat := 2000
/-- The top of the sense range (R61). -/
def senseTop : Nat := 2000
def captureEdges : Nat := 4

/-! ### The line and the peer table (R90, R91, R95, R98) -/

def errorsToQuiet : Nat := 16
def quiet : Nat := 10000
def conflict : Nat := 60000
def partLife : Nat := 7000

/-! ### Heat (R111, R116, R121, R132, R135, R137) -/

def probePeriod : Nat := 10000
def longestLead : Nat := 240
def claimPeriod : Nat := 2000
def holdOff : Nat := 4000
def sagBreak : Nat := 20
def recovery : Nat := 10000
/-- The margin above the threshold, in 0.1 V. -/
def recoveryMargin : Nat := 5
def meterWindow : Nat := 60000
def lowestTemp : Int := -80
def highestTemp : Int := 120
/-- The design outdoor temperature an image that does not deliver it takes (R111, R171). -/
def designDefault : Int := -30

/-! ### Clearance (R143, R150, R152, R160) -/

def lowestCountdown : Int := -3600
def readyWindow : Int := 600
def settle : Nat := 3000
def depotHold : Nat := 30000

/-! ### Notices (R165) -/

def noticeRepeat : Nat := 60000

/-- FREE VALUE (log 11). What a target-temperature word of the image above 127 is read as, before R173 clamps it:
R177 gives temperatures one signed byte, section 12.3 gives this one a whole word, and no rule says which reading holds there. -/
opaque targetWord : Word16 → Int

end Sys2Proof.Config
end

