-- ==== Sys2Proof/Syntax.lean ====
section
/-! DEFINITION. The commands: one constructor for each row of spec/opcode_table.json, and the small types their operands use. -/

namespace Sys2Proof

/-- Severities of a fault record, least first (R41). -/
inductive Severity where
  | info | advisory | blocking
  deriving DecidableEq, Repr

/-- The heat states in the order R121 gives them. -/
inductive HeatState where
  | off | waiting | starved | heating | maintain | shed | fault
  deriving DecidableEq, Repr

/-- The states a departure claim carries (R92, R142). -/
inductive ClaimState where
  | none | assigned | ready | settling | holding
  deriving DecidableEq, Repr

/-- The three parts of a peer entry (06, section 6.1). -/
inductive PartKind where
  | heat | departure | air
  deriving DecidableEq, Repr

/-- The inputs that the two-limit scheme filters (R1, R69). The lit or dark of the flash sense is read from a current; `onMean` is the mean
current over the latest on-time, for a change that finds the capture at its end (log 23). -/
inductive Pin where
  | presence | plug | key
  | flash (onMean : Nat)
  deriving DecidableEq, Repr

/-- The notice sources, numbered 0 to 15 in this order (10, section 10.1). -/
inductive Source where
  | start | coachIdentified | sessionEnded | linkLost | identityMismatch | unclearedExit | released | releaseLapsed
  | lampSheetDone | blockingFault | blockingLost | addressConflict | heatStarved | supplySag | heaterOverdraw | assignRefused
  deriving DecidableEq, Repr

/-- The number of a source (10, section 10.1). -/
def Source.number : Source → Fin 16
  | .start => 0 | .coachIdentified => 1 | .sessionEnded => 2 | .linkLost => 3 | .identityMismatch => 4 | .unclearedExit => 5
  | .released => 6 | .releaseLapsed => 7 | .lampSheetDone => 8 | .blockingFault => 9 | .blockingLost => 10
  | .addressConflict => 11 | .heatStarved => 12 | .supplySag => 13 | .heaterOverdraw => 14 | .assignRefused => 15

/-- The commands. The level of a raw input is 0 for clear, out or off and 1 for occupied, in or on, and for the flash sense the current in
10 mA units. `t` is the moment of the event in milliseconds of uptime (log 1). Rows for received frames stand for
frames that the filters of R92 to R96 have sorted to that row; Decode.lean sorts raw frames (log 8). -/
inductive Instr where
  | powerOn
  | resetLine (supplyReached : Bool)
  | configCheckWordReceived (t : Nat) (words : List Word16) (probe : Int)
  | configReadTimeout (t : Nat) (words : List Word16)
  | startIntervalEnd (t : Nat)
  | rawInputChange (t : Nat) (pin : Pin) (level : Nat)
  | presenceAcceptedOccupied (t : Nat)
  | presenceAcceptedClear (t : Nat)
  | plugAcceptedIn (t : Nat)
  | plugAcceptedOut (t : Nat)
  | keyAccepted (t : Nat) (level : Bool)
  | reidentifyTimerExpiry (t : Nat)
  | identifyResponse (t tag coach cls hint : Nat)
  | lampSetResponse (t tag channel : Nat) (on : Bool)
  | readTempResponse (t tag : Nat) (reading : Option Int)
  | faultNextEntry (t tag module code : Nat) (severity : Severity) (count next : Nat)
  | faultNextEndMark (t tag : Nat)
  | linkResponseMalformed (t tag : Nat)
  | linkTimeout (t : Nat)
  | linkResponseOtherTag (t tag : Nat)
  | pollTimerExpiry (t : Nat)
  | cacheStaleTimerExpiry (t : Nat)
  | passTimerExpiry (t : Nat)
  | warmTimerExpiry (t current : Nat)
  | steadyMeasureEnd (t mean : Nat)
  | shortWatchBlockEnd (t mean : Nat)
  | litLevelAccepted (t : Nat) (lit : Bool) (mean : Nat)
  | captureWindowExpiry (t onMean tailMean : Nat)
  | linkWaitExpiry (t : Nat)
  | supplySenseChange (t level : Nat)
  | sagDetected (t : Nat)
  | supplyRecovered (t : Nat)
  | lineIdle (t : Nat)
  | arbitrationLost (t : Nat)
  | frameFinished (t : Nat)
  | transmitError (t : Nat)
  | quietTimerExpiry (t : Nat)
  | frameMalformed (t : Nat) (checkRight : Bool)
  | frameSenderRefused (t : Nat)
  | frameNotForBay (t : Nat)
  | unconfiguredFrameReceived (t : Nat)
  | ownNumberHeard (t : Nat)
  | conflictTimerExpiry (t : Nat)
  | heatClaimReceived (t sender : Nat) (state : HeatState) (wanted intended drawn power : Nat) (latest : Int)
  | departClaimReceived (t sender : Nat) (state : ClaimState) (countdown : Int)
  | airTempReceived (t sender : Nat) (temp : Int)
  | peerPartExpiry (t station : Nat) (part : PartKind)
  | holdSet (t : Nat)
  | holdClear (t : Nat)
  | holdTimerExpiry (t : Nat)
  | assign (t coach countdown : Nat)
  | cancel (t : Nat)
  | waiveLamp (t : Nat)
  | waiveFault (t : Nat)
  | waiveHeat (t : Nat)
  | recheckLamps (t : Nat)
  | recheckFaults (t : Nat)
  | maskSetSources (t : Nat) (sources : Word16)
  | maskClearSources (t : Nat) (sources : Word16)
  | maskAllOn (t : Nat)
  | maskAllOff (t : Nat)
  | reportReqFaults (t : Nat)
  | reportReqLamps (t : Nat)
  | reportReqBayStatus (t : Nat)
  | claimPeriodExpiry (t : Nat)
  | probeTimerExpiry (t : Nat) (sample : Int)
  | meterPulse (t : Nat)
  | meterWindowExpiry (t : Nat)
  | countdownTick (t : Nat)
  | settleTimerExpiry (t : Nat)
  | releaseWindowExpiry (t : Nat)
  | transitTimerExpiry (t : Nat)
  | noticeRepeatExpiry (t : Nat) (source : Source)
  deriving DecidableEq, Repr

end Sys2Proof
end

