-- ==== Sys2Proof/WellFormed.lean ====
section
/-! DEFINITION. Which commands the world can send: each operand within the range its rule or its layout gives it. -/

namespace Sys2Proof

/-- A station number a bay can have (00_scope.md, Station). -/
def bayNumber (n : Nat) : Bool := decide (1 ≤ n) && decide (n ≤ 48)

/-- A countdown or latest start fits the three signed bytes of R177. -/
def fitsSigned24 (v : Int) : Bool := decide (-8388608 ≤ v) && decide (v ≤ 8388607)

/-- A temperature fits the one signed byte of R177. -/
def fitsSigned8 (v : Int) : Bool := decide (-128 ≤ v) && decide (v ≤ 127)

/-- The fields of R92's HEAT_CLAIM row that have values to lie outside of. -/
def heatClaimForm (wanted intended drawn power : Nat) : Bool :=
  decide (wanted ≤ 4) && decide (intended ≤ 4) && decide (drawn ≤ 4) && decide (10 ≤ power) && decide (power ≤ 60)

/-- The condition sources, the only ones with a repeat timer (R163). -/
def Source.isCondition : Source → Bool
  | .linkLost | .identityMismatch | .blockingFault | .addressConflict | .heatStarved | .supplySag => true
  | _ => false

/-- A command the world can send. The moment has no bound, and what the present state allows is for the meaning to say. -/
def Instr.wellFormed : Instr → Bool
  | .configCheckWordReceived _ words _ => decide (words.length = Config.imageWords)
  | .configReadTimeout _ words => decide (words.length < Config.imageWords)
  | .identifyResponse _ tag coach cls hint =>
      decide (tag ≤ 15) && decide (coach ≤ 65535) && decide (cls ≤ 3) && decide (hint ≤ 255)
  | .lampSetResponse _ tag channel _ => decide (tag ≤ 15) && decide (channel ≤ 31)
  | .readTempResponse _ tag reading =>
      decide (tag ≤ 15) && (match reading with | none => true | some v => decide (-127 ≤ v) && decide (v ≤ 127))
  | .faultNextEntry _ tag module code _ count next =>
      decide (tag ≤ 15) && decide (module ≤ 255) && decide (code ≤ 65535) && decide (count ≤ 255) && decide (next ≤ 65535)
  | .faultNextEndMark _ tag => decide (tag ≤ 15)
  | .linkResponseMalformed _ tag => decide (tag ≤ 15)
  | .linkResponseOtherTag _ tag => decide (tag ≤ 15)
  | .warmTimerExpiry _ current => decide (current ≤ Config.senseTop)
  | .steadyMeasureEnd _ mean => decide (mean ≤ Config.senseTop)
  | .shortWatchBlockEnd _ mean => decide (mean ≤ Config.senseTop)
  | .litLevelAccepted _ _ mean => decide (mean ≤ Config.senseTop)
  | .captureWindowExpiry _ onMean tailMean => decide (onMean ≤ Config.senseTop) && decide (tailMean ≤ Config.senseTop)
  | .heatClaimReceived _ sender _ wanted intended drawn power latest =>
      bayNumber sender && heatClaimForm wanted intended drawn power && fitsSigned24 latest
  | .departClaimReceived _ sender _ countdown => bayNumber sender && fitsSigned24 countdown
  | .airTempReceived _ sender temp => bayNumber sender && fitsSigned8 temp
  | .peerPartExpiry _ station _ => bayNumber station
  | .assign _ coach countdown => decide (coach ≤ 65535) && decide (countdown ≤ 65535)
  | .probeTimerExpiry _ _ => true
  | .noticeRepeatExpiry _ source => source.isCondition
  | .rawInputChange _ (.flash onMean) current => decide (current ≤ Config.senseTop) && decide (onMean ≤ Config.senseTop)
  | .rawInputChange _ .presence level | .rawInputChange _ .plug level | .rawInputChange _ .key level => decide (level ≤ 1)
  | .powerOn | .resetLine _ | .startIntervalEnd _ | .presenceAcceptedOccupied _
  | .presenceAcceptedClear _ | .plugAcceptedIn _ | .plugAcceptedOut _ | .keyAccepted _ _ | .reidentifyTimerExpiry _
  | .linkTimeout _ | .pollTimerExpiry _ | .cacheStaleTimerExpiry _ | .passTimerExpiry _ | .linkWaitExpiry _
  | .supplySenseChange _ _ | .sagDetected _ | .supplyRecovered _ | .lineIdle _ | .arbitrationLost _ | .frameFinished _
  | .transmitError _ | .quietTimerExpiry _ | .frameMalformed _ _ | .frameSenderRefused _ | .frameNotForBay _
  | .unconfiguredFrameReceived _ | .ownNumberHeard _ | .conflictTimerExpiry _ | .holdSet _ | .holdClear _
  | .holdTimerExpiry _ | .cancel _ | .waiveLamp _ | .waiveFault _ | .waiveHeat _ | .recheckLamps _ | .recheckFaults _
  | .maskSetSources _ _ | .maskClearSources _ _ | .maskAllOn _ | .maskAllOff _ | .reportReqFaults _ | .reportReqLamps _
  | .reportReqBayStatus _ | .claimPeriodExpiry _ | .meterPulse _ | .meterWindowExpiry _ | .countdownTick _
  | .settleTimerExpiry _ | .releaseWindowExpiry _ | .transitTimerExpiry _ => true

end Sys2Proof
end

