-- ==== Sys2Proof/Decode.lean ====
section
/-! DEFINITION. What the bits outside the part spell: the opcode table's words (it gives none), the check field, and the sorting of raw
line frames and raw link responses into commands (R24, R30, R31, R33, R36, R92 to R96, R177). -/

namespace Sys2Proof

/-- The command a word of spec/opcode_table.json spells. The table gives bits for no row, so no word spells a command. -/
def decodeTableWord (_nbits _w : Nat) : Option Instr := none

/-! ### The check field (12, section 12.1) -/

/-- One bit into the cyclic check with generator x^16 + x^12 + x^5 + 1. -/
def crcBit (r : BitVec 16) (b : Bool) : BitVec 16 :=
  if (r.getLsbD 15 ^^ b) then (r <<< 1) ^^^ 0x1021#16 else r <<< 1

/-- The check over bits in the order they are sent, from all ones. -/
def crc (bits : List Bool) : BitVec 16 := bits.foldl crcBit 0xFFFF#16

/-- The bits of a value, most significant first (R177). -/
def bitsOf {w : Nat} (v : BitVec w) : List Bool := (List.range w).map fun i => v.getLsbD (w - 1 - i)

/-! ### Numbers in fields (R177) -/

/-- Two bytes, most significant first. -/
def join2 (a b : Byte) : BitVec 16 := a ++ b

/-- Three bytes, most significant first, in two's complement. -/
def signed3 (a b c : Byte) : Int := ((a ++ b ++ c : BitVec 24)).toInt

/-! ### Line frames -/

/-- A frame as the wires bring it: identifier, length, payload and check field, and whether it came whole. -/
structure RawFrame where
  kind : BitVec 4
  sender : BitVec 6
  len : BitVec 4
  payload : List Byte
  check : BitVec 16
  whole : Bool
  deriving DecidableEq, Repr

/-- The bits a frame's check field is taken over. -/
def RawFrame.bits (f : RawFrame) : List Bool :=
  bitsOf f.kind ++ bitsOf f.sender ++ bitsOf f.len ++ (f.payload.map bitsOf).flatten

/-- The frame came whole with a right check field. -/
def RawFrame.checkRight (f : RawFrame) : Bool :=
  f.whole && decide (f.len.toNat = f.payload.length) && decide (f.check = crc f.bits)

/-- The heat state a byte stands for (R177), as R92 requires. -/
def heatStateOf (b : Byte) : Option HeatState :=
  match b.toNat with
  | 0 => some .off
  | 1 => some .waiting
  | 2 => some .starved
  | 3 => some .heating
  | 4 => some .maintain
  | 5 => some .shed
  | 6 => some .fault
  | _ => none

/-- The claimed departure state a byte stands for (R92, R177). -/
def claimStateOf (b : Byte) : Option ClaimState :=
  match b.toNat with
  | 0 => some .none
  | 1 => some .assigned
  | 2 => some .ready
  | 3 => some .settling
  | 4 => some .holding
  | _ => none

/-- A frame's meaning once its form is right: the target it names, if its kind has one, and the commands it stands for at
moment `t`. A frame that asks for several things is its rows in succession (log 7). -/
structure Meaning where
  target : Option Nat
  commands : List Instr

/-- A targeted frame: the target must be 0 to 63 (R92). -/
def targeted (b : Byte) (commands : List Instr) : Option Meaning :=
  if b.toNat ≤ 63 then some { target := some b.toNat, commands := commands } else none

/-- The form of a payload by kind (R92; 12, section 12.1), and what it stands for. None is a malformed frame. The last kinds are other
bays' words to the panels, which no block takes (R94). A countdown or a latest start is taken as its three bytes carry it, also outside the
range R177 names (R92; log 38). -/
def payloadMeaning (t : Nat) (f : RawFrame) : Option Meaning :=
  let plain (cs : List Instr) : Option Meaning := some { target := none, commands := cs }
  match f.kind.toNat, f.payload with
  | 0, [op] => if op = 1 then plain [.holdSet t] else if op = 0 then plain [.holdClear t] else none
  | 1, [st, a, b, c] => (claimStateOf st).bind fun s => plain [.departClaimReceived t f.sender.toNat s (signed3 a b c)]
  | 2, [st, w, i, d, p, a, b, c] =>
      (heatStateOf st).bind fun s =>
        if heatClaimForm w.toNat i.toNat d.toNat p.toNat then
          plain [.heatClaimReceived t f.sender.toNat s w.toNat i.toNat d.toNat p.toNat (signed3 a b c)]
        else none
  | 3, [tg, a, b, c, d] => targeted tg [.assign t (join2 a b).toNat (join2 c d).toNat]
  | 4, [tg] => targeted tg [.cancel t]
  | 5, [tg, k] =>
      if k.toNat = 0 ∨ 7 < k.toNat then none
      else targeted tg ((if k.getLsbD 0 then [.waiveLamp t] else []) ++ (if k.getLsbD 1 then [.waiveFault t] else []) ++
        (if k.getLsbD 2 then [.waiveHeat t] else []))
  | 6, [tg, w] =>
      match w.toNat with
      | 1 => targeted tg [.recheckLamps t]
      | 2 => targeted tg [.recheckFaults t]
      | 3 => targeted tg [.recheckLamps t, .recheckFaults t]
      | _ => none
  | 7, [tg, op, a, b] =>
      match op.toNat with
      | 0 => targeted tg [.maskSetSources t (join2 a b)]
      | 1 => targeted tg [.maskClearSources t (join2 a b)]
      | 2 => targeted tg [.maskAllOn t]
      | 3 => targeted tg [.maskAllOff t]
      | _ => none
  | 8, [v] => plain [.airTempReceived t f.sender.toNat v.toInt]
  | 9, [src, _, _, _] => if src.toNat ≤ 15 then plain [.frameNotForBay t] else none
  | 10, [tg, k] =>
      match k.toNat with
      | 0 => targeted tg [.reportReqFaults t]
      | 1 => targeted tg [.reportReqLamps t]
      | 2 => targeted tg [.reportReqBayStatus t]
      | _ => none
  | 11, [_, _, _, _, _, _, _, _] => plain [.frameNotForBay t]
  | 12, [_, _, _, _, _] => plain [.frameNotForBay t]
  | 13, [_, _, _, _, _, _, _, _] => plain [.frameNotForBay t]
  | _, _ => none

/-- The kinds only panels send (R93). -/
def panelKind (k : Nat) : Bool := decide (k ∈ [0, 3, 4, 5, 6, 7, 10])

/-- The sender may send the kind: a panel a panel's, a bay a bay's; unused numbers may send nothing (R93). -/
def senderAllowed (kind sender : Nat) : Bool :=
  if panelKind kind then decide (56 ≤ sender) && decide (sender ≤ 63) else bayNumber sender

/-- The target is the one the kind requires: the own number, or for MASK also 0 (R94). -/
def targetRight (own kind : Nat) (target : Option Nat) : Bool :=
  match target with
  | none => true
  | some n => decide (n = own) || (decide (kind = 7) && decide (n = 0))

/-- The commands a frame on the wires stands for at a station, by the filters of R92, R93 and R94 in their order. `own` is the
own number, none while the part is unconfigured (R96). -/
def sortFrame (own : Option Nat) (t : Nat) (f : RawFrame) : List Instr :=
  if f.checkRight then
    match payloadMeaning t f with
    | none => [.frameMalformed t true]
    | some m =>
        match own with
        | none => [.unconfiguredFrameReceived t]
        | some n =>
            if f.sender.toNat = n then [.ownNumberHeard t]
            else if !senderAllowed f.kind.toNat f.sender.toNat then [.frameSenderRefused t]
            else if !targetRight n f.kind.toNat m.target then [.frameNotForBay t]
            else m.commands
  else [.frameMalformed t false]

/-! ### Link responses (12, section 12.2) -/

/-- A link message as it comes: the header byte, the fields, the check. -/
structure RawReply where
  header : Byte
  fields : List Byte
  check : BitVec 16
  deriving DecidableEq, Repr

def RawReply.kind (r : RawReply) : Nat := r.header.toNat / 16

def RawReply.tag (r : RawReply) : Nat := r.header.toNat % 16

def RawReply.checkRight (r : RawReply) : Bool := decide (r.check = crc (bitsOf r.header ++ (r.fields.map bitsOf).flatten))

/-- The severity a byte stands for (R36, R177). -/
def severityOf (b : Byte) : Option Severity :=
  match b.toNat with
  | 0 => some .info
  | 1 => some .advisory
  | 2 => some .blocking
  | _ => none

/-- The command a response's fields stand for, none where they are not well-formed for the kind in its header. -/
def replyMeaning (t : Nat) (r : RawReply) : Option Instr :=
  match r.kind, r.fields with
  | 1, [a, b, c, h] =>
      if c.toNat ≤ 3 then some (.identifyResponse t r.tag (join2 a b).toNat c.toNat h.toNat) else none
  | 2, [c, v] =>
      if c.toNat ≤ 31 ∧ v.toNat ≤ 1 then some (.lampSetResponse t r.tag c.toNat (decide (v.toNat = 1))) else none
  | 3, [v] => some (.readTempResponse t r.tag (if v.toInt = -128 then none else some v.toInt))
  | 4, [m, md, a, b, sv, n, c, d] =>
      match m.toNat with
      | 0 => (severityOf sv).map fun s => .faultNextEntry t r.tag md.toNat (join2 a b).toNat s n.toNat (join2 c d).toNat
      | 1 => some (.faultNextEndMark t r.tag)
      | _ => none
  | _, _ => none

/-- The command a response stands for while the transaction in progress, if any, has tag `tag`. A tag that differs, or no
transaction, discards it; a failed check or fields out of form fail the transaction (R24; log 10). -/
def sortReply (tag : Option Nat) (t : Nat) (r : RawReply) : Instr :=
  if tag = some r.tag then
    match (if r.checkRight then replyMeaning t r else none) with
    | some i => i
    | none => .linkResponseMalformed t r.tag
  else .linkResponseOtherTag t r.tag

end Sys2Proof
end

