-- ==== Sys2Proof/Machine/State.lean ====
section
/-! DEFINITION. The state of the part, block by block, and its value right after a power-on reset. A timer is the uptime in
milliseconds of its expiry, or none while it is stopped. -/

namespace Sys2Proof.Machine

open Sys2Proof

/-! ### Bay monitor (01) -/

/-- The occupancy states in the order section 1.1 gives them. -/
inductive Occupancy where
  | empty | present | linking | connected | unlinked
  deriving DecidableEq, Repr

inductive Aspect where
  | red | amber | green
  deriving DecidableEq, Repr

/-- A filtered input (R1): the raw level, the accepted level, and the moment the candidate change began. True is occupied,
in, on, or lit. -/
structure Filter where
  raw : Bool
  level : Bool
  since : Option Nat
  deriving DecidableEq, Repr

/-- A coach identity: number 0 to 65535 and class 0 to 3. -/
structure Identity where
  coach : Nat
  cls : Nat
  deriving DecidableEq, Repr

/-- The session, with the identity it holds while open or departing. -/
inductive Session where
  | none
  | opened (id : Identity)
  | departing (id : Identity)
  deriving DecidableEq, Repr

structure Bay where
  occupancy : Occupancy
  presence : Filter
  plug : Filter
  key : Filter
  implied : Bool
  session : Session
  aspect : Aspect
  reidentify : Option Nat
  startInterval : Option Nat
  deriving DecidableEq, Repr

/-- Why a session ended (R15). -/
inductive EndCause where
  | bayEmptied | identityReplaced | departureCompleted
  deriving DecidableEq, Repr

/-! ### Link controller (02) -/

inductive LinkState where
  | unplugged | opening | up | lost
  deriving DecidableEq, Repr

/-- A transaction kind with its parameters (02, section 2.3). -/
inductive Request where
  | identify
  | lampSet (channel : Nat) (on : Bool)
  | readTemp
  | faultNext (cursor : Nat)
  deriving DecidableEq, Repr

/-- The transaction on the wires: what was asked, its tag, the end of the 250 ms, and whether its requester still counts
the result (R22: a requester that has lost interest discards it). -/
structure Transaction where
  request : Request
  tag : Nat
  timer : Nat
  live : Bool
  deriving DecidableEq, Repr

/-- A waiting LAMP_SET. -/
structure LampReq where
  channel : Nat
  on : Bool
  live : Bool
  deriving DecidableEq, Repr

inductive CacheContent where
  | none
  | reading (temp : Int)
  | noSensor
  deriving DecidableEq, Repr

/-- The cabin temperature cache (R20, R33, R34). -/
structure Cache where
  content : CacheContent
  taken : Nat
  fresh : Bool
  staleTimer : Option Nat
  deriving DecidableEq, Repr

structure Pass where
  cursor : Nat
  count : Nat
  deriving DecidableEq, Repr

structure Link where
  state : LinkState
  busy : Option Transaction
  identifyReq : Bool
  lampReq : Option LampReq
  tempReq : Bool
  faultReq : Option Nat
  failureRun : Nat
  tag : Nat
  cache : Cache
  pollTimer : Option Nat
  pass : Option Pass
  passOwed : Bool
  passTimer : Option Nat
  deriving DecidableEq, Repr

/-! ### Fault list (03) -/

inductive Origin where
  | coach | lamp | station
  deriving DecidableEq, Repr

inductive Retention where
  | newest | first
  deriving DecidableEq, Repr

/-- A fault record (R41). -/
structure FaultRecord where
  origin : Origin
  module : Nat
  code : Nat
  severity : Severity
  count : Nat
  active : Bool
  firstSeen : Nat
  lastSeen : Nat
  stamp : Option Nat
  deriving DecidableEq, Repr

/-- The pass whose entries are arriving: its number and the entries received. -/
structure CurrentPass where
  number : Nat
  entries : Nat
  deriving DecidableEq, Repr

structure Faults where
  records : List FaultRecord
  nextPass : Nat
  current : Option CurrentPass
  blockingLost : Bool
  figure : Option Nat
  retention : Retention
  deriving DecidableEq, Repr

/-! ### Lamp checker (04) -/

/-- One step of a lamp program (R60). -/
structure LampStep where
  channel : Nat
  flashing : Bool
  blocking : Bool
  onThreshold : Nat
  deriving DecidableEq, Repr

/-- The verdicts from best to worst (R71). -/
inductive Verdict where
  | ok | low | high | slow | fast | duty | noFlash | stuckOn | unclassified | openCircuit | short | incomplete
  deriving DecidableEq, Repr

inductive Stage where
  | clearOff | feedOn | warm | measure | switchOff | linkWait | sagWait | paused
  deriving DecidableEq, Repr

inductive SheetState where
  | empty | running | partly | complete
  deriving DecidableEq, Repr

/-- A sheet entry (R72); the result is absent until the step is recorded. -/
structure SheetEntry where
  step : Nat
  channel : Nat
  blocking : Bool
  result : Option (Verdict × Nat)
  deriving DecidableEq, Repr

structure Sheet where
  state : SheetState
  entries : List SheetEntry
  deriving DecidableEq, Repr

/-- The capture of a FLASHING step (R69): its window, the lit filter, the level accepted at its opening, whether a falling edge
has been accepted, and the times of the rising edges and of the first falling edge after each, oldest first. -/
structure Capture where
  window : Nat
  lit : Filter
  litAtOpening : Bool
  fallen : Bool
  rises : List Nat
  falls : List Nat
  deriving DecidableEq, Repr

structure Lamps where
  running : Bool
  step : Option Nat
  stage : Option Stage
  failures : Nat
  begunAgain : Bool
  sagRetry : Bool
  shortTaken : Bool
  loose : Option Nat
  feed : Bool
  sheet : Sheet
  program : List LampStep
  measured : Option (Verdict × Nat)
  warmTimer : Option Nat
  meanTimer : Option Nat
  watchTimer : Option Nat
  linkWaitTimer : Option Nat
  capture : Option Capture
  offOwed : Bool
  deriving DecidableEq, Repr

/-! ### Peer table (06) -/

structure HeatPart where
  state : HeatState
  wanted : Nat
  power : Nat
  latest : Int
  heard : Nat
  deriving DecidableEq, Repr

structure DepartPart where
  state : ClaimState
  countdown : Int
  heard : Nat
  deriving DecidableEq, Repr

structure AirPart where
  temp : Int
  heard : Nat
  deriving DecidableEq, Repr

structure PeerEntry where
  station : Nat
  heat : Option HeatPart
  depart : Option DepartPart
  air : Option AirPart
  deriving DecidableEq, Repr

/-- The peer table in one canonical form: entries by rising station number, none without a part. -/
structure Peers where
  entries : List PeerEntry
  lowestGiven : Option Int
  deriving DecidableEq, Repr

/-! ### Heat controller (07, 08) -/

inductive LeadMark where
  | none | unreachable | saturated
  deriving DecidableEq, Repr

inductive CabinSource where
  | cabin | coldSoak
  deriving DecidableEq, Repr

/-- The lead record (R109). -/
structure Lead where
  lead : Nat
  mark : LeadMark
  cabin : Option (Int × CabinSource)
  probe : Option Int
  probeTimer : Option Nat
  latest : Option Int
  deriving DecidableEq, Repr

/-- The heat record (R121); `announced[n]` is the announcement of level `n + 1`. -/
structure Heat where
  state : HeatState
  called : Bool
  atTarget : Bool
  keepWarm : Bool
  heaterFault : Bool
  weakFound : Bool
  wanted : Nat
  grant : Nat
  intended : Nat
  drawn : Nat
  announced : Vector (Option Nat) 4
  claimTimer : Option Nat
  starvedRound : Bool
  deriving DecidableEq, Repr

/-- The supply monitor (R135); `dip` ends the 20 ms of an unbroken fall below the threshold. -/
structure Supply where
  sag : Bool
  detected : Bool
  recovery : Option Nat
  lowest : Option Nat
  level : Nat
  dip : Option Nat
  deriving DecidableEq, Repr

/-- The metering window (R137). -/
structure Meter where
  count : Nat
  window : Option Nat
  overdrawRun : Nat
  deriving DecidableEq, Repr

/-! ### Clearance (09) -/

inductive DepState where
  | none | assigned | ready | settling | holding | gone | lapsed
  deriving DecidableEq, Repr

/-- The departure record (R142); the key is the countdown and the moment of the first finished SETTLING claim. -/
structure Departure where
  state : DepState
  assignment : Option Nat
  countdown : Option Int
  nextFall : Option Nat
  waiveLamp : Bool
  waiveFault : Bool
  waiveHeat : Bool
  hold : Bool
  holdTimer : Option Nat
  settleTimer : Option Nat
  key : Option (Int × Nat)
  releaseTimer : Option Nat
  transitTimer : Option Nat
  deriving DecidableEq, Repr

/-! ### Notices and reports (10) -/

/-- An edge source's argument and more-than-once mark. -/
structure Instance where
  arg : Nat
  more : Bool
  deriving DecidableEq, Repr

/-- One notice source (R163, R164, R165); `taken` is the instance a frame on the wires carries. -/
structure SourceRec where
  pending : Bool
  masked : Bool
  inst : Instance
  taken : Option Instance
  holding : Bool
  repeatTimer : Option Nat
  deriving DecidableEq, Repr

inductive ReportKind where
  | faults | lamps | bayStatus
  deriving DecidableEq, Repr

structure Stream where
  kind : ReportKind
  next : Nat
  first : Bool
  deriving DecidableEq, Repr

structure Notices where
  sources : Vector SourceRec 16
  maskAll : Bool
  order : Nat
  stream : Option Stream
  replacement : Option ReportKind
  deriving DecidableEq, Repr

/-! ### Line controller (05) -/

/-- The values of a BAY_STATUS frame (R169). -/
structure BayStatus where
  occupancy : Occupancy
  heat : HeatState
  dep : DepState
  drawn : Nat
  lead : Nat
  mark : LeadMark
  records : Nat
  activeBlocking : Nat
  activeAdvisory : Nat
  blockingLost : Bool
  figure : Option Nat
  sheet : SheetState
  notOk : Nat
  blockingNotOk : Nat
  maskedPending : Word16
  deriving DecidableEq, Repr

/-- What the station's own frame carries, by kind (12, section 12.1). An empty report is a FAULT_ENTRY or LAMP_ENTRY with no
record or entry (R169). -/
inductive Content where
  | depart (state : ClaimState) (countdown : Int)
  | heat (state : HeatState) (wanted intended drawn power : Nat) (latest : Int)
  | air (temp : Int)
  | notice (source : Source) (arg : Nat) (more : Bool)
  | faultEntry (position : Nat) (record : Option FaultRecord)
  | lampEntry (step : Nat) (entry : Option SheetEntry)
  | bayStatus (status : BayStatus)
  deriving DecidableEq, Repr

/-- The frame in flight, and whether its claim was made due again while it was on the wires (R88). -/
structure Flight where
  content : Content
  renewed : Bool
  deriving DecidableEq, Repr

inductive LineStatus where
  | normal | quiet | probing
  deriving DecidableEq, Repr

/-- The line record (R84), and the receipt mark given to the latest frame received (R92; log 28). -/
structure Line where
  departSlot : Bool
  heatSlot : Bool
  airSlot : Bool
  inFlight : Option Flight
  status : LineStatus
  errorRun : Nat
  quietTimer : Option Nat
  conflict : Bool
  conflictTimer : Option Nat
  receiptMark : Bool
  deriving DecidableEq, Repr

/-! ### Configuration and start (11) -/

inductive BandLabel where
  | ok | low | high | openCircuit | short
  deriving DecidableEq, Repr

structure Band where
  lower : Nat
  upper : Nat
  label : BandLabel
  deriving DecidableEq, Repr

/-- The figures and the lamp program of one coach class (R171). -/
structure ClassFigures where
  target : Int
  demand : Nat
  loss : Nat
  program : List LampStep
  deriving DecidableEq, Repr

/-- The configuration image as clamped (R171, R173). The check word is kept as read and has no default: it is none where the memory did
not deliver it (R171, R172). -/
structure Image where
  station : Nat
  budget : Nat
  stages : Nat
  power : Nat
  meterFitted : Bool
  whPerPulse : Nat
  probeFitted : Bool
  design : Int
  sagCode : Nat
  retention : Retention
  releaseWindow : Nat
  transit : Nat
  allowance : Nat
  order : Nat
  masks : Word16
  shortestPeriod : Nat
  longestPeriod : Nat
  leastDuty : Nat
  greatestDuty : Nat
  bands : List Band
  classes : Vector ClassFigures 4
  checkWord : Option Word16
  deriving DecidableEq, Repr

inductive Phase where
  | reading | configured | unconfigured
  deriving DecidableEq, Repr

structure Start where
  phase : Phase
  unconfigured : Bool
  readTimer : Option Nat
  image : Image
  deriving DecidableEq, Repr

/-! ### The whole part -/

structure State where
  pending : List Instr
  now : Nat
  start : Start
  bay : Bay
  link : Link
  faults : Faults
  lamps : Lamps
  line : Line
  peers : Peers
  lead : Lead
  heat : Heat
  supply : Supply
  meter : Meter
  dep : Departure
  notices : Notices
  deriving DecidableEq, Repr

/-- The part never stops: the spec names no command that halts it, so no reason exists. -/
inductive Fault where
  deriving DecidableEq, Repr

/-- Reasons for which a command has no meaning here. -/
inductive Refusal where
  /-- Raised by an arm of exec whose command has no meaning yet. Safe: the model stops where the part goes on. -/
  | notModelled (mnemonic : String)
  deriving DecidableEq, Repr

/-! ### Reset values -/

/-- The filter at reset: the accepted level is the reset level, and a raw input that reads otherwise is a candidate whose
time counts from the start of the interval (R2). -/
def Filter.atReset (raw : Bool) : Filter := { raw := raw, level := false, since := if raw then some 0 else none }

def ClassFigures.default : ClassFigures := { target := 36, demand := 100, loss := 50, program := [] }

def Band.unused : Band := { lower := 2000, upper := 0, label := .ok }

/-- Every field at R171's default. -/
def Image.default : Image :=
  { station := 0, budget := 100, stages := 0, power := 10, meterFitted := false, whPerPulse := 1, probeFitted := false,
    design := Config.designDefault, sagCode := 2, retention := .newest, releaseWindow := 120, transit := 40, allowance := 120,
    order := 2, masks := 0, shortestPeriod := 250, longestPeriod := 2000, leastDuty := 20, greatestDuty := 80,
    bands := List.replicate 8 Band.unused,
    classes := #v[ClassFigures.default, ClassFigures.default, ClassFigures.default, ClassFigures.default],
    checkWord := none }

def SourceRec.atReset : SourceRec :=
  { pending := false, masked := false, inst := { arg := 0, more := false }, taken := none, holding := false, repeatTimer := none }

/-- The sixteen sources at reset, START raised with the cause of the reset (R163). -/
def Notices.atReset (cause : Nat) : Notices :=
  { sources := #v[{ SourceRec.atReset with pending := true, inst := { arg := cause, more := false } },
      .atReset, .atReset, .atReset, .atReset, .atReset, .atReset, .atReset,
      .atReset, .atReset, .atReset, .atReset, .atReset, .atReset, .atReset, .atReset],
    maskAll := false, order := 2, stream := none, replacement := none }

def Cache.atReset : Cache := { content := .none, taken := 0, fresh := false, staleTimer := none }

def Bay.atReset (presence plug key : Bool) : Bay :=
  { occupancy := .empty, presence := .atReset presence, plug := .atReset plug, key := .atReset key, implied := false,
    session := .none, aspect := .red, reidentify := none, startInterval := some Config.startInterval }

def Link.atReset : Link :=
  { state := .unplugged, busy := none, identifyReq := false, lampReq := none, tempReq := false, faultReq := none,
    failureRun := 0, tag := 0, cache := .atReset, pollTimer := none, pass := none, passOwed := false, passTimer := none }

def Faults.atReset : Faults :=
  { records := [], nextPass := 1, current := none, blockingLost := false, figure := none, retention := .newest }

def Lamps.atReset : Lamps :=
  { running := false, step := none, stage := none, failures := 0, begunAgain := false, sagRetry := false, shortTaken := false,
    loose := none, feed := false, sheet := { state := .empty, entries := [] }, program := [], measured := none,
    warmTimer := none, meanTimer := none, watchTimer := none, linkWaitTimer := none, capture := none, offOwed := false }

def Line.atReset : Line :=
  { departSlot := false, heatSlot := false, airSlot := false, inFlight := none, status := .normal, errorRun := 0,
    quietTimer := none, conflict := false, conflictTimer := none, receiptMark := false }

def Lead.atReset : Lead :=
  { lead := 0, mark := .none, cabin := none, probe := none, probeTimer := none, latest := none }

def Heat.atReset : Heat :=
  { state := .off, called := false, atTarget := false, keepWarm := false, heaterFault := false, weakFound := false,
    wanted := 0, grant := 0, intended := 0, drawn := 0, announced := #v[none, none, none, none], claimTimer := none,
    starvedRound := false }

def Supply.atReset (level : Nat) : Supply :=
  { sag := true, detected := false, recovery := none, lowest := none, level := level, dip := none }

def Meter.atReset : Meter := { count := 0, window := none, overdrawRun := 0 }

def Departure.atReset : Departure :=
  { state := .none, assignment := none, countdown := none, nextFall := none, waiveLamp := false, waiveFault := false,
    waiveHeat := false, hold := false, holdTimer := none, settleTimer := none, key := none, releaseTimer := none,
    transitTimer := none }

/-- A reset (R176): every block at its reset values, START raised with `cause`, the read and the start interval running. The
raw inputs are outside the part and stand as they are (R2; log 5); the unconfigured flag outlasts the reset (R175); the queue
of commands is the world's. -/
def State.afterReset (s : State) (cause : Nat) : State :=
  { pending := s.pending, now := 0,
    start := { phase := .reading, unconfigured := s.start.unconfigured, readTimer := some Config.readTime, image := .default },
    bay := .atReset s.bay.presence.raw s.bay.plug.raw s.bay.key.raw,
    link := .atReset, faults := .atReset, lamps := .atReset, line := .atReset, peers := { entries := [], lowestGiven := none },
    lead := .atReset, heat := .atReset, supply := .atReset s.supply.level, meter := .atReset, dep := .atReset,
    notices := .atReset cause }

/-- The part right after its first power-on: raw inputs clear, out, off and 0 V (DESIGN CHOICE, log 5), the unconfigured flag clear
(DESIGN CHOICE, log 14), no command waiting. -/
def State.reset : State :=
  { pending := [], now := 0,
    start := { phase := .reading, unconfigured := false, readTimer := some Config.readTime, image := .default },
    bay := .atReset false false false,
    link := .atReset, faults := .atReset, lamps := .atReset, line := .atReset, peers := { entries := [], lowestGiven := none },
    lead := .atReset, heat := .atReset, supply := .atReset 0, meter := .atReset, dep := .atReset, notices := .atReset 0 }

end Sys2Proof.Machine
end

