-- ==== Sys2Proof/Machine/Image.lean ====
section
/-! DEFINITION. Reading the configuration image: its layout (12, section 12.3), its check (R172), its clamping (R173) and the
defaults of fields not delivered (R171). -/

namespace Sys2Proof.Machine

open Sys2Proof

/-- The high byte of a word: the first of a byte pair. -/
def highByte (w : Word16) : Nat := w.toNat / 256

/-- The low byte of a word: the second of a byte pair. -/
def lowByte (w : Word16) : Nat := w.toNat % 256

/-- A byte read in two's complement (R177). -/
def signedByte (b : Nat) : Int := (BitVec.ofNat 8 b).toInt

/-- A field read from word `i` of the words received, or its default where that word was not delivered (R172). -/
def field (words : List Word16) (i : Nat) (dflt : α) (f : Word16 → α) : α :=
  match words[i]? with
  | some w => f w
  | none => dflt

/-- The Wh-per-pulse a code stands for; a code above 3 is taken as the highest (R173). -/
def whOfCode (code : Nat) : Nat :=
  match code with
  | 0 => 1
  | 1 => 2
  | 2 => 5
  | _ => 10

/-- A band label's code; above 4 it is taken as SHORT (R173). -/
def labelOfCode (code : Nat) : BandLabel :=
  match code with
  | 0 => .ok
  | 1 => .low
  | 2 => .high
  | 3 => .openCircuit
  | _ => .short

/-- Band `n`, three words from word 14. -/
def bandAt (words : List Word16) (n : Nat) : Band :=
  { lower := field words (14 + 3 * n) 2000 fun w => clampNat 0 2000 w.toNat,
    upper := field words (15 + 3 * n) 0 fun w => clampNat 0 2000 w.toNat,
    label := field words (16 + 3 * n) .ok fun w => labelOfCode w.toNat }

/-- The band table is one field: with any of its words missing, every band is unused (log 12). -/
def bandsOf (words : List Word16) : List Band :=
  if 38 ≤ words.length then (List.range 8).map (bandAt words) else List.replicate 8 Band.unused

/-- The target temperature a word holds: words to 127 read the same as a byte and as a word, the others are the free value of
log 11; R173 clamps the result. -/
def targetOfWord (w : Word16) : Int :=
  clampInt 20 50 (if w.toNat ≤ 127 then (w.toNat : Int) else Config.targetWord w)

/-- The step whose two words stand at `i` (12, section 12.3). -/
def stepAt (words : List Word16) (i : Nat) : LampStep :=
  { channel := field words i 0 fun w => clampNat 0 31 (highByte w),
    flashing := field words i false fun w => w.getLsbD 0,
    blocking := field words i false fun w => w.getLsbD 1,
    onThreshold := field words (i + 1) 0 fun w => clampNat 0 2000 w.toNat }

/-- The lamp program whose step count stands at `i`. It is one field: with any of its 33 words missing it has no steps (log 12). -/
def programAt (words : List Word16) (i : Nat) : List LampStep :=
  if i + 33 ≤ words.length then
    field words i [] fun w => (List.range (clampNat 0 16 w.toNat)).map fun k => stepAt words (i + 1 + 2 * k)
  else []

/-- The block of class `c`, 36 words from word 38. -/
def classAt (words : List Word16) (c : Nat) : ClassFigures :=
  { target := field words (38 + 36 * c) 36 targetOfWord,
    demand := field words (39 + 36 * c) 100 fun w => clampNat 100 2000 w.toNat,
    loss := field words (40 + 36 * c) 50 fun w => clampNat 50 600 w.toNat,
    program := programAt words (41 + 36 * c) }

/-- The clamped image the words received make (R171, R172, R173). -/
def imageOf (words : List Word16) : Image :=
  { station := field words 0 0 fun w => w.toNat,
    budget := field words 1 100 fun w => clampNat 100 5000 w.toNat,
    stages := field words 2 0 fun w => clampNat 0 4 (highByte w),
    power := field words 2 10 fun w => clampNat 10 60 (lowByte w),
    meterFitted := field words 3 false fun w => highByte w != 0,
    whPerPulse := field words 3 1 fun w => whOfCode (lowByte w),
    probeFitted := field words 4 false fun w => highByte w != 0,
    design := field words 4 Config.designDefault fun w => clampInt Config.lowestTemp Config.highestTemp (signedByte (lowByte w)),
    sagCode := field words 5 2 fun w => clampNat 0 3 (highByte w),
    retention := field words 5 .newest fun w => if lowByte w = 0 then .newest else .first,
    releaseWindow := field words 6 120 fun w => clampNat 30 300 w.toNat,
    transit := field words 7 40 fun w => clampNat 10 120 w.toNat,
    allowance := field words 8 120 fun w => clampNat 0 300 w.toNat,
    order := field words 9 2 fun w => clampNat 0 7 w.toNat,
    masks := field words 10 0 id,
    shortestPeriod := field words 11 250 fun w => clampNat 250 2000 w.toNat,
    longestPeriod := field words 12 2000 fun w => clampNat 250 2000 w.toNat,
    leastDuty := field words 13 20 fun w => clampNat 20 80 (highByte w),
    greatestDuty := field words 13 80 fun w => clampNat 20 80 (lowByte w),
    bands := bandsOf words,
    classes := #v[classAt words 0, classAt words 1, classAt words 2, classAt words 3],
    checkWord := words[Config.imageWords - 1]? }

/-- The sum of the words before the check word, modulo 65536 (R172). -/
def imageSum (words : List Word16) : Word16 := words.foldl (· + ·) 0

/-- Whether a whole image passes: its sum equals its check word and its station number is a bay's (R172). -/
def imagePasses (words : List Word16) : Bool :=
  decide (words.length = Config.imageWords) &&
  decide (words[Config.imageWords - 1]? = some (imageSum (words.take (Config.imageWords - 1)))) &&
  field words 0 false fun w => decide (1 ≤ w.toNat) && decide (w.toNat ≤ 48)

end Sys2Proof.Machine
end

