-- ==== Sys2Proof/Machine/Ops.lean ====
section
/-! DEFINITION. Operations every block shares: the clock and timers, the input filters, claims made due, and the notice sources. -/

namespace Sys2Proof.Machine

open Sys2Proof

/-! ### Clock and timers -/

/-- The clock at the moment of a command; an earlier moment than the present cannot arise and leaves the clock (log 1). -/
def State.advance (s : State) (t : Nat) : State := { s with now := max s.now t }

/-- Whole seconds of uptime (00_scope.md, Time). -/
def State.uptime (s : State) : Nat := s.now / 1000

/-- Whether a timer is running and its expiry has come. -/
def fallenDue (timer : Option Nat) (now : Nat) : Bool :=
  match timer with
  | some d => decide (d ≤ now)
  | none => false

/-- The part is configured and brought up (R174, R175). -/
def State.configured (s : State) : Bool := decide (s.start.phase = .configured)

/-- The own station number; it is taken at bring-up (R96, R174). -/
def State.ownNumber (s : State) : Nat := s.start.image.station

/-! ### Filters (R1) -/

/-- A raw input takes a level: leaving the accepted level begins a candidate, returning to it discards the candidate, and an
input already there changes nothing. A candidate that lasted the long limit has been accepted before (Filter.heldTo). -/
def Filter.rawChange (f : Filter) (level : Bool) (now : Nat) : Filter :=
  if f.raw = level then f
  else { f with raw := level, since := if level = f.level then none else some now }

/-- A candidate for `level` has lasted at least the short limit, so the filter may accept it now (R1; log 2). -/
def Filter.mayAccept (f : Filter) (level : Bool) (short now : Nat) : Bool :=
  decide (f.level ≠ level) &&
  (match f.since with
   | some b => decide (b + short ≤ now)
   | none => false)

/-- A raw input leaves `f.raw` for `level` when its candidate has already lasted the long limit: the moment at which the candidate was
accepted, if no acceptance has been taken for it before (R1; log 3). -/
def Filter.heldTo (f : Filter) (level : Bool) (long now : Nat) : Option Nat :=
  match f.since with
  | some b => if f.raw ≠ level ∧ f.raw ≠ f.level ∧ b + long ≤ now then some (b + long) else none
  | none => none

def Filter.accept (f : Filter) (level : Bool) : Filter := { f with level := level, since := none }

/-! ### Claims made due (R87, R88) -/

/-- A DEPART_CLAIM falls due. It is discarded while the part is unconfigured (R96). A claim of the kind in flight is due again
after its finish (R88). -/
def makeDepartDue (s : State) : State :=
  if s.configured then
    { s with line := { s.line with
        departSlot := true,
        inFlight := s.line.inFlight.map fun f =>
          match f.content with
          | .depart _ _ => { f with renewed := true }
          | _ => f } }
  else s

/-- A HEAT_CLAIM falls due (R127). -/
def makeHeatDue (s : State) : State :=
  if s.configured then
    { s with line := { s.line with
        heatSlot := true,
        inFlight := s.line.inFlight.map fun f =>
          match f.content with
          | .heat _ _ _ _ _ _ => { f with renewed := true }
          | _ => f } }
  else s

/-- An AIR_TEMP falls due (R111). -/
def makeAirDue (s : State) : State :=
  if s.configured then
    { s with line := { s.line with
        airSlot := true,
        inFlight := s.line.inFlight.map fun f =>
          match f.content with
          | .air _ => { f with renewed := true }
          | _ => f } }
  else s

/-! ### Notice sources (R163 to R165) -/

def Notices.get (n : Notices) (src : Source) : SourceRec := n.sources[src.number]

def Notices.set (n : Notices) (src : Source) (r : SourceRec) : Notices :=
  { n with sources := n.sources.set src.number r }

/-- A source's record is changed by `f`. -/
def modifySource (src : Source) (f : SourceRec → SourceRec) (s : State) : State :=
  { s with notices := s.notices.set src (f (s.notices.get src)) }

/-- R164: a raise sets pending with the argument; on a pending source it replaces the argument and sets more-than-once. -/
def SourceRec.raise (arg : Nat) (r : SourceRec) : SourceRec :=
  if r.pending then { r with inst := { arg := arg, more := true } }
  else { r with pending := true, inst := { arg := arg, more := false } }

/-- R164: the frame begun takes the instance; a raise meanwhile starts a new one as if pending had been clear (log 15). -/
def SourceRec.take (r : SourceRec) : SourceRec := { r with pending := false, taken := some r.inst }

/-- R164: the frame has gone, and the taken instance with it. -/
def SourceRec.retire (r : SourceRec) : SourceRec := { r with taken := none }

/-- R164: the frame was lost or failed; the taken instance returns, and joins a newer one as the newer argument with the mark. -/
def SourceRec.giveBack (r : SourceRec) : SourceRec :=
  match r.taken with
  | none => r
  | some i =>
      if r.pending then { r with inst := { r.inst with more := true }, taken := none }
      else { r with pending := true, inst := i, taken := none }

/-- R165: the owner gives the condition as holding. -/
def SourceRec.begins (r : SourceRec) : SourceRec := { r with holding := true, pending := true }

/-- R165: the owner gives the condition as ended. -/
def SourceRec.ends (r : SourceRec) : SourceRec := { r with holding := false, pending := false, repeatTimer := none }

/-- R165: a NOTICE of a condition source finishes; the repeat timer starts if the condition still holds. -/
def SourceRec.told (now : Nat) (r : SourceRec) : SourceRec :=
  { r with pending := false,
           repeatTimer := if r.holding then some (now + Config.noticeRepeat) else r.repeatTimer }

/-- A source is masked while its own mask is set or mask-all is on (R163). -/
def Notices.masked (n : Notices) (src : Source) : Bool := n.maskAll || (n.get src).masked

/-- An edge source is raised with an argument, whatever the mask (R163, R164). -/
def raiseEdge (src : Source) (arg : Nat) (s : State) : State := modifySource src (.raise arg) s

end Sys2Proof.Machine
end

