-- ==== Sys2Proof/Machine/Flags.lean ====
section
/-! DEFINITION. The conditions the blocks compute from the state: identity and bay, fault and lamp blocking, the coach and line
conditions, the heat state's tests, and the conditions of the notice sources. -/

namespace Sys2Proof.Machine

open Sys2Proof

/-! ### The bay (R16) -/

/-- The coach identity the bay monitor gives: that of an open session (R16). -/
def State.identity (s : State) : Option Identity :=
  match s.bay.session with
  | .opened id => some id
  | _ => none

def State.sessionOpen (s : State) : Bool := s.identity.isSome

/-- Plugged for heat (R16). -/
def State.pluggedForHeat (s : State) : Bool :=
  decide (s.bay.occupancy = .connected) || decide (s.bay.occupancy = .unlinked)

/-- The class figures of the coach identity (R112). -/
def State.figures (s : State) : Option ClassFigures :=
  s.identity.map fun id => (s.start.image.classes[id.cls]?).getD ClassFigures.default

/-- The aspect clearance selects (R18, R142). -/
def aspectOf (d : DepState) : Aspect :=
  match d with
  | .holding => .green
  | .ready | .settling => .amber
  | _ => .red

/-- Lamp checks, recheck and fault passes begin only in NONE, ASSIGNED or READY (R35, R63, R65). -/
def DepState.early (d : DepState) : Bool :=
  match d with
  | .none | .assigned | .ready => true
  | _ => false

/-! ### Faults (R55, R58) -/

def Faults.activeOf (f : Faults) (sev : Severity) : Nat :=
  (f.records.filter fun r => r.active && decide (r.severity = sev)).length

/-- The fault blocking condition (R55). -/
def Faults.blocks (f : Faults) : Bool := decide (0 < f.activeOf .blocking) || f.blockingLost

/-! ### Lamps (R73, R82) -/

def SheetEntry.notOk (e : SheetEntry) : Bool :=
  match e.result with
  | some (v, _) => decide (v ≠ .ok)
  | none => false

/-- Entries not OK (R82). -/
def Sheet.notOk (sh : Sheet) : Nat := (sh.entries.filter (·.notOk)).length

/-- Blocking entries not OK (R82). -/
def Sheet.blockingNotOk (sh : Sheet) : Nat := (sh.entries.filter fun e => e.blocking && e.notOk).length

/-- The lamp blocking condition (R73). -/
def Sheet.blocks (sh : Sheet) : Bool := decide (sh.state ≠ .complete) || decide (0 < sh.blockingNotOk)

/-! ### The line and the peer table (R84, R106, R148) -/

/-- The line fault condition holds in QUIET and PROBING. -/
def State.lineFault (s : State) : Bool := decide (s.line.status ≠ .normal)

/-- The line conditions (R148). -/
def State.lineConditions (s : State) : Bool := !s.lineFault && !s.line.conflict

/-- The fresh-HOLDING condition, over the parts the table holds (R106). -/
def Peers.freshHolding (p : Peers) : Bool :=
  p.entries.any fun e =>
    match e.depart with
    | some d => decide (d.state = .holding)
    | none => false

/-- A value heard, less the whole seconds elapsed since (R102). -/
def ageAdjusted (now heard : Nat) (value : Int) : Int := value - ((now - heard) / 1000 : Nat)

/-- Whether a key ranks before another: the earlier value, and the lower station number among equals (R105, R106, R129, R151). -/
def keyBefore (v : Int) (n : Nat) (v' : Int) (n' : Nat) : Bool := decide (v < v') || (decide (v = v') && decide (n < n'))

/-- A lane contender: a READY or SETTLING part, age-adjusted (R106). -/
def PeerEntry.contender (now : Nat) (e : PeerEntry) : Option (Nat × ClaimState × Int) :=
  match e.depart with
  | some d =>
      if d.state = .ready ∨ d.state = .settling then some (e.station, d.state, ageAdjusted now d.heard d.countdown) else none
  | none => none

/-! ### Clearance (R146, R147) -/

/-- The identity condition (R146). -/
def State.identityHolds (s : State) : Bool :=
  match s.identity, s.dep.assignment with
  | some id, some a => decide (a = 0) || decide (a = id.coach)
  | _, _ => false

/-- The heat condition (R147). -/
def State.heatHolds (s : State) : Bool :=
  decide (s.start.image.stages = 0) || decide (s.lead.lead = 0) || decide (s.heat.state = .maintain) ||
  (match s.dep.countdown with
   | some c => decide (c ≤ 0)
   | none => false) || s.dep.waiveHeat

/-- The coach conditions (R147). -/
def State.coachConditions (s : State) : Bool :=
  s.dep.assignment.isSome && s.identityHolds && (!s.lamps.sheet.blocks || s.dep.waiveLamp) &&
  (!s.faults.blocks || s.dep.waiveFault) && s.heatHolds

/-- The countdown is present and at most `limit`. -/
def State.countdownAtMost (s : State) (limit : Int) : Bool :=
  match s.dep.countdown with
  | some c => decide (c ≤ limit)
  | none => false

/-! ### Heat (R123, R126) -/

/-- The departure states in which an assignment counts for heat (R123). -/
def DepState.heats (d : DepState) : Bool :=
  match d with
  | .assigned | .ready | .settling => true
  | _ => false

/-- The off conditions (R123). -/
def State.offCondition (s : State) : Bool :=
  decide (s.start.image.stages = 0) || !s.pluggedForHeat || !s.sessionOpen || !s.dep.state.heats || !s.configured ||
  s.lineFault || s.line.conflict

/-- The heat state's table (R123). -/
def State.heatTest (s : State) : HeatState :=
  if s.offCondition then .off
  else if s.heat.heaterFault then .fault
  else if !s.heat.called then .waiting
  else if s.supply.sag then .shed
  else if s.heat.atTarget then .maintain
  else if 0 < s.heat.grant then .heating
  else .starved

/-- Wanted, by heat state (R126). -/
def State.wantedNow (s : State) : Nat :=
  match s.heat.state with
  | .starved | .heating => s.start.image.stages
  | .maintain => if s.heat.keepWarm then 1 else 0
  | _ => 0

/-- The latest start is 0 or less (R124). -/
def State.startReached (s : State) : Bool :=
  match s.lead.latest with
  | some l => decide (l ≤ 0)
  | none => false

/-- Contactor `n` of 1 to 4 is held closed (R122). -/
def State.contactor (s : State) (n : Nat) : Bool :=
  decide (1 ≤ n) && decide (n ≤ s.heat.drawn) && decide (n ≤ s.start.image.stages)

/-- The supply threshold of the sag code, in 0.1 V (R135, R171). -/
def State.sagThreshold (s : State) : Nat :=
  match s.start.image.sagCode with
  | 0 => 180
  | 1 => 195
  | 2 => 210
  | _ => 225

/-! ### Conditions of the notice sources -/

/-- Whether a condition source's owner gives its condition as holding (R9, R56, R95, R136, R140, R146). -/
def State.conditionHolds (s : State) (src : Source) : Bool :=
  match src with
  | .linkLost => decide (s.bay.occupancy = .unlinked)
  | .identityMismatch =>
      (decide (s.dep.state = .assigned) || decide (s.dep.state = .ready)) &&
      (match s.identity, s.dep.assignment with
       | some id, some a => decide (a ≠ 0) && decide (a ≠ id.coach)
       | _, _ => false)
  | .blockingFault => s.faults.blocks && !s.dep.waiveFault
  | .addressConflict => s.line.conflict
  | .heatStarved => decide (s.heat.state = .starved) && s.heat.starvedRound
  | .supplySag => s.supply.sag && s.supply.detected
  | _ => false

/-- The whole minutes past the latest start, 0 to 300 (R140). -/
def State.starvedMinutes (s : State) : Nat :=
  match s.lead.latest with
  | some l => if l ≤ 0 then min 300 ((-l).toNat / 60) else 0
  | none => 0

/-- The argument of a condition's NOTICE, as it stands (R9, R56, R95, R136, R140, R146). -/
def State.conditionArg (s : State) (src : Source) : Nat :=
  match src with
  | .linkLost | .identityMismatch =>
      match s.identity with
      | some id => id.coach
      | none => 0
  | .blockingFault => s.faults.activeOf .blocking + (if s.faults.blockingLost then 256 else 0)
  | .addressConflict => s.ownNumber
  | .heatStarved => s.starvedMinutes
  | .supplySag => s.supply.lowest.getD 0
  | _ => 0

/-- The owner gives one condition, if it differs from what it last gave (R165). -/
def giveCondition (src : Source) (s : State) : State :=
  if s.conditionHolds src = (s.notices.get src).holding then s
  else if s.conditionHolds src then modifySource src .begins s
  else modifySource src .ends s

/-- The owners of the six condition sources give their conditions. -/
def giveConditions (s : State) : State :=
  giveCondition .supplySag (giveCondition .heatStarved (giveCondition .addressConflict (giveCondition .blockingFault
    (giveCondition .identityMismatch (giveCondition .linkLost s)))))

end Sys2Proof.Machine
end

