-- ==== Sys2Proof/Machine/FaultList.lean ====
section
/-! DEFINITION. The fault list's operations: offers, merging, the full list, passes, and what empties it (R43 to R57). -/

namespace Sys2Proof.Machine

open Sys2Proof

/-- An offer (03, section 3.2). The count is read for a COACH offer only. -/
structure Offer where
  origin : Origin
  module : Nat
  code : Nat
  severity : Severity
  count : Nat
  deriving DecidableEq, Repr

/-- The identity of a record against an offer's: origin, module and code (R41). -/
def FaultRecord.matchesOffer (r : FaultRecord) (o : Offer) : Bool :=
  decide (r.origin = o.origin) && decide (r.module = o.module) && decide (r.code = o.code)

def Severity.rank (v : Severity) : Nat :=
  match v with
  | .info => 0
  | .advisory => 1
  | .blocking => 2

/-- The higher of two severities (R44). -/
def higherSeverity (a b : Severity) : Severity := if Severity.rank a < Severity.rank b then b else a

/-- The record an offer makes when none matches it (R43). -/
def Offer.record (o : Offer) (pass : Option Nat) (sec : Nat) : FaultRecord :=
  { origin := o.origin, module := o.module, code := o.code, severity := o.severity,
    count := if o.origin = .coach then o.count else 1, active := true, firstSeen := sec, lastSeen := sec,
    stamp := if o.origin = .coach then pass else none }

/-- The offer merged into the record it matches (R44). -/
def FaultRecord.merge (r : FaultRecord) (o : Offer) (pass : Option Nat) (sec : Nat) : FaultRecord :=
  { r with
    count := if o.origin = .coach then max r.count o.count else min 255 (r.count + 1),
    active := true, lastSeen := sec,
    stamp := if o.origin = .coach then pass else r.stamp,
    severity := higherSeverity r.severity o.severity }

/-- Whether an inactive record goes before another (R45): the earlier last-seen, then the earlier first-seen. -/
def FaultRecord.olderThan (a b : FaultRecord) : Bool :=
  decide (a.lastSeen < b.lastSeen) || (decide (a.lastSeen = b.lastSeen) && decide (a.firstSeen < b.firstSeen))

/-- The inactive record to evict and its place, counted from 0 (R45); of equals the one nearer the front. -/
def inactiveVictim : List FaultRecord → Option (Nat × FaultRecord)
  | [] => none
  | r :: rest =>
      match inactiveVictim rest with
      | none => if r.active then none else some (0, r)
      | some (i, v) => if !r.active && !v.olderThan r then some (0, r) else some (i + 1, v)

/-- The list after an offer, and the code of a BLOCKING record lost by it (R43 to R47). -/
def Faults.take (f : Faults) (o : Offer) (sec : Nat) : Faults × Option Nat :=
  let pass := f.current.map (·.number)
  if f.records.any (·.matchesOffer o) then
    ({ f with records := f.records.map fun r => if r.matchesOffer o then r.merge o pass sec else r }, none)
  else if f.records.length < Config.listPlaces then
    ({ f with records := f.records ++ [o.record pass sec] }, none)
  else
    match inactiveVictim f.records with
    | some (i, _) => ({ f with records := f.records.eraseIdx i ++ [o.record pass sec] }, none)
    | none =>
        match f.retention with
        | .newest =>
            ({ f with records := f.records.tail ++ [o.record pass sec] },
              match f.records.head? with
              | some r => if r.severity = .blocking then some r.code else none
              | none => none)
        | .first => (f, if o.severity = .blocking then some o.code else none)

/-- A BLOCKING record has been evicted or dropped (R47). -/
def loseBlocking (code : Nat) (s : State) : State :=
  raiseEdge .blockingLost code { s with faults := { s.faults with blockingLost := true } }

/-- An offer to the list, taken only while a session is open (R43). -/
def offerFault (o : Offer) (s : State) : State :=
  if s.sessionOpen then
    let taken := s.faults.take o s.uptime
    let s' := { s with faults := taken.1 }
    match taken.2 with
    | some code => loseBlocking code s'
    | none => s'
  else s

/-- A STATION cause is offered; every cause is ADVISORY (R42). -/
def offerStation (cause : Nat) (s : State) : State :=
  offerFault { origin := .station, module := cause, code := 0, severity := .advisory, count := 1 } s

/-- A pass has begun: it takes the next number, and equal old stamps are made absent (R48). -/
def Faults.beginPass (f : Faults) : Faults :=
  { f with
    nextPass := if f.nextPass = 255 then 1 else f.nextPass + 1,
    current := some { number := f.nextPass, entries := 0 },
    records := f.records.map fun r =>
      if r.origin = .coach ∧ r.stamp = some f.nextPass then { r with stamp := none } else r }

/-- An entry of the current pass has been received (R49). -/
def Faults.countEntry (f : Faults) : Faults :=
  { f with current := f.current.map fun c => { c with entries := min 255 (c.entries + 1) } }

/-- A coach entry is handed over: counted, then offered (R49). -/
def takeCoachEntry (module code : Nat) (severity : Severity) (count : Nat) (s : State) : State :=
  offerFault { origin := .coach, module := module, code := code, severity := severity, count := count }
    { s with faults := s.faults.countEntry }

/-- The current pass has completed: COACH records it did not stamp are inactive, the figure is its entries (R50). -/
def Faults.completePass (f : Faults) : Faults :=
  match f.current with
  | some c =>
      { f with
        records := f.records.map fun r =>
          if r.origin = .coach ∧ r.stamp ≠ some c.number then { r with active := false } else r,
        figure := some c.entries, current := none }
  | none => f

/-- A lamp check has started: every LAMP record is inactive (R52). -/
def Faults.inactivateLamps (f : Faults) : Faults :=
  { f with records := f.records.map fun r => if r.origin = .lamp then { r with active := false } else r }

/-- The session has ended (R57). -/
def Faults.endSession (f : Faults) : Faults :=
  { f with records := [], blockingLost := false, current := none, figure := none }

/-- The hint of an identification becomes the figure while a session is open (R54). -/
def takeHint (hint : Nat) (s : State) : State :=
  if s.sessionOpen then { s with faults := { s.faults with figure := some hint } } else s

end Sys2Proof.Machine
end

