-- ==== Sys2Proof/Machine/LinkOps.lean ====
section
/-! DEFINITION. The link controller's slots, arbitration and fault passes (R22, R23, R35, R37, R38). -/

namespace Sys2Proof.Machine

open Sys2Proof

/-! ### Raising requests (R22) -/

/-- IDENTIFY is accepted in every link state but UNPLUGGED. -/
def raiseIdentify (s : State) : State :=
  if s.link.state = .unplugged then s else { s with link := { s.link with identifyReq := true } }

/-- READ_TEMP is accepted in UP; refused elsewhere, which changes nothing (R32). -/
def raiseTemp (s : State) : State :=
  if s.link.state = .up then { s with link := { s.link with tempReq := true } } else s

/-- FAULT_NEXT is accepted in UP, and replaces a waiting one's cursor. -/
def raiseFaultNext (cursor : Nat) (s : State) : State :=
  if s.link.state = .up then { s with link := { s.link with faultReq := some cursor } } else s

/-- A LAMP_SET put into its slot; the caller has found the link UP. `live` says whether its outcome counts for the step. -/
def placeLampSet (channel : Nat) (on live : Bool) (s : State) : State :=
  { s with link := { s.link with lampReq := some { channel := channel, on := on, live := live } } }

/-- The transaction on the wires is a LAMP_SET whose requester still counts it. -/
def Link.liveLampSet (l : Link) : Bool :=
  match l.busy with
  | some { request := .lampSet _ _, live := true, .. } => true
  | _ => false

/-- The transaction on the wires is a LAMP_SET. -/
def Link.busyLampSet (l : Link) : Bool :=
  match l.busy with
  | some { request := .lampSet _ _, .. } => true
  | _ => false

/-- The requester of a LAMP_SET on the wires no longer counts its outcome (R22, R77). -/
def Transaction.disownLamp (x : Transaction) : Transaction :=
  match x.request with
  | .lampSet _ _ => { x with live := false }
  | _ => x

/-- The requester of a FAULT_NEXT on the wires discards its result (R38). -/
def Transaction.disownFault (x : Transaction) : Transaction :=
  match x.request with
  | .faultNext _ => { x with live := false }
  | _ => x

/-! ### Arbitration (R23, R24, R76) -/

/-- The waiting request of the highest level (R23). -/
def Link.choice (l : Link) : Option (Request × Bool) :=
  if l.identifyReq then some (.identify, true)
  else
    match l.lampReq with
    | some q => some (.lampSet q.channel q.on, q.live)
    | none =>
        if l.tempReq then some (.readTemp, true)
        else
          match l.faultReq with
          | some c => some (.faultNext c, true)
          | none => none

/-- The slot of a request begun is emptied. -/
def Link.emptySlot (l : Link) (r : Request) : Link :=
  match r with
  | .identify => { l with identifyReq := false }
  | .lampSet _ _ => { l with lampReq := none }
  | .readTemp => { l with tempReq := false }
  | .faultNext _ => { l with faultReq := none }

/-- A transaction begins: its slot empties, the tag is used and advances, the 250 ms run (R23, R24; log 9). -/
def Link.beginTransaction (l : Link) (r : Request) (live : Bool) (now : Nat) : Link :=
  { l.emptySlot r with
    busy := some { request := r, tag := l.tag, timer := now + Config.responseWait, live := live },
    tag := (l.tag + 1) % 16 }

/-- The arbitration of an idle link. A LAMP_SET on that begins makes its channel loose (R67, R76). -/
def arbitrate (s : State) : State :=
  match s.link.busy with
  | some _ => s
  | none =>
      match s.link.choice with
      | none => s
      | some (r, live) =>
          let s' := { s with link := s.link.beginTransaction r live s.now }
          match r with
          | .lampSet c true => { s' with lamps := { s'.lamps with loose := some c } }
          | _ => s'

/-! ### Fault passes (R35, R37, R38) -/

/-- The conditions under which a pass is started (R35). -/
def State.passAllowed (s : State) : Bool :=
  s.link.passOwed && s.link.pass.isNone && decide (s.link.state = .up) && decide (s.bay.occupancy = .connected) &&
  s.sessionOpen && s.dep.state.early

/-- A pass is started whenever its conditions hold (R35, R48). -/
def startPass (s : State) : State :=
  if s.passAllowed then
    raiseFaultNext 0
      { s with faults := s.faults.beginPass,
               link := { s.link with passOwed := false, pass := some { cursor := 0, count := 0 } } }
  else s

/-- A pass in progress is abandoned (R37, R51). `owes` says whether a fresh pass is owed for it. -/
def abandonPass (owes : Bool) (s : State) : State :=
  match s.link.pass with
  | none => s
  | some _ =>
      { s with link := { s.link with pass := none, faultReq := none, passOwed := s.link.passOwed || owes,
                                     busy := s.link.busy.map (·.disownFault) },
               faults := { s.faults with current := none } }

/-- Session end discards the pass, what it owes and its timer (R38). -/
def Link.discardPass (l : Link) : Link :=
  { l with pass := none, faultReq := none, passOwed := false, passTimer := none, busy := l.busy.map (·.disownFault) }

/-- A pass is complete at the end mark (R36, R50). -/
def completePass (s : State) : State :=
  { s with link := { s.link with pass := none }, faults := s.faults.completePass }

end Sys2Proof.Machine
end

