-- ==== Sys2Proof/Machine/PeerTable.lean ====
section
/-! DEFINITION. The peer table: taking claims in, expiry, and what it gives the heat controller (R98 to R107). -/

namespace Sys2Proof.Machine

open Sys2Proof

def PeerEntry.blank (n : Nat) : PeerEntry := { station := n, heat := none, depart := none, air := none }

/-- The entry for a station is changed, or made, in its place by station number (R98). -/
def changeEntry (n : Nat) (f : PeerEntry → PeerEntry) : List PeerEntry → List PeerEntry
  | [] => [f (PeerEntry.blank n)]
  | e :: rest =>
      if e.station = n then f e :: rest
      else if n < e.station then f (PeerEntry.blank n) :: e :: rest
      else e :: changeEntry n f rest

/-- The table makes entries for bays other than the own station only (R98). -/
def State.isPeer (s : State) (n : Nat) : Bool := decide (1 ≤ n) && decide (n ≤ 48) && decide (n ≠ s.ownNumber)

/-- A part heard at a moment is older than its life (R104). -/
def partOld (now heard : Nat) : Bool := decide (heard + Config.partLife < now)

/-- An entry without the parts that are too old. -/
def PeerEntry.purge (now : Nat) (e : PeerEntry) : PeerEntry :=
  { e with heat := e.heat.filter fun p => !partOld now p.heard,
           depart := e.depart.filter fun p => !partOld now p.heard,
           air := e.air.filter fun p => !partOld now p.heard }

def PeerEntry.holdsPart (e : PeerEntry) : Bool := e.heat.isSome || e.depart.isSome || e.air.isSome

/-- The table without the parts that are too old, and without entries left empty (R103, R104). -/
def Peers.purge (now : Nat) (p : Peers) : Peers :=
  { p with entries := (p.entries.map (·.purge now)).filter (·.holdsPart) }

/-- The lowest temperature of any air part the table holds (R107). -/
def lowestAir : List PeerEntry → Option Int
  | [] => none
  | e :: rest =>
      match e.air, lowestAir rest with
      | some p, some v => some (min p.temp v)
      | some p, none => some p.temp
      | none, v => v

/-- An entry without the part of a kind. -/
def PeerEntry.dropPart (part : PartKind) (e : PeerEntry) : PeerEntry :=
  match part with
  | .heat => { e with heat := none }
  | .departure => { e with depart := none }
  | .air => { e with air := none }

/-- The moment the part of a kind was heard. -/
def PeerEntry.heard (part : PartKind) (e : PeerEntry) : Option Nat :=
  match part with
  | .heat => e.heat.map (·.heard)
  | .departure => e.depart.map (·.heard)
  | .air => e.air.map (·.heard)

/-- A part's expiry is taken: it is removed, and its entry with its last part (R103). A part replaced or removed meanwhile is
not found old, and nothing happens (R103, R104). -/
def Peers.expirePart (now n : Nat) (part : PartKind) (p : Peers) : Peers :=
  let kept := p.entries.map fun e =>
    if e.station = n ∧ fallenDue ((e.heard part).map (· + Config.partLife)) now = true then e.dropPart part else e
  { p with entries := kept.filter (·.holdsPart) }

/-- A candidate of an allocation round (R105, R129). -/
structure Candidate where
  station : Nat
  wanted : Nat
  power : Nat
  latest : Int
  deriving DecidableEq, Repr

/-- The candidate a peer's heat part gives, age-adjusted (R105). -/
def PeerEntry.candidate (now : Nat) (e : PeerEntry) : Option Candidate :=
  match e.heat with
  | some h =>
      if (h.state = .starved ∨ h.state = .heating ∨ h.state = .maintain) ∧ 0 < h.wanted then
        some { station := e.station, wanted := h.wanted, power := h.power, latest := ageAdjusted now h.heard h.latest }
      else none
  | none => none

/-- A candidate takes its place in the rank order (R105, R129). -/
def insertCandidate (c : Candidate) : List Candidate → List Candidate
  | [] => [c]
  | d :: rest =>
      if keyBefore c.latest c.station d.latest d.station then c :: d :: rest else d :: insertCandidate c rest

/-- The heat candidates of the peers in heat rank order (R105). -/
def Peers.candidates (now : Nat) (p : Peers) : List Candidate :=
  (p.entries.filterMap (·.candidate now)).foldr insertCandidate []

/-- A contender (station, state, age-adjusted countdown) takes its place in the lane rank order (R106). -/
def insertContender (c : Nat × ClaimState × Int) : List (Nat × ClaimState × Int) → List (Nat × ClaimState × Int)
  | [] => [c]
  | d :: rest => if keyBefore c.2.2 c.1 d.2.2 d.1 then c :: d :: rest else d :: insertContender c rest

/-- The lane contenders in lane rank order (R106). -/
def Peers.contenders (now : Nat) (p : Peers) : List (Nat × ClaimState × Int) :=
  (p.entries.filterMap (·.contender now)).foldr insertContender []

/-- The own key, the own countdown and number, ranks first among itself and the lane contenders (R151). -/
def State.ranksFirst (s : State) (countdown : Int) : Bool :=
  (s.peers.contenders s.now).all fun c => !keyBefore c.2.2 c.1 countdown s.ownNumber

end Sys2Proof.Machine
end

