-- ==== Sys2Proof/Machine/HeatOps.lean ====
section
/-! DEFINITION. The heat controller's operations: the lead (R110 to R118), the heat state and its marks (R123 to R126, R134), the
cabin cache's messages (R33, R34), the allocation round and drawing (R128 to R133), and metering (R137 to R139). -/

namespace Sys2Proof.Machine

open Sys2Proof

/-! ### The lead (R110 to R118) -/

/-- The loss of R114: `floor (U × S ÷ 4)` while S is above 0, else 0. -/
def leadLoss (u : Nat) (sum : Int) : Int := if 0 < sum then (u : Int) * sum / 4 else 0

/-- The stages of R113 to R116 over target, cabin and outdoor temperature in half-degrees, demand, loss and full rating. -/
def computeLead (target cabin outdoor : Int) (demand loss rating : Nat) : Nat × LeadMark :=
  let shortfall := target - cabin
  if shortfall ≤ 0 then (0, .none)
  else
    let net := (rating : Int) - leadLoss loss (cabin + target - 2 * outdoor)
    if rating = 0 ∨ 8 * net < rating then (Config.longestLead, .unreachable)
    else
      let minutes := ceilDiv (30 * demand * shortfall.toNat) net.toNat
      if Config.longestLead < minutes then (Config.longestLead, .saturated) else (minutes, .none)

/-- The outdoor temperature used (R111): the own probe, else the peers' lowest, else the design value. -/
def State.outdoor (s : State) : Int :=
  match (if s.start.image.probeFitted then s.lead.probe else none) with
  | some v => v
  | none => s.peers.lowestGiven.getD s.start.image.design

/-- The cabin temperature used and its source (R110). -/
def State.cabinUsed (s : State) : Int × CabinSource :=
  match s.link.cache.fresh, s.link.cache.content with
  | true, .reading v => (v, .cabin)
  | _, _ => (s.outdoor, .coldSoak)

/-- The full heater rating in watts (R112). -/
def State.rating (s : State) : Nat := s.start.image.stages * s.start.image.power * 100

/-- The latest start follows the countdown and the lead (R118). -/
def deriveLatest (s : State) : State :=
  { s with lead := { s.lead with latest :=
      match s.dep.assignment, s.dep.countdown with
      | some _, some c => some (c - 60 * (s.lead.lead : Int))
      | _, _ => none } }

/-- Lead, mark and cabin used, taken together from the inputs as they stand, or the no-coach values (R112, R117). The lead record
stays at its reset values until the part is configured (R120). -/
def leadFromInputs (s : State) : State :=
  if s.configured then
    match s.figures with
    | some fig =>
        let r := computeLead fig.target s.cabinUsed.1 s.outdoor fig.demand fig.loss s.rating
        { s with lead := { s.lead with lead := r.1, mark := r.2, cabin := some s.cabinUsed } }
    | none => { s with lead := { s.lead with lead := 0, mark := .none, cabin := none } }
  else s

/-- The peer table is read: parts found expired are removed first, and a change of the lowest air temperature is given, upon which
the lead is recomputed (R104, R107, R117). -/
def readPeers (s : State) : State :=
  let p := s.peers.purge s.now
  if lowestAir p.entries = p.lowestGiven then { s with peers := p }
  else deriveLatest (leadFromInputs { s with peers := { p with lowestGiven := lowestAir p.entries } })

/-- A recomputation of R117: the table is read, then the lead and the latest start are taken afresh. -/
def recomputeLead (s : State) : State := deriveLatest (leadFromInputs (readPeers s))

/-- The lowest air temperature is computed after a change of the table and given if it differs (R107). -/
def giveLowestAir (s : State) : State :=
  if lowestAir s.peers.entries = s.peers.lowestGiven then s
  else recomputeLead { s with peers := { s.peers with lowestGiven := lowestAir s.peers.entries } }

/-! ### Drawing (R122, R126, R132, R134) -/

/-- The metering window restarts, if one runs (R137). -/
def Meter.restart (m : Meter) (now : Nat) : Meter :=
  { m with count := 0, window := m.window.map fun _ => now + Config.meterWindow }

/-- Drawn takes a value; a change restarts the metering window (R137). -/
def setDrawn (n : Nat) (s : State) : State :=
  if n = s.heat.drawn then s
  else { s with heat := { s.heat with drawn := n }, meter := s.meter.restart s.now }

/-- Announcements of levels above the grant are made none (R131, R132). -/
def Heat.overrule (h : Heat) (grant : Nat) : Heat :=
  { h with announced := #v[if 0 < grant then h.announced[0] else none, if 1 < grant then h.announced[1] else none,
                           if 2 < grant then h.announced[2] else none, if 3 < grant then h.announced[3] else none] }

/-- A heat claim carrying an intended level has finished: levels up to it without a time take it (R132). -/
def Heat.announce (h : Heat) (intended now : Nat) : Heat :=
  let mark (level : Nat) (a : Option Nat) : Option Nat := if level ≤ intended ∧ a = none then some now else a
  { h with announced := #v[mark 1 h.announced[0], mark 2 h.announced[1], mark 3 h.announced[2], mark 4 h.announced[3]] }

/-- The announcement of a level, none for a level outside 1 to 4. -/
def Heat.announcement (h : Heat) (level : Nat) : Option Nat :=
  match level with
  | 1 => h.announced[0]
  | 2 => h.announced[1]
  | 3 => h.announced[2]
  | 4 => h.announced[3]
  | _ => none

/-- Drawn, grant and intended go to 0 and every announcement is none (R134). -/
def dropAll (s : State) : State :=
  let s' := setDrawn 0 s
  { s' with heat := { s'.heat.overrule 0 with grant := 0, intended := 0 } }

/-! ### The heat state and its marks (R32, R123 to R126) -/

/-- Leaving OFF: READ_TEMP is raised and the poll timer starts (R32). -/
def startPoll (s : State) : State :=
  let s' := raiseTemp s
  { s' with link := { s'.link with pollTimer := some (s.now + Config.poll) } }

/-- Entering OFF: the poll timer stops and a waiting READ_TEMP is withdrawn (R32). -/
def stopPoll (s : State) : State := { s with link := { s.link with pollTimer := none, tempReq := false } }

/-- At target becomes set by a reading; the keep-warm call follows drawn and the reading (R125). -/
def setAtTarget (reading target : Int) (s : State) : State :=
  { s with heat := { s.heat with atTarget := true,
                                 keepWarm := decide (0 < s.heat.drawn) && decide (reading < target + 2) } }

/-- At target is cleared, and the call with it (R125). -/
def clearAtTarget (s : State) : State := { s with heat := { s.heat with atTarget := false, keepWarm := false } }

/-- Called is set while the state is other than OFF and the latest start is 0 or less; a cabin used from a fresh reading at or
above the target then sets at target (R124, R125). -/
def updateCalled (s : State) : State :=
  if !s.offCondition && s.startReached && !s.heat.called then
    let s' := { s with heat := { s.heat with called := true } }
    match s'.lead.cabin, s'.figures with
    | some (v, .cabin), some fig => if fig.target ≤ v ∧ !s'.heat.atTarget then setAtTarget v fig.target s' else s'
    | _, _ => s'
  else s

/-- What entering a state brings (R32, R124, R125, R127, R134). -/
def enterHeatState (new : HeatState) (s : State) : State :=
  if new = s.heat.state then s
  else
    let old := s.heat.state
    let s1 := { s with heat := { s.heat with state := new,
                                             starvedRound := if old = .starved then false else s.heat.starvedRound } }
    let s2 :=
      match new with
      | .off =>
          let d := dropAll s1
          stopPoll (clearAtTarget { d with heat := { d.heat with called := false } })
      | .shed | .fault => dropAll s1
      | _ => s1
    makeHeatDue (if old = .off then startPoll s2 else s2)

/-- Wanted follows the state, and drawn drops to it (R126). -/
def updateWanted (s : State) : State :=
  let s' := { s with heat := { s.heat with wanted := s.wantedNow } }
  if s'.heat.wanted < s'.heat.drawn then setDrawn s'.heat.wanted s' else s'

/-- The heat state is given afresh by R123, with its marks and wanted. -/
def evalHeat (s : State) : State :=
  let s' := updateCalled s
  updateWanted (enterHeatState s'.heatTest s')

/-! ### Messages of the cabin cache (R33, R34) -/

/-- The call at a fresh reading while at target stays set (R125). -/
def holdWarm (reading target : Int) (s : State) : State :=
  if reading ≤ target - 2 then { s with heat := { s.heat with keepWarm := true } }
  else if target + 2 ≤ reading then { s with heat := { s.heat with keepWarm := false } }
  else s

/-- A fresh reading reaches the marks: the call of a cabin already at target, or at target becoming set while called (R125). -/
def readingMarks (reading : Int) (s : State) : State :=
  match s.figures with
  | none => s
  | some fig =>
      if s.heat.atTarget then holdWarm reading fig.target s
      else
        let s' := updateCalled s
        if s'.heat.called && !s'.heat.atTarget && decide (fig.target ≤ reading) then setAtTarget reading fig.target s' else s'

/-- A temperature is received: clamped, held fresh for 120 s, and given to the heat controller (R33). -/
def takeReading (temp : Int) (s : State) : State :=
  let v := clampInt Config.lowestTemp Config.highestTemp temp
  readingMarks v (recomputeLead
    { s with link := { s.link with cache :=
        { content := .reading v, taken := s.uptime, fresh := true, staleTimer := some (s.now + Config.cacheLife) } } })

/-- The heat controller is told that the cache has gone stale: the lead is recomputed and at target is cleared (R34, R125). -/
def cacheWentStale (s : State) : State := clearAtTarget (recomputeLead s)

/-- A fresh cache becomes stale; its reading stays (R34). -/
def staleCache (s : State) : State :=
  if s.link.cache.fresh then
    cacheWentStale { s with link := { s.link with cache := { s.link.cache with fresh := false, staleTimer := none } } }
  else s

/-- A no-sensor reply (R33). -/
def takeNoSensor (s : State) : State :=
  let s' := { s with link := { s.link with cache :=
      { content := .noSensor, taken := s.uptime, fresh := false, staleTimer := none } } }
  if s.link.cache.fresh then cacheWentStale s' else s'

/-- The cache is emptied at session end (R34). -/
def emptyCache (s : State) : State :=
  let s' := { s with link := { s.link with cache :=
      { s.link.cache with content := .none, fresh := false, staleTimer := none } } }
  if s.link.cache.fresh then cacheWentStale s' else s'

/-! ### The allocation round (R128 to R133) -/

/-- What a candidate is given of a remainder (R130). -/
def stagesGiven (remainder : Nat) (c : Candidate) : Nat := min c.wanted (remainder / c.power)

/-- Stages given to the candidates in rank order, from a remainder (R130). -/
def allocate : Nat → List Candidate → List (Candidate × Nat)
  | _, [] => []
  | remainder, c :: rest =>
      (c, stagesGiven remainder c) :: allocate (remainder - stagesGiven remainder c * c.power) rest

/-- The own station as a candidate, when its state is one (R129). -/
def State.ownCandidate (s : State) : Option Candidate :=
  match s.heat.state with
  | .starved | .heating | .maintain =>
      some { station := s.ownNumber, wanted := s.heat.wanted, power := s.start.image.power, latest := s.lead.latest.getD 0 }
  | _ => none

/-- The candidates of a round in rank order (R129). -/
def State.roundCandidates (s : State) : List Candidate :=
  match s.ownCandidate with
  | some c => insertCandidate c (s.peers.candidates s.now)
  | none => s.peers.candidates s.now

/-- The stages a round gives to the own station (R130). -/
def State.ownGrant (s : State) : Nat :=
  match s.ownCandidate with
  | none => 0
  | some _ =>
      match (allocate s.start.image.budget s.roundCandidates).find? fun g => decide (g.1.station = s.ownNumber) with
      | some g => g.2
      | none => 0

/-- Drawing after a round: grant, drawn not above it, intended, and the announcements it overrules (R131). -/
def updateDrawing (grant : Nat) (s : State) : State :=
  let s1 := if grant < s.heat.drawn then setDrawn grant s else s
  let s2 := { s1 with heat := { s1.heat.overrule grant with grant := grant, intended := grant } }
  if s.heat.intended = grant then s2 else makeHeatDue s2

/-- Drawn may rise by one stage at a round (R133). -/
def raiseDrawn (s : State) : State :=
  if (s.heat.state = .heating ∨ s.heat.state = .maintain) ∧ s.heat.drawn < s.heat.intended ∧ s.heat.drawn < s.heat.wanted then
    match s.heat.announcement (s.heat.drawn + 1) with
    | some a => if a + Config.holdOff ≤ s.now then setDrawn (s.heat.drawn + 1) s else s
    | none => s
  else s

/-- A round taken in STARVED is remembered (R128, R140; log 17). -/
def markStarvedRound (s : State) : State :=
  if s.heat.state = .starved then { s with heat := { s.heat with starvedRound := true } } else s

/-- The allocation round with what follows it (R128). Reading the table may change the lead, which is taken into the working
before the round reads the own values (R104, R119). -/
def takeRound (s : State) : State :=
  let s1 := evalHeat (readPeers s)
  raiseDrawn (evalHeat (updateDrawing s1.ownGrant (markStarvedRound s1)))

/-! ### Metering (R137 to R139) -/

inductive MeterVerdict where
  | overdraw | weak | inRange | stray | quiet
  deriving DecidableEq, Repr

/-- The verdict of a full window (R137). -/
def meterVerdict (drawn metered expected count : Nat) : MeterVerdict :=
  if 0 < drawn then
    if 5 * expected + 2000 < 4 * metered then .overdraw
    else if 2 * metered < expected then .weak
    else .inRange
  else if 2 ≤ count then .stray else .quiet

/-- The metered power of a count, in watts (R137). -/
def State.metered (s : State) : Nat := s.meter.count * s.start.image.whPerPulse * 60

/-- The expected power of the drawn stages, in watts (R137). -/
def State.expected (s : State) : Nat := s.heat.drawn * s.start.image.power * 100

/-- A second overdraw in a row (R138). -/
def heaterOverdrawn (metered : Nat) (s : State) : State :=
  let s' := evalHeat { s with heat := { s.heat with heaterFault := true }, meter := { s.meter with overdrawRun := 0 } }
  raiseEdge .heaterOverdraw (min metered 65535) (offerStation 2 s')

/-- What a verdict does (R138, R139). -/
def applyVerdict (v : MeterVerdict) (metered : Nat) (s : State) : State :=
  match v with
  | .overdraw =>
      if s.meter.overdrawRun = 0 then { s with meter := { s.meter with overdrawRun := 1 } } else heaterOverdrawn metered s
  | .weak =>
      let s' := { s with meter := { s.meter with overdrawRun := 0 } }
      if s.heat.weakFound then s' else offerStation 3 { s' with heat := { s'.heat with weakFound := true } }
  | .stray => offerStation 4 { s with meter := { s.meter with overdrawRun := 0 } }
  | .inRange | .quiet => { s with meter := { s.meter with overdrawRun := 0 } }

/-- A full window: its verdict, then the next window at once (R137). -/
def closeWindow (s : State) : State :=
  let v := meterVerdict s.heat.drawn s.metered s.expected s.meter.count
  applyVerdict v s.metered
    { s with meter := { s.meter with count := 0, window := some (s.now + Config.meterWindow) } }

end Sys2Proof.Machine
end

