-- ==== Sys2Proof/Machine/LampOps.lean ====
section
/-! DEFINITION. The lamp checker's operations: bands and verdicts (R61, R70, R71), the steps and their stages (R66, R67), recording
and completing (R72, R73), and what cuts a step or a check short (R74 to R81). -/

namespace Sys2Proof.Machine

open Sys2Proof

/-! ### Bands and verdicts -/

/-- The place of a verdict in the order of R71, which is also its code (R42). -/
def Verdict.place (v : Verdict) : Nat :=
  match v with
  | .ok => 0 | .low => 1 | .high => 2 | .slow => 3 | .fast => 4 | .duty => 5 | .noFlash => 6 | .stuckOn => 7
  | .unclassified => 8 | .openCircuit => 9 | .short => 10 | .incomplete => 11

/-- The worse of two verdicts (R71). -/
def worse (a b : Verdict) : Verdict := if a.place < b.place then b else a

def BandLabel.verdict (l : BandLabel) : Verdict :=
  match l with
  | .ok => .ok | .low => .low | .high => .high | .openCircuit => .openCircuit | .short => .short

/-- The sense reads any current above the top of its range as the top (R61). -/
def sensed (current : Nat) : Nat := min current Config.senseTop

/-- A current resolved against the band table (R61): the lowest-numbered matching band, UNCLASSIFIED without one, SHORT at the top. -/
def resolve (bands : List Band) (current : Nat) : Verdict :=
  if sensed current = Config.senseTop then .short
  else
    match bands.find? fun b => decide (b.lower ≤ sensed current) && decide (sensed current ≤ b.upper) with
    | some b => BandLabel.verdict b.label
    | none => .unclassified

/-- The flash verdict of a capture (R70). -/
def flashVerdict (img : Image) (c : Capture) : Verdict :=
  if c.litAtOpening && !c.fallen then .stuckOn
  else
    match c.rises with
    | first :: second :: more =>
        let last := (second :: more).getLast (by simp)
        let span := last - first
        let periods := more.length + 1
        let onTime := ((c.falls.zip c.rises.dropLast).map fun p => p.1 - p.2).sum
        let average := span / periods
        let duty := 100 * onTime / span
        let tooFast : Verdict := if average < img.shortestPeriod then .fast else .ok
        let tooSlow : Verdict := if img.longestPeriod < average then .slow else .ok
        let dutyBad : Verdict := if duty < img.leastDuty ∨ img.greatestDuty < duty then .duty else .ok
        worse (worse tooFast tooSlow) dutyBad
    | _ => .noFlash

/-! ### The feed, timers and requests (R22, R66) -/

/-- The feed is opened, and the short watch ends with it (R66). -/
def openFeed (s : State) : State := { s with lamps := { s.lamps with feed := false, watchTimer := none } }

/-- Any warm timer or measurement of the step is stopped. -/
def stopStepTimers (s : State) : State :=
  { s with lamps := { s.lamps with warmTimer := none, meanTimer := none, capture := none } }

/-- The lamp checker gives up its waiting LAMP_SET and no longer counts one on the wires (R22; log 18). -/
def disownLampSets (s : State) : State :=
  { s with link := { s.link with lampReq := none, busy := s.link.busy.map (·.disownLamp) } }

/-- The marks of a step at their values for a fresh one (R72). -/
def clearMarks (s : State) : State :=
  { s with lamps := { s.lamps with failures := 0, begunAgain := false, sagRetry := false, shortTaken := false,
                                   measured := none } }

/-- The program step being worked. -/
def Lamps.current (l : Lamps) : Option LampStep :=
  match l.step with
  | some n => l.program[n - 1]?
  | none => none

/-! ### Recording and completing (R72, R73) -/

/-- The LAMP finding of a failed step (R53, R72). -/
def lampOffer (channel : Nat) (blocking : Bool) (v : Verdict) : Offer :=
  { origin := .lamp, module := channel, code := Verdict.place v,
    severity := if blocking then .blocking else .advisory, count := 1 }

/-- A final verdict is written into the entry of step `n`, and offered if not OK (R72). The measured current of INCOMPLETE is 0. -/
def recordVerdict (n : Nat) (v : Verdict) (current : Nat) (s : State) : State :=
  let result := (v, if v = .incomplete then 0 else current)
  let s' := { s with lamps := { s.lamps with sheet := { s.lamps.sheet with
      entries := s.lamps.sheet.entries.map fun e => if e.step = n then { e with result := some result } else e } } }
  if v = .ok then s'
  else
    match s.lamps.program[n - 1]? with
    | some p => offerFault (lampOffer p.channel p.blocking v) s'
    | none => s'

/-- The argument of LAMP_SHEET_DONE (R73). -/
def Sheet.doneArg (sh : Sheet) : Nat := sh.notOk + (if sh.blocks then 256 else 0)

/-- The check completes: the sheet is COMPLETE, the activity IDLE, the notice raised (R73). -/
def completeCheck (s : State) : State :=
  let sh := { s.lamps.sheet with state := SheetState.complete }
  raiseEdge .lampSheetDone sh.doneArg
    { s with lamps := { s.lamps with sheet := sh, running := false, step := none, stage := none } }

/-- The steps from `n` on are recorded as INCOMPLETE, in step order. -/
def recordIncomplete : (left : Nat) → (n : Nat) → State → State
  | 0, _, s => s
  | left + 1, n, s => recordIncomplete left (n + 1) (recordVerdict n .incomplete 0 s)

/-- The check ends early: the current step and those after it are INCOMPLETE, and the sheet completes (R75, R79). -/
def endCheckIncomplete (s : State) : State :=
  if s.lamps.running then
    let s1 := disownLampSets (stopStepTimers (openFeed s))
    let s2 := { s1 with lamps := { s1.lamps with linkWaitTimer := none, offOwed := false } }
    let n := s2.lamps.step.getD 1
    completeCheck (clearMarks (recordIncomplete (s2.lamps.program.length + 1 - n) n s2))
  else s

/-- The check is abandoned: recorded steps stand, the others keep no verdict, the sheet is PARTIAL (R80, R81). DESIGN CHOICE (log 39):
an off that R77 still owes when HOLDING abandons the check is not raised any more; the rules leave that open. -/
def abandonCheck (s : State) : State :=
  if s.lamps.running then
    let s1 := clearMarks (disownLampSets (stopStepTimers (openFeed s)))
    { s1 with lamps := { s1.lamps with linkWaitTimer := none, offOwed := false, running := false, step := none, stage := none,
                                       sheet := { s1.lamps.sheet with state := .partly } } }
  else s

/-- The sheet is emptied (R72). -/
def emptySheet (s : State) : State := { s with lamps := { s.lamps with sheet := { state := .empty, entries := [] } } }

/-! ### Stages (R66, R67) -/

/-- LAMP_SET is raised for the step. Refused, it ends the check as a loss with the plug in (R79), as a plug-out with it out (R80). -/
def raiseLampSet (channel : Nat) (on : Bool) (s : State) : State :=
  if s.link.state = .up then placeLampSet channel on true s
  else if s.bay.plug.level then endCheckIncomplete s
  else abandonCheck s

/-- The off of R77 for the loose channel; its outcome is not counted. -/
def raiseLooseOff (s : State) : State :=
  match s.lamps.loose with
  | some c => if s.link.state = .up then placeLampSet c false false s else s
  | none => s

def enterClearOff (channel : Nat) (s : State) : State :=
  raiseLampSet channel false { s with lamps := { s.lamps with stage := some .clearOff } }

/-- FEED_ON: the feed closes, the short watch begins, LAMP_SET on is raised (R66, R67). -/
def enterFeedOn (s : State) : State :=
  match s.lamps.current with
  | some p =>
      raiseLampSet p.channel true
        { s with lamps := { s.lamps with stage := some .feedOn, feed := true, watchTimer := some (s.now + Config.watchBlock) } }
  | none => s

/-- SWITCH_OFF: LAMP_SET off is raised for the step's channel (R67). -/
def enterSwitchOff (s : State) : State :=
  match s.lamps.current with
  | some p => raiseLampSet p.channel false { s with lamps := { s.lamps with stage := some .switchOff } }
  | none => s

/-- The step begins, or begins again, with no sag present: in SWITCH_OFF when its short has been taken, in CLEAR_OFF with a loose
channel, else in FEED_ON (R67, R75, R77). -/
def startStep (s : State) : State :=
  if s.lamps.shortTaken then enterSwitchOff s
  else
    let s' := { s with lamps := { s.lamps with measured := none } }
    match s'.lamps.loose with
    | some c => enterClearOff c s'
    | none => enterFeedOn s'

/-- The step is due to begin: in PAUSED while sag is present (R78). -/
def beginStep (s : State) : State :=
  if s.supply.sag then { s with lamps := { s.lamps with stage := some .paused } } else startStep s

/-- The current step is recorded with its measured verdict, and the next begins or the check completes (R67, R72, R73). -/
def finishStep (s : State) : State :=
  let n := s.lamps.step.getD 1
  let m := s.lamps.measured.getD (.incomplete, 0)
  let s1 := clearMarks (recordVerdict n m.1 m.2 s)
  if n < s1.lamps.program.length then beginStep { s1 with lamps := { s1.lamps with step := some (n + 1) } }
  else completeCheck s1

/-! ### Starting a check (R63, R64) -/

/-- The conditions under which a check starts (R63). -/
def State.checkAllowed (s : State) : Bool :=
  !s.lamps.running && decide (s.bay.occupancy = .connected) && s.sessionOpen && decide (s.lamps.sheet.state ≠ .complete) &&
  s.dep.state.early && !s.supply.sag

/-- One entry for each step of a program, without a verdict (R64). -/
def entriesOf (program : List LampStep) : List SheetEntry :=
  program.mapIdx fun i p => { step := i + 1, channel := p.channel, blocking := p.blocking, result := none }

/-- A check starts whenever its conditions hold (R63, R64). -/
def startCheck (s : State) : State :=
  if s.checkAllowed then
    let program := (s.figures.map (·.program)).getD []
    let s1 := clearMarks
      { s with faults := s.faults.inactivateLamps,
               lamps := { s.lamps with running := true, step := some 1, program := program,
                                       sheet := { state := .running, entries := entriesOf program } } }
    if program.isEmpty then completeCheck s1 else beginStep s1
  else s

/-! ### Results of LAMP_SET (R67, R74, R76, R77) -/

/-- The off owed under R77 is raised once the LAMP_SET on the wires has ended. -/
def payOff (s : State) : State :=
  if s.lamps.offOwed then raiseLooseOff { s with lamps := { s.lamps with offOwed := false } } else s

/-- An acknowledged off makes its channel no longer loose (R76). -/
def clearLoose (channel : Nat) (on : Bool) (s : State) : State :=
  if !on ∧ s.lamps.loose = some channel then { s with lamps := { s.lamps with loose := none } } else s

/-- The acknowledgement moves the step on (R66, R67). -/
def advanceStage (s : State) : State :=
  match s.lamps.stage with
  | some .clearOff => enterFeedOn s
  | some .feedOn =>
      if s.lamps.shortTaken then enterSwitchOff s
      else { s with lamps := { s.lamps with stage := some .warm, warmTimer := some (s.now + Config.warm) } }
  | some .switchOff => finishStep (openFeed s)
  | _ => s

/-- A LAMP_SET is acknowledged. -/
def lampAcknowledged (channel : Nat) (on live : Bool) (s : State) : State :=
  let s' := clearLoose channel on s
  if live && s'.lamps.running then advanceStage s' else payOff s'

/-- The step's second failure: the feed opens and the step waits for the link (R74). -/
def enterLinkWait (s : State) : State :=
  let s' := disownLampSets (stopStepTimers (openFeed s))
  { s' with lamps := { s'.lamps with stage := some .linkWait, linkWaitTimer := some (s.now + Config.linkWait) } }

/-- The request that failed is raised again for the stage; after a short reading the on is not (R66, R74). -/
def raiseAgain (channel : Nat) (on : Bool) (s : State) : State :=
  match s.lamps.stage with
  | some .feedOn => if s.lamps.shortTaken then enterSwitchOff s else raiseLampSet channel on s
  | some .clearOff | some .switchOff => raiseLampSet channel on s
  | _ => s

/-- A LAMP_SET has failed with the link still UP (R74); one the step does not count only lets the off of R77 follow (R77). -/
def lampFailed (channel : Nat) (on live : Bool) (s : State) : State :=
  if live && s.lamps.running then
    match s.lamps.stage with
    | some .clearOff | some .feedOn | some .switchOff | some .paused =>
        let s' := { s with lamps := { s.lamps with failures := min 2 (s.lamps.failures + 1) } }
        if 2 ≤ s'.lamps.failures then enterLinkWait s' else raiseAgain channel on s'
    | _ => s
  else payOff s

/-- The link wait is over with the link UP: the step begins again once, else the check ends on link failure (R75). -/
def linkWaitOver (s : State) : State :=
  let s' := { s with lamps := { s.lamps with linkWaitTimer := none } }
  if s'.lamps.begunAgain then endCheckIncomplete s'
  else beginStep { s' with lamps := { s'.lamps with failures := 0, begunAgain := true } }

/-! ### Measuring (R66, R68, R69) -/

/-- The measurement ends with a verdict and its current, and the lamp is switched off (R67). -/
def measureEnds (v : Verdict) (current : Nat) (s : State) : State :=
  enterSwitchOff (stopStepTimers { s with lamps := { s.lamps with measured := some (v, current) } })

/-- The capture of a FLASHING step ends: the current is the on-time's mean with two rising edges or more, else the tail's (R69). -/
def captureEnds (c : Capture) (onMean tailMean : Nat) (s : State) : State :=
  let current := sensed (if 2 ≤ c.rises.length then onMean else tailMean)
  measureEnds (worse (resolve s.start.image.bands current) (flashVerdict s.start.image c)) current s

/-- An accepted edge of the lit level is timed into the capture (R69). -/
def Capture.edge (c : Capture) (lit : Bool) (now : Nat) : Capture :=
  if lit then { c with lit := c.lit.accept true, rises := c.rises ++ [now] }
  else
    { c with lit := c.lit.accept false, fallen := true,
             falls := if c.falls.length < c.rises.length then c.falls ++ [now] else c.falls }

/-- A short reading (R66): the feed opens, the verdict is SHORT, and the step goes to SWITCH_OFF once no LAMP_SET of its own is on
the wires. -/
def shortReading (mean : Nat) (s : State) : State :=
  let s1 := openFeed (stopStepTimers { s with lamps := { s.lamps with shortTaken := true, measured := some (.short, mean) } })
  match s1.lamps.stage with
  | some .feedOn | some .warm | some .measure => if s1.link.liveLampSet then s1 else enterSwitchOff s1
  | _ => s1

/-! ### Sag (R77, R78) -/

/-- The step caught by sag with the feed closed or closing: INCOMPLETE unless its short was taken, the off for a loose channel owed
or raised, and the step waits for its retry or is recorded (R77). -/
def sagCatches (s : State) : State :=
  let onWires := s.link.busyLampSet
  let s1 := disownLampSets (stopStepTimers (openFeed s))
  let s2 := { s1 with lamps := { s1.lamps with
      measured := if s1.lamps.shortTaken then s1.lamps.measured else some (.incomplete, 0),
      offOwed := onWires } }
  let s3 := if onWires then s2 else raiseLooseOff s2
  if s3.lamps.sagRetry then finishStep s3
  else { s3 with lamps := { s3.lamps with sagRetry := true, stage := some .sagWait } }

/-- Sag is detected (R77, R78). -/
def lampSag (s : State) : State :=
  if s.lamps.running then
    match s.lamps.stage with
    | some .feedOn | some .warm | some .measure | some .switchOff => sagCatches s
    | some .clearOff => { s with lamps := { s.lamps with stage := some .paused } }
    | _ => s
  else s

/-- The supply has recovered: a waiting step begins (R78). -/
def lampRecovered (s : State) : State :=
  if s.lamps.running then
    match s.lamps.stage with
    | some .paused | some .sagWait => startStep s
    | _ => s
  else s

end Sys2Proof.Machine
end

