-- ==== Sys2Proof/Machine/ClearanceOps.lean ====
section
/-! DEFINITION. Clearance's operations: changes of the departure state (R145, R150 to R158), the yield to a heard SETTLING (R154), the
tests of sections 9.4 and 9.5, and what a session end does (R159). -/

namespace Sys2Proof.Machine

open Sys2Proof

/-- The claimed state of a departure state (R142). -/
def DepState.claim (d : DepState) : ClaimState :=
  match d with
  | .none => .none
  | .assigned | .lapsed => .assigned
  | .ready => .ready
  | .settling => .settling
  | .holding | .gone => .holding

/-- The departure state changes: a DEPART_CLAIM falls due (R161), a settle or a release window left behind is stopped
(R152, R155, R157). -/
def changeDep (d : DepState) (s : State) : State :=
  if d = s.dep.state then s
  else makeDepartDue { s with dep := { s.dep with
      state := d,
      settleTimer := if s.dep.state = .settling then none else s.dep.settleTimer,
      key := if s.dep.state = .settling then none else s.dep.key,
      releaseTimer := if s.dep.state = .holding then none else s.dep.releaseTimer } }

/-- To NONE: the assignment and the countdown become absent (R145, R157, R159). -/
def enterNone (s : State) : State :=
  let s' := changeDep .none s
  { s' with dep := { s'.dep with assignment := none, countdown := none, nextFall := none } }

/-- To HOLDING: the release window runs, and a running lamp check is abandoned (R81, R155). -/
def enterHolding (s : State) : State :=
  let s' := changeDep .holding s
  abandonCheck
    { s' with dep := { s'.dep with releaseTimer := some (s.now + 1000 * s.start.image.releaseWindow) } }

/-- To GONE: the transit timer runs and RELEASED names the departed coach (R157). -/
def enterGone (coach : Nat) (s : State) : State :=
  let s' := changeDep .gone s
  raiseEdge .released coach
    { s' with dep := { s'.dep with transitTimer := some (s.now + 1000 * s.start.image.transit) } }

/-- To LAPSED (R156): RELEASE_LAPSED names the coach of the open session, or 0. -/
def enterLapsed (s : State) : State :=
  raiseEdge .releaseLapsed ((s.identity.map (·.coach)).getD 0) (changeDep .lapsed s)

/-- A condition that a block gives to clearance ahead of the event's further effects: READY without the coach conditions becomes ASSIGNED
at once (R65, R150). -/
def leaveReady (s : State) : State :=
  if s.dep.state = .ready ∧ s.coachConditions = false then changeDep .assigned s else s

/-- One move by the tests of R150, R151 and R153, if one is due. The coach conditions come first, so a line fault or a conflict whose OFF
ends the MAINTAIN that the heat condition stood on leaves ASSIGNED and not READY (log 37). -/
def clearanceMove (s : State) : State :=
  match s.dep.state with
  | .assigned =>
      if s.coachConditions && s.countdownAtMost Config.readyWindow then changeDep .ready s else s
  | .ready =>
      if !s.coachConditions then changeDep .assigned s
      else
        match s.dep.countdown with
        | some c =>
            if s.lineConditions && decide (c ≤ (s.start.image.allowance : Int)) && !s.dep.hold && !s.peers.freshHolding &&
                s.ranksFirst c
            then changeDep .settling s else s
        | none => s
  | .settling =>
      if !s.coachConditions then changeDep .assigned s
      else if s.peers.freshHolding || s.dep.hold || !s.lineConditions then changeDep .ready s
      else s
  | _ => s

/-- The tests are made again after each move (R151). Three reach the end: from ASSIGNED over READY to SETTLING, or back. -/
def clearanceTests (s : State) : State := clearanceMove (clearanceMove (clearanceMove s))

/-- The due moment of a settling claim in milliseconds: the moment of its finish plus its countdown (R154). -/
def dueMoment (moment : Nat) (countdown : Int) : Int := (moment : Int) + 1000 * countdown

/-- A peer's SETTLING heard in SETTLING: without an own key the bay yields, else the earlier due moment wins, then the lower
station number (R154). -/
def hearSettling (n : Nat) (countdown : Int) (s : State) : State :=
  if s.dep.state = .settling then
    match s.dep.key with
    | none => changeDep .ready s
    | some (c, m) =>
        if keyBefore (dueMoment s.now countdown) n (dueMoment m c) s.ownNumber then changeDep .ready s else s
  else s

/-- The ended coach is one the assignment admits (R159). -/
def State.admits (s : State) (coach : Nat) : Bool :=
  match s.dep.assignment with
  | some a => decide (a = 0) || decide (a = coach)
  | none => false

/-- The assignment is for any coach (R142). -/
def State.anyCoach (s : State) : Bool := decide (s.dep.assignment = some 0)

/-- A session end with a replaced coach before the green: the departure stands as ASSIGNED for any coach, else it is cancelled
(R159; log 22). -/
def replacedExit (coach : Nat) (s : State) : State :=
  raiseEdge .unclearedExit coach (if s.anyCoach then changeDep .assigned s else enterNone s)

/-- What a session end does to the departure (R156, R159). -/
def departureAtSessionEnd (cause : EndCause) (coach : Nat) (s : State) : State :=
  match s.dep.state, cause with
  | .assigned, .bayEmptied => if s.admits coach then raiseEdge .unclearedExit coach (enterNone s) else s
  | .assigned, .identityReplaced => if s.admits coach then replacedExit coach s else s
  | .ready, .bayEmptied | .settling, .bayEmptied => raiseEdge .unclearedExit coach (enterNone s)
  | .ready, .identityReplaced | .settling, .identityReplaced => replacedExit coach s
  | .holding, .identityReplaced => enterGone coach s
  | _, _ => s

/-- Session end at clearance: the departure by R159, and every waiver cleared (R149). -/
def clearanceSessionEnd (cause : EndCause) (coach : Nat) (s : State) : State :=
  let s' := departureAtSessionEnd cause coach s
  { s' with dep := { s'.dep with waiveLamp := false, waiveFault := false, waiveHeat := false } }

end Sys2Proof.Machine
end

