-- ==== Sys2Proof/Machine/BayOps.lean ====
section
/-! DEFINITION. The bay monitor's operations: sessions (R10 to R15), entry to EMPTY (R7), link loss (R9), and the reactions in which
the blocks take in what an event has changed. -/

namespace Sys2Proof.Machine

open Sys2Proof

def setOccupancy (o : Occupancy) (s : State) : State := { s with bay := { s.bay with occupancy := o } }

/-! ### Sessions -/

/-- Session end at the lamp checker: a running check is abandoned, the sheet emptied, the loose channel absent (R76, R81). -/
def lampSessionEnd (s : State) : State :=
  let s' := emptySheet (abandonCheck s)
  disownLampSets { s' with lamps := { s'.lamps with loose := none, offOwed := false } }

/-- Session end at the heat controller (R141): faults and marks of the session are released, the lead takes its no-coach values
and the state is given afresh. -/
def heatSessionEnd (s : State) : State :=
  evalHeat (recomputeLead
    { s with heat := { s.heat with heaterFault := false, weakFound := false }, meter := { s.meter with overdrawRun := 0 } })

/-- A session ends (R15): each block acts on the message, SESSION_ENDED is raised last, and the conditions that ended with it are
given as ended. -/
def endSession (cause : EndCause) (coach : Nat) (s : State) : State :=
  let s1 := { s with bay := { s.bay with session := .none }, faults := s.faults.endSession, link := s.link.discardPass }
  let s2 := heatSessionEnd (clearanceSessionEnd cause coach (lampSessionEnd (emptyCache s1)))
  giveConditions (raiseEdge .sessionEnded coach s2)

/-- A session opens (R11): the blocks are told, the presence-loop record is offered if presence is implied, COACH_IDENTIFIED is
raised. -/
def openSession (id : Identity) (s : State) : State :=
  let s1 := recomputeLead
    { s with bay := { s.bay with session := .opened id },
             link := { s.link with passOwed := true, passTimer := some (s.now + Config.passPeriod) } }
  raiseEdge .coachIdentified id.coach (if s1.bay.implied then offerStation 1 s1 else s1)

/-- The reported identity is put to the session (R10, R12). -/
def putIdentity (id : Identity) (s : State) : State :=
  match s.bay.session with
  | .none => openSession id s
  | .opened held => if held = id then s else openSession id (endSession .identityReplaced held.coach s)
  | .departing held => openSession id (endSession .identityReplaced held.coach s)

/-- The session becomes departing (R7): with no coach identity given any more, the lead takes its no-coach values (R16, R112). -/
def departSession (id : Identity) (s : State) : State :=
  recomputeLead { s with bay := { s.bay with session := .departing id } }

/-- Entry to EMPTY (R7): presence implied clears and the session is settled by the departure state at this entry. -/
def enterEmpty (s : State) : State :=
  let s' := { s with bay := { s.bay with occupancy := .empty, implied := false } }
  match s'.dep.state, s'.bay.session with
  | .holding, .opened id => enterGone id.coach (departSession id s')
  | .holding, .departing id => enterGone id.coach s'
  | .holding, .none => enterGone 0 s'
  | _, .opened id => endSession .bayEmptied id.coach s'
  | _, _ => s'

/-- The link is declared lost: LINKING and CONNECTED become UNLINKED and the re-identify timer starts (R9). -/
def bayLinkLost (s : State) : State :=
  match s.bay.occupancy with
  | .linking | .connected =>
      { s with bay := { s.bay with occupancy := .unlinked, reidentify := some (s.now + Config.reidentify) } }
  | _ => s

/-- A failed IDENTIFY reaches the bay monitor (R8). -/
def identifyFailed (s : State) : State :=
  match s.bay.occupancy with
  | .linking => raiseIdentify s
  | .unlinked => { s with bay := { s.bay with reidentify := some (s.now + Config.reidentify) } }
  | _ => s

/-- A successful IDENTIFY reaches the bay monitor (R10). -/
def identifySucceeded (id : Identity) (s : State) : State :=
  match s.bay.occupancy with
  | .linking | .unlinked =>
      putIdentity id { s with bay := { s.bay with occupancy := .connected, reidentify := none } }
  | _ => s

/-! ### Reactions -/

/-- One round of reactions to an event (log 6): a pass and a lamp check start if they may (R35, R63); the peer table is read
(R104) and the latest start derived (R118); the heat state (R123) and then clearance's tests (R150, R151, R153) are taken
afresh. -/
def react (s : State) : State :=
  clearanceTests (evalHeat (deriveLatest (readPeers (startCheck (startPass s)))))

/-- The signal head is driven to the selected aspect (R18). -/
def driveHead (s : State) : State := { s with bay := { s.bay with aspect := aspectOf s.dep.state } }

/-- The end of every event that can move another block: two rounds of reactions and the starts they allow, the link's
arbitration (R23), the conditions of the notice sources (R165), and the signal head. -/
def settle (s : State) : State :=
  driveHead (giveConditions (arbitrate (startPass (react (react s)))))

end Sys2Proof.Machine
end

