-- ==== Sys2Proof/Machine/Operands.lean ====
section
/-! DEFINITION. How the operands of link responses and received frames are taken: a response against the transaction in progress
(R24 to R28), plug-out on the link (R29), and the receipt of a frame (R92, R96). -/

namespace Sys2Proof.Machine

open Sys2Proof

/-! ### The end of a transaction (R25 to R29) -/

/-- The activity becomes IDLE. -/
def idleLink (s : State) : State := { s with link := { s.link with busy := none } }

/-- Success of any kind clears the failure run (R25). -/
def linkSucceeded (s : State) : State :=
  let s' := idleLink s
  { s' with link := { s'.link with failureRun := 0 } }

/-- The link is declared LOST (R27), in the order of its steps. -/
def declareLost (s : State) : State :=
  let s1 := { s with link := { s.link with state := .lost, failureRun := 0, lampReq := none, tempReq := false } }
  endCheckIncomplete (bayLinkLost (staleCache (abandonPass true s1)))

/-- A failure adds to the run; the third in a row loses the link, or in LOST only clears the run (R26, R27, R28). -/
def countFailure (s : State) : State :=
  if s.link.failureRun + 1 < Config.failuresToLoss then
    { s with link := { s.link with failureRun := s.link.failureRun + 1 } }
  else if s.link.state = .lost then { s with link := { s.link with failureRun := 0 } }
  else declareLost s

/-- The requester receives the failure (R8, R26, R36, R74). -/
def handFailure (x : Transaction) (s : State) : State :=
  match x.request with
  | .identify => identifyFailed s
  | .lampSet c on => lampFailed c on x.live s
  | .readTemp => s
  | .faultNext _ =>
      match s.link.pass with
      | some p => if x.live then raiseFaultNext p.cursor s else s
      | none => s

/-- The transaction in progress fails by timeout or as malformed (R26). -/
def transactionFails (x : Transaction) (s : State) : State := handFailure x (countFailure (idleLink s))

/-- What a response is against the transaction in progress (R24). -/
inductive Reply where
  | discarded
  | late (x : Transaction)
  | fails (x : Transaction)
  | succeeds (x : Transaction)
  deriving DecidableEq, Repr

/-- R24: a response is discarded when nothing is in progress or its tag differs; with the tag it is late when the 250 ms are past, and
else fails the transaction unless it is well-formed for the request, as `fits` judges. -/
def State.judgeReply (s : State) (tag : Nat) (fits : Request → Bool) : Reply :=
  match s.link.busy with
  | none => .discarded
  | some x =>
      if x.tag ≠ tag then .discarded
      else if x.timer < s.now then .late x
      else if fits x.request then .succeeds x
      else .fails x

/-- A response is taken: discarded, a failure (R26), or a success with its own consequences (R25). A late one finds its transaction timed
out at the end of its 250 ms, also where no LINK_TIMEOUT has been taken for it before (R24; log 3). -/
def takeReply (t tag : Nat) (fits : Request → Bool) (onSuccess : Transaction → State → State) (s : State) : State :=
  let s' := s.advance t
  match s'.judgeReply tag fits with
  | .discarded => s'
  | .late x => (settle (transactionFails x (s.advance x.timer))).advance t
  | .fails x => settle (transactionFails x s')
  | .succeeds x => settle (onSuccess x (linkSucceeded s'))

/-- A successful IDENTIFY at the link: OPENING or LOST becomes UP, and a running poll timer has READ_TEMP raised at once
(R25, R32). -/
def linkComesUp (s : State) : State :=
  if s.link.state = .opening ∨ s.link.state = .lost then
    let s' := { s with link := { s.link with state := .up } }
    if s'.link.pollTimer.isSome then raiseTemp s' else s'
  else s

/-- An entry of the pass in progress: handed over, then the next is asked for or the pass abandoned at its limit (R36, R37). -/
def takeEntry (module code : Nat) (severity : Severity) (count next : Nat) (s : State) : State :=
  match s.link.pass with
  | none => s
  | some p =>
      let s1 := takeCoachEntry module code severity (max 1 count) s
      let s2 := { s1 with link := { s1.link with pass := some { cursor := next, count := p.count + 1 } } }
      if Config.passLimit ≤ p.count + 1 then abandonPass false s2 else raiseFaultNext next s2

/-- Plug-out at the link controller (R29): the transaction in progress fails without counting, the slots empty, the pass is
abandoned, the cache goes stale and the poll timer stops. The lamp checker abandons a running check (R80). -/
def linkPlugOut (s : State) : State :=
  if s.link.state = .unplugged then s
  else
    let s1 := abandonCheck (idleLink s)
    let s2 := abandonPass true
      { s1 with link := { s1.link with state := .unplugged, failureRun := 0, identifyReq := false, lampReq := none,
                                       tempReq := false } }
    let s3 := staleCache s2
    { s3 with link := { s3.link with pollTimer := none }, lamps := { s3.lamps with offOwed := false } }

/-! ### Frames received (R90, R92, R96) -/

/-- A frame whose check field is right is given its receipt mark while the part is configured and not in QUIET (R92). -/
def markReceipt (checkRight : Bool) (s : State) : State :=
  { s with line := { s.line with receiptMark := checkRight && s.configured && decide (s.line.status ≠ .quiet) } }

/-- A frame handed to a block: it gets its receipt mark and its effect, which no frame has while the part is unconfigured (R96). -/
def receive (effect : State → State) (s : State) : State :=
  if s.configured then effect (markReceipt true s) else markReceipt true s

end Sys2Proof.Machine
end

