-- ==== Sys2Proof/Machine/LineOps.lean ====
section
/-! DEFINITION. The line controller's sending (R86 to R91, R95), the choice of a notice (R167) and the report stream (R168, R169). -/

namespace Sys2Proof.Machine

open Sys2Proof

/-! ### Notices (R163, R166, R167) -/

/-- The sources of each group, by rising number (R163). -/
def groupBay : List Source :=
  [.start, .coachIdentified, .sessionEnded, .linkLost, .identityMismatch, .unclearedExit, .released, .releaseLapsed]

def groupCheck : List Source := [.lampSheetDone, .blockingFault, .blockingLost, .addressConflict]

def groupHeat : List Source := [.heatStarved, .supplySag, .heaterOverdraw, .assignRefused]

/-- The sixteen sources by number. -/
def allSources : List Source := groupBay ++ groupCheck ++ groupHeat

/-- The sources in the order of choice for a group order code; 0 and 7 are taken as 2 (R167). -/
def choiceOrder (code : Nat) : List Source :=
  match code with
  | 1 => groupBay ++ groupHeat ++ groupCheck
  | 3 => groupCheck ++ groupBay ++ groupHeat
  | 4 => groupCheck ++ groupHeat ++ groupBay
  | 5 => groupHeat ++ groupBay ++ groupCheck
  | 6 => groupHeat ++ groupCheck ++ groupBay
  | _ => groupBay ++ groupCheck ++ groupHeat

/-- The best source: pending and not masked, the first in the order of choice (R167). -/
def Notices.best (n : Notices) : Option Source :=
  (choiceOrder n.order).find? fun src => (n.get src).pending && !n.masked src

/-- The masked-pending set (R169): bit n stands for source n. -/
def Notices.maskedPending (n : Notices) : Word16 :=
  allSources.foldl (fun w src =>
    if (n.get src).pending && n.masked src then w ||| (1#16 <<< src.number.val) else w) 0

/-- The own masks of a set of sources take a value (R163, R166). -/
def Notices.setMasks (sources : Word16) (value : Bool) (n : Notices) : Notices :=
  allSources.foldl (fun m src =>
    if sources.getLsbD src.number.val then m.set src { m.get src with masked := value } else m) n

/-- The own masks are the initial masks of the image (R163, R174). -/
def Notices.loadMasks (masks : Word16) (n : Notices) : Notices :=
  allSources.foldl (fun m src => m.set src { m.get src with masked := masks.getLsbD src.number.val }) n

/-! ### Reports (R168, R169) -/

/-- The values of a BAY_STATUS frame as they stand (R169). -/
def State.bayStatus (s : State) : BayStatus :=
  { occupancy := s.bay.occupancy, heat := s.heat.state, dep := s.dep.state, drawn := s.heat.drawn, lead := s.lead.lead,
    mark := s.lead.mark, records := s.faults.records.length, activeBlocking := s.faults.activeOf .blocking,
    activeAdvisory := s.faults.activeOf .advisory, blockingLost := s.faults.blockingLost, figure := s.faults.figure,
    sheet := s.lamps.sheet.state, notOk := s.lamps.sheet.notOk, blockingNotOk := s.lamps.sheet.blockingNotOk,
    maskedPending := s.notices.maskedPending }

/-- The frame the stream offers, if it offers one (R169). -/
def State.reportFrame (s : State) (st : Stream) : Option Content :=
  match st.kind with
  | .faults =>
      match s.faults.records[st.next - 1]? with
      | some r => some (.faultEntry st.next (some r))
      | none => if st.first ∧ s.faults.records = [] then some (.faultEntry 0 none) else none
  | .lamps =>
      match s.lamps.sheet.entries[st.next - 1]? with
      | some e => some (.lampEntry e.step (some e))
      | none => if st.first ∧ s.lamps.sheet.entries = [] then some (.lampEntry 0 none) else none
  | .bayStatus => some (.bayStatus s.bayStatus)

/-- The frame in flight belongs to the report stream. -/
def Content.isReport (c : Content) : Bool :=
  match c with
  | .faultEntry _ _ | .lampEntry _ _ | .bayStatus _ => true
  | _ => false

/-- A REPORT_REQ: the stream begins afresh, or waits for the old stream's frame on the wires (R168). -/
def requestReport (k : ReportKind) (s : State) : State :=
  match s.line.inFlight with
  | some f =>
      if f.content.isReport && s.notices.stream.isSome then { s with notices := { s.notices with replacement := some k } }
      else { s with notices := { s.notices with stream := some { kind := k, next := 1, first := true } } }
  | none => { s with notices := { s.notices with stream := some { kind := k, next := 1, first := true } } }

/-- The stream after its frame has finished (R169). -/
def Stream.advance (st : Stream) : Option Stream :=
  match st.kind with
  | .bayStatus => none
  | _ => some { st with next := st.next + 1, first := false }

/-- A report frame has gone: a stream waiting to replace it begins, else the stream goes on (R168, R169). -/
def Notices.reportOutcome (finished : Bool) (n : Notices) : Notices :=
  match n.replacement with
  | some k => { n with stream := some { kind := k, next := 1, first := true }, replacement := none }
  | none => if finished then { n with stream := n.stream.bind Stream.advance } else n

/-! ### The transmit choice and the frame begun (R86, R87) -/

/-- A frame begins: it is in flight with the content built now (R86). -/
def beginFrame (c : Content) (s : State) : State :=
  { s with line := { s.line with inFlight := some { content := c, renewed := false } } }

/-- The departure claim of this moment (R142, R161). -/
def State.departContent (s : State) : Content := .depart s.dep.state.claim (s.dep.countdown.getD 0)

/-- The heat claim of this moment (R118, R127). -/
def State.heatContent (s : State) : Content :=
  .heat s.heat.state s.heat.wanted s.heat.intended s.heat.drawn s.start.image.power (s.lead.latest.getD 0)

/-- A NOTICE begins; an edge source's instance is taken by it (R164, R165). -/
def beginNotice (src : Source) (s : State) : State :=
  if src.isCondition then beginFrame (.notice src (s.conditionArg src) false) s
  else
    let i := (s.notices.get src).inst
    beginFrame (.notice src i.arg i.more) (modifySource src .take s)

/-- The report stream is asked for its next frame; a stream that has none becomes none (R169). -/
def beginReport (s : State) : State :=
  match s.notices.stream with
  | none => s
  | some st =>
      match s.reportFrame st with
      | some c => beginFrame c s
      | none => { s with notices := { s.notices with stream := none } }

/-- The transmit choice (R87). -/
def transmitChoice (s : State) : State :=
  if s.line.departSlot then beginFrame s.departContent s
  else if s.line.heatSlot then beginFrame s.heatContent s
  else if s.line.airSlot then beginFrame (.air (s.lead.probe.getD 0)) s
  else
    match s.notices.best with
    | some src => beginNotice src s
    | none => beginReport s

/-- The station contends at an idle: configured, not in QUIET, with no frame of its own in flight (R86, R96). -/
def State.mayContend (s : State) : Bool :=
  s.configured && decide (s.line.status ≠ .quiet) && s.line.inFlight.isNone

/-! ### The outcome of a frame (R85, R88, R89) -/

/-- The frame is no longer in flight and has not been sent: what it carried returns to where it waits (R85, R89, R164, R168). -/
def returnFrame (f : Flight) (s : State) : State :=
  let s' := { s with line := { s.line with inFlight := none } }
  match f.content with
  | .notice src _ _ => if src.isCondition then s' else modifySource src .giveBack s'
  | .faultEntry _ _ | .lampEntry _ _ | .bayStatus _ => { s' with notices := s'.notices.reportOutcome false }
  | _ => s'

/-- A finished departure claim carrying SETTLING starts the settle timer once in a stay (R152). -/
def departFinished (state : ClaimState) (countdown : Int) (s : State) : State :=
  if state = .settling ∧ s.dep.state = .settling ∧ s.dep.key = none then
    { s with dep := { s.dep with settleTimer := some (s.now + Config.settle), key := some (countdown, s.now) } }
  else s

/-- The owner is told that its frame has finished, and the frame's source is emptied (R88). -/
def frameGone (f : Flight) (s : State) : State :=
  match f.content with
  | .depart st c => departFinished st c { s with line := { s.line with departSlot := f.renewed } }
  | .heat _ _ intended _ _ _ =>
      { s with line := { s.line with heatSlot := f.renewed }, heat := s.heat.announce intended s.now }
  | .air _ => { s with line := { s.line with airSlot := f.renewed } }
  | .notice src _ _ =>
      if src.isCondition then modifySource src (.told s.now) s else modifySource src .retire s
  | .faultEntry _ _ | .lampEntry _ _ | .bayStatus _ => { s with notices := s.notices.reportOutcome true }

/-- The own frame is finished (R88, R91). -/
def finishFrame (f : Flight) (s : State) : State :=
  frameGone f
    { s with line := { s.line with inFlight := none, errorRun := 0,
                                   status := if s.line.status = .probing then .normal else s.line.status } }

/-- A transmit error counts, and brings QUIET at the sixteenth or at any in PROBING (R89, R90, R91). -/
def countError (s : State) : State :=
  if s.line.status = .probing ∨ Config.errorsToQuiet ≤ s.line.errorRun + 1 then
    { s with line := { s.line with status := .quiet, errorRun := 0, quietTimer := some (s.now + Config.quiet) } }
  else { s with line := { s.line with errorRun := s.line.errorRun + 1 } }

end Sys2Proof.Machine
end

