-- ==== Sys2Proof/Machine/CmdStart.lean ====
section
/-! DEFINITION. The meanings of the start family: the two resets, the configuration read's two ends, and the end of the start interval. -/

namespace Sys2Proof.Machine

open Sys2Proof

/-- The answer of every command: a next state. -/
abbrev Answer := Host.Outcome State Fault Refusal

/-- What a timer's expiry does once it has fallen due; before that, and while the timer is stopped, it cannot arise and nothing
changes (log 2). -/
def onDue (timer : Option Nat) (effect : State → State) (s : State) : State :=
  if fallenDue timer s.now then effect s else s

/-- A probe sample (R111): clamped and kept, the timer restarted, an AIR_TEMP due, the lead recomputed. -/
def sampleProbe (v : Int) (s : State) : State :=
  makeAirDue (recomputeLead
    { s with lead := { s.lead with probe := some (clampInt Config.lowestTemp Config.highestTemp v),
                                   probeTimer := some (s.now + Config.probePeriod) } })

/-- The supply stands above the threshold and the margin (R135). -/
def State.supplyGood (s : State) : Bool := decide (s.sagThreshold + Config.recoveryMargin < s.supply.level)

/-- The lowest level sensed while sag is present, after a level sensed now (R135). -/
def Supply.lowestWith (x : Supply) (level : Nat) : Nat :=
  match x.lowest with
  | some v => min v level
  | none => level

/-- At bring-up the monitor begins to compare (R135): the recovery time counts if the supply is good, and the level that stands is the
first sensed in the presumed sag (log 25). -/
def startMonitor (s : State) : State :=
  { s with supply := { s.supply with
      recovery := if s.supplyGood then some (s.now + Config.recovery) else none,
      lowest := if s.supply.sag then some (s.supply.lowestWith s.supply.level) else s.supply.lowest } }

/-- What bring-up starts in a configured part (R111, R121, R137, R174). The lead is taken from the image's figures, and is that of no
coach in every punctual run, since none is identified yet (R2, R112, R172). -/
def startConfigured (probe : Int) (s : State) : State :=
  let s1 := { s with heat := { s.heat with claimTimer := some (s.now + Config.claimPeriod) },
                     meter := { s.meter with window :=
                       if s.start.image.meterFitted then some (s.now + Config.meterWindow) else none } }
  if s1.start.image.probeFitted then sampleProbe probe s1 else recomputeLead s1

/-- Bring-up (R174): the image's fields are taken by the blocks, and what the start state allows is started. -/
def bringUp (img : Image) (passes : Bool) (probe : Int) (s : State) : State :=
  let s1 := startMonitor
    { s with start := { phase := if passes then .configured else .unconfigured, unconfigured := !passes, readTimer := none,
                        image := img },
             faults := { s.faults with retention := if passes then img.retention else .newest },
             notices := { s.notices.loadMasks img.masks with order := img.order } }
  settle (if passes then startConfigured probe s1 else s1)

/-- POWER_ON (R176): the reset, with cause 0. -/
def execPowerOn (s : State) : Answer := .next (s.afterReset 0)

/-- RESET_LINE (R176): the same reset, with cause 1, or 0 while the supply has not reached the working level since the latest
power-on. -/
def execResetLine (supplyReached : Bool) (s : State) : Answer := .next (s.afterReset (if supplyReached then 1 else 0))

/-- The 300 ms of the read are over with the image not whole (R172): fields not delivered take their defaults, and the image fails. -/
def readTimesOut (words : List Word16) (s : State) : State := bringUp (imageOf words) false 0 s

/-- What the check word does to a read still going on (R172): the image passes or fails, is clamped, and the blocks are brought up. One that
comes past the 300 ms finds the read ended at their end, the check word not delivered (log 3). -/
def checkWordComes (t : Nat) (words : List Word16) (probe : Int) (s : State) : State :=
  match s.start.readTimer with
  | some d =>
      if d < max s.now t then (readTimesOut (words.take (Config.imageWords - 1)) (s.advance d)).advance t
      else bringUp (imageOf words) (imagePasses words) probe (s.advance t)
  | none => bringUp (imageOf words) (imagePasses words) probe (s.advance t)

/-- CONFIG_CHECK_WORD_RECEIVED (R172): only while the part reads. -/
def execConfigCheckWordReceived (t : Nat) (words : List Word16) (probe : Int) (s : State) : Answer :=
  .next (if s.start.phase = .reading then checkWordComes t words probe s else s.advance t)

/-- CONFIG_READ_TIMEOUT (R172). -/
def execConfigReadTimeout (t : Nat) (words : List Word16) (s : State) : Answer :=
  let s' := s.advance t
  .next (onDue s'.start.readTimer (readTimesOut words) s')

/-- START_INTERVAL_END (R2): the occupancy is set once from the filtered levels. -/
def execStartIntervalEnd (t : Nat) (s : State) : Answer :=
  let s' := s.advance t
  .next (onDue s'.bay.startInterval (fun s =>
    let s1 := { s with bay := { s.bay with startInterval := none } }
    settle <|
      match s1.bay.presence.level, s1.bay.plug.level with
      | false, false => setOccupancy .empty s1
      | true, false => setOccupancy .present s1
      | true, true => raiseIdentify (setOccupancy .linking s1)
      | false, true => raiseIdentify (setOccupancy .linking { s1 with bay := { s1.bay with implied := true } })) s')

end Sys2Proof.Machine
end

