-- ==== Sys2Proof/Machine/CmdLamp.lean ====
section
/-! DEFINITION. The meanings of the lamp family: the warm timer, the two measurements, the short watch, the link wait, and RECHECK. -/

namespace Sys2Proof.Machine

open Sys2Proof

/-- A measurement begins (R68, R69): a 200 ms mean, or a capture whose lit level opens at what the current shows. -/
def beginMeasure (p : LampStep) (current : Nat) (s : State) : State :=
  let s1 := { s with lamps := { s.lamps with stage := some .measure, warmTimer := none } }
  if p.flashing then
    let lit := decide (p.onThreshold ≤ sensed current)
    let c : Capture :=
      { window := s.now + Config.captureWindow, lit := { raw := lit, level := lit, since := none }, litAtOpening := lit,
        fallen := false, rises := [], falls := [] }
    { s1 with lamps := { s1.lamps with capture := some c } }
  else { s1 with lamps := { s1.lamps with meanTimer := some (s.now + Config.steadyMean) } }

/-- WARM_TIMER_EXPIRY (R67): the step enters MEASURE. -/
def execWarmTimerExpiry (t current : Nat) (s : State) : Answer :=
  let s' := s.advance t
  .next (onDue s'.lamps.warmTimer (fun s =>
    match s.lamps.current with
    | some p => beginMeasure p current s
    | none => s) s')

/-- STEADY_MEASURE_END (R68): the mean is resolved and the lamp switched off. -/
def execSteadyMeasureEnd (t mean : Nat) (s : State) : Answer :=
  let s' := s.advance t
  .next (onDue s'.lamps.meanTimer (fun s =>
    settle (measureEnds (resolve s.start.image.bands mean) (sensed mean) s)) s')

/-- SHORT_WATCH_BLOCK_END (R66): the block's mean is resolved; SHORT is a short reading, else the next block begins. -/
def execShortWatchBlockEnd (t mean : Nat) (s : State) : Answer :=
  let s' := s.advance t
  .next (onDue s'.lamps.watchTimer (fun s =>
    if resolve s.start.image.bands mean = .short then settle (shortReading (sensed mean) s)
    else { s with lamps := { s.lamps with watchTimer := s.lamps.watchTimer.map (· + Config.watchBlock) } }) s')

/-- The lit filter of an open capture accepts a level (R69): an edge is timed, and the fourth rising edge ends the capture. -/
def acceptLit (c : Capture) (lit : Bool) (onMean : Nat) (s : State) : State :=
  let c' := c.edge lit s.now
  if c'.rises.length < Config.captureEdges then { s with lamps := { s.lamps with capture := some c' } }
  else settle (captureEnds c' onMean onMean s)

/-- LIT_LEVEL_ACCEPTED (R69). -/
def execLitLevelAccepted (t : Nat) (lit : Bool) (mean : Nat) (s : State) : Answer :=
  let s' := s.advance t
  .next <|
    match s'.lamps.capture with
    | some c => if c.lit.mayAccept lit Config.litShort s'.now then acceptLit c lit mean s' else s'
    | none => s'

/-- CAPTURE_WINDOW_EXPIRY (R69): the capture ends with what it has. -/
def execCaptureWindowExpiry (t onMean tailMean : Nat) (s : State) : Answer :=
  let s' := s.advance t
  .next <|
    match s'.lamps.capture with
    | some c => onDue (some c.window) (fun s => settle (captureEnds c onMean tailMean s)) s'
    | none => s'

/-- LINK_WAIT_EXPIRY (R75): the step begins again once, or the check ends on link failure. -/
def execLinkWaitExpiry (t : Nat) (s : State) : Answer :=
  let s' := s.advance t
  .next (onDue s'.lamps.linkWaitTimer (fun s => settle (linkWaitOver s)) s')

/-- RECHECK_LAMPS (R65): with a session open, an early departure state and no check running, the sheet is emptied, the lamp blocking
condition given to clearance, and then R63 tested. So a check that completes where it starts still takes READY over ASSIGNED, with a
DEPART_CLAIM due (R150, R161). -/
def execRecheckLamps (t : Nat) (s : State) : Answer :=
  .next (receive (fun s =>
    if s.sessionOpen && s.dep.state.early && !s.lamps.running then settle (leaveReady (emptySheet s)) else s)
    (s.advance t))

/-- RECHECK_FAULTS (R38): with a session open and an early departure state, a pass is owed. -/
def execRecheckFaults (t : Nat) (s : State) : Answer :=
  .next (receive (fun s =>
    if s.sessionOpen && s.dep.state.early then settle { s with link := { s.link with passOwed := true } } else s)
    (s.advance t))

end Sys2Proof.Machine
end

