-- ==== Sys2Proof/Machine/CmdBay.lean ====
section
/-! DEFINITION. The meanings of the bay family: raw inputs, filter acceptances, the key and the re-identify timer. -/

namespace Sys2Proof.Machine

open Sys2Proof

/-! ### What an acceptance does -/

/-- The loop accepts occupied (R3). -/
def loopOccupied (s : State) : State :=
  match s.bay.occupancy with
  | .empty => setOccupancy .present s
  | .present => s
  | .linking | .connected | .unlinked => { s with bay := { s.bay with implied := false } }

/-- The loop accepts clear (R4, R7). -/
def loopClear (s : State) : State :=
  match s.bay.occupancy with
  | .present => enterEmpty s
  | .empty => s
  | .linking | .connected | .unlinked => { s with bay := { s.bay with implied := true } }

/-- The presence filter accepts a level (R1, R3, R4); during the start interval only the level is taken (R2). -/
def acceptPresence (level : Bool) (s : State) : State :=
  let s1 := { s with bay := { s.bay with presence := s.bay.presence.accept level } }
  if s1.bay.startInterval.isSome then s1 else settle (if level then loopOccupied s1 else loopClear s1)

/-- The link controller takes the plug's arrival (R21). -/
def linkPlugIn (s : State) : State :=
  if s.link.state = .unplugged then { s with link := { s.link with state := .opening, failureRun := 0 } } else s

/-- The bay monitor takes the plug's arrival (R5). -/
def bayPlugIn (s : State) : State :=
  match s.bay.occupancy with
  | .empty => raiseIdentify { s with bay := { s.bay with occupancy := .linking, implied := true } }
  | .present => raiseIdentify { s with bay := { s.bay with occupancy := .linking } }
  | .linking | .connected | .unlinked => s

/-- The bay monitor takes the plug's leaving: IDENTIFY withdrawn, the timer stopped, then PRESENT or EMPTY (R6). -/
def bayPlugOut (s : State) : State :=
  match s.bay.occupancy with
  | .empty | .present => s
  | .linking | .connected | .unlinked =>
      let s1 := { s with link := { s.link with identifyReq := false }, bay := { s.bay with reidentify := none } }
      if s1.bay.implied then enterEmpty s1 else setOccupancy .present s1

/-- The plug filter accepts in (R1, R5, R21): the link leaves UNPLUGGED first, so that the IDENTIFY finds it OPENING. During the start
interval only the link follows (R2). -/
def acceptPlugIn (s : State) : State :=
  let s1 := linkPlugIn { s with bay := { s.bay with plug := s.bay.plug.accept true } }
  if s1.bay.startInterval.isSome then s1 else settle (bayPlugIn s1)

/-- The plug filter accepts out (R1, R6, R29, R80): the bay monitor acts first, then the link controller. During the start interval only
the link follows (R2). -/
def acceptPlugOut (s : State) : State :=
  let s1 := { s with bay := { s.bay with plug := s.bay.plug.accept false } }
  settle (linkPlugOut (if s1.bay.startInterval.isSome then s1 else bayPlugOut s1))

/-- The key filter accepts a level, which has no other effect than being read at a later WAIVE (R1, R17). -/
def acceptKey (level : Bool) (s : State) : State := { s with bay := { s.bay with key := s.bay.key.accept level } }

/-! ### The commands -/

/-- An acceptance the long limit brought about before now is taken at its own moment (R1; log 3). -/
def takeHeld (held : Option Nat) (effect : State → State) (s : State) : State :=
  match held with
  | some moment => effect (s.advance moment)
  | none => s

/-- The presence loop's raw level changes (R1). -/
def rawPresence (t : Nat) (level : Bool) (s : State) : State :=
  let s' := (takeHeld (s.bay.presence.heldTo level Config.presenceLong (max s.now t)) (acceptPresence (!level)) s).advance t
  { s' with bay := { s'.bay with presence := s'.bay.presence.rawChange level s'.now } }

/-- The plug contact's raw level changes (R1). -/
def rawPlug (t : Nat) (level : Bool) (s : State) : State :=
  let s' := (takeHeld (s.bay.plug.heldTo level Config.plugLong (max s.now t))
    (if level then acceptPlugOut else acceptPlugIn) s).advance t
  { s' with bay := { s'.bay with plug := s'.bay.plug.rawChange level s'.now } }

/-- The key switch's raw level changes (R1). -/
def rawKey (t : Nat) (level : Bool) (s : State) : State :=
  let s' := (takeHeld (s.bay.key.heldTo level Config.keyLong (max s.now t)) (acceptKey (!level)) s).advance t
  { s' with bay := { s'.bay with key := s'.bay.key.rawChange level s'.now } }

/-- The flash sense shows another current (R69): read only while a capture is open, as lit at or above the step's on-threshold. -/
def rawFlash (t onMean current : Nat) (s : State) : State :=
  match s.lamps.capture, s.lamps.current with
  | some c, some p =>
      let lit := decide (p.onThreshold ≤ sensed current)
      let s' := (takeHeld (c.lit.heldTo lit Config.litLong (max s.now t)) (acceptLit c (!lit) onMean) s).advance t
      { s' with lamps := { s'.lamps with
          capture := s'.lamps.capture.map fun x => { x with lit := x.lit.rawChange lit s'.now } } }
  | _, _ => s.advance t

/-- RAW_INPUT_CHANGE (R1, R69): a raw level changes, beginning or discarding a candidate; a candidate that had lasted the long limit is
accepted first, at the moment it did. -/
def execRawInputChange (t : Nat) (pin : Pin) (level : Nat) (s : State) : Answer :=
  .next <|
    match pin with
    | .presence => rawPresence t (level != 0) s
    | .plug => rawPlug t (level != 0) s
    | .key => rawKey t (level != 0) s
    | .flash onMean => rawFlash t onMean level s

/-- PRESENCE_ACCEPTED_OCCUPIED (R1, R2, R3). -/
def execPresenceAcceptedOccupied (t : Nat) (s : State) : Answer :=
  let s' := s.advance t
  .next (if s'.bay.presence.mayAccept true Config.presenceShort s'.now then acceptPresence true s' else s')

/-- PRESENCE_ACCEPTED_CLEAR (R1, R2, R4). -/
def execPresenceAcceptedClear (t : Nat) (s : State) : Answer :=
  let s' := s.advance t
  .next (if s'.bay.presence.mayAccept false Config.presenceShort s'.now then acceptPresence false s' else s')

/-- PLUG_ACCEPTED_IN (R1, R2, R5, R21). -/
def execPlugAcceptedIn (t : Nat) (s : State) : Answer :=
  let s' := s.advance t
  .next (if s'.bay.plug.mayAccept true Config.plugShort s'.now then acceptPlugIn s' else s')

/-- PLUG_ACCEPTED_OUT (R1, R2, R6, R29, R80). -/
def execPlugAcceptedOut (t : Nat) (s : State) : Answer :=
  let s' := s.advance t
  .next (if s'.bay.plug.mayAccept false Config.plugShort s'.now then acceptPlugOut s' else s')

/-- KEY_ACCEPTED (R1, R17). -/
def execKeyAccepted (t : Nat) (level : Bool) (s : State) : Answer :=
  let s' := s.advance t
  .next (if s'.bay.key.mayAccept level Config.keyShort s'.now then acceptKey level s' else s')

/-- REIDENTIFY_TIMER_EXPIRY (R9): in UNLINKED, IDENTIFY is raised, and the timer stands stopped meanwhile. -/
def execReidentifyTimerExpiry (t : Nat) (s : State) : Answer :=
  let s' := s.advance t
  .next (onDue s'.bay.reidentify (fun s =>
    let s1 := { s with bay := { s.bay with reidentify := none } }
    settle (if s1.bay.occupancy = .unlinked then raiseIdentify s1 else s1)) s')

end Sys2Proof.Machine
end

