-- ==== Sys2Proof/Machine/CmdClearance.lean ====
section
/-! DEFINITION. The meanings of the clearance family: orders from the panels, the depot hold, the countdown and the departure's timers. -/

namespace Sys2Proof.Machine

open Sys2Proof

/-- HOLD_SET (R160): the depot hold is set and its 30 s run from now. -/
def execHoldSet (t : Nat) (s : State) : Answer :=
  .next (receive (fun s => settle
    { s with dep := { s.dep with hold := true, holdTimer := some (s.now + Config.depotHold) } }) (s.advance t))

/-- HOLD_CLEAR (R160). -/
def execHoldClear (t : Nat) (s : State) : Answer :=
  .next (receive (fun s => settle { s with dep := { s.dep with hold := false, holdTimer := none } }) (s.advance t))

/-- HOLD_TIMER_EXPIRY (R160). -/
def execHoldTimerExpiry (t : Nat) (s : State) : Answer :=
  let s' := s.advance t
  .next (onDue s'.dep.holdTimer (fun s => settle { s with dep := { s.dep with hold := false, holdTimer := none } }) s')

/-- The first whole second of uptime after now (R143). -/
def State.nextSecond (s : State) : Nat := (s.now / 1000 + 1) * 1000

/-- An accepted ASSIGN (R143, R144): the state becomes ASSIGNED, the assignment and countdown the frame's, the claim falls due and
the lead is recomputed. -/
def acceptAssign (coach countdown : Nat) (s : State) : State :=
  let s1 := changeDep .assigned s
  recomputeLead (makeDepartDue
    { s1 with dep := { s1.dep with assignment := some coach, countdown := some (countdown : Int),
                                   nextFall := some s.nextSecond } })

/-- ASSIGN (R144): accepted, or refused in HOLDING and GONE with ASSIGN_REFUSED. -/
def execAssign (t coach countdown : Nat) (s : State) : Answer :=
  .next (receive (fun s =>
    if coach ≤ 65535 ∧ countdown ≤ 65535 then
      match s.dep.state with
      | .holding | .gone => raiseEdge .assignRefused coach s
      | .none | .assigned | .ready | .settling | .lapsed => settle (acceptAssign coach countdown s)
    else s) (s.advance t))

/-- CANCEL (R145): ASSIGNED, READY, SETTLING and LAPSED go to NONE; NONE, HOLDING and GONE stay. -/
def execCancel (t : Nat) (s : State) : Answer :=
  .next (receive (fun s =>
    match s.dep.state with
    | .assigned | .ready | .settling | .lapsed => settle (enterNone s)
    | .none | .holding | .gone => s) (s.advance t))

/-- A WAIVE is accepted with a session open and the filtered key on (R17, R149). -/
def State.waiveAccepted (s : State) : Bool := s.sessionOpen && s.bay.key.level

/-- WAIVE_LAMP (R149). -/
def execWaiveLamp (t : Nat) (s : State) : Answer :=
  .next (receive (fun s =>
    if s.waiveAccepted then settle { s with dep := { s.dep with waiveLamp := true } } else s) (s.advance t))

/-- WAIVE_FAULT (R149): the fault list is told, and BLOCKING_FAULT ends (R56). -/
def execWaiveFault (t : Nat) (s : State) : Answer :=
  .next (receive (fun s =>
    if s.waiveAccepted then settle { s with dep := { s.dep with waiveFault := true } } else s) (s.advance t))

/-- WAIVE_HEAT (R149). -/
def execWaiveHeat (t : Nat) (s : State) : Answer :=
  .next (receive (fun s =>
    if s.waiveAccepted then settle { s with dep := { s.dep with waiveHeat := true } } else s) (s.advance t))

/-- COUNTDOWN_TICK (R143): the countdown falls by one at a whole second, staying at -3600. -/
def execCountdownTick (t : Nat) (s : State) : Answer :=
  let s' := s.advance t
  .next (onDue s'.dep.nextFall (fun s => settle
    { s with dep := { s.dep with countdown := s.dep.countdown.map fun c => max Config.lowestCountdown (c - 1),
                                 nextFall := some s.nextSecond } }) s')

/-- SETTLE_TIMER_EXPIRY (R155): SETTLING becomes HOLDING and the head shows green. -/
def execSettleTimerExpiry (t : Nat) (s : State) : Answer :=
  let s' := s.advance t
  .next (onDue s'.dep.settleTimer (fun s =>
    if s.dep.state = .settling then settle (enterHolding s) else s) s')

/-- RELEASE_WINDOW_EXPIRY (R156): HOLDING becomes LAPSED. -/
def execReleaseWindowExpiry (t : Nat) (s : State) : Answer :=
  let s' := s.advance t
  .next (onDue s'.dep.releaseTimer (fun s =>
    if s.dep.state = .holding then settle (enterLapsed s) else s) s')

/-- The lane transit is over: GONE becomes NONE, and a departing session ends (R14, R157). -/
def transitOver (s : State) : State :=
  let s1 := enterNone { s with dep := { s.dep with transitTimer := none } }
  match s1.bay.session with
  | .departing id => endSession .departureCompleted id.coach s1
  | _ => s1

/-- TRANSIT_TIMER_EXPIRY (R14, R157). -/
def execTransitTimerExpiry (t : Nat) (s : State) : Answer :=
  let s' := s.advance t
  .next (onDue s'.dep.transitTimer (fun s => if s.dep.state = .gone then settle (transitOver s) else s) s')

end Sys2Proof.Machine
end

