-- ==== Sys2Proof/Machine/CmdHeat.lean ====
section
/-! DEFINITION. The meanings of the heat family: the supply monitor, the claim period, the probe and the meter. -/

namespace Sys2Proof.Machine

open Sys2Proof

/-- The monitor takes a level while sag is present: the lowest follows it, and the recovery time counts only above the threshold
and the margin (R135). -/
def watchRecovery (level : Nat) (s : State) : State :=
  { s with supply := { s.supply with
      lowest := some (s.supply.lowestWith level),
      recovery :=
        if s.supplyGood then (match s.supply.recovery with
          | some d => some d
          | none => some (s.now + Config.recovery))
        else none } }

/-- The monitor takes a level while sag is absent: an unbroken stay below the threshold runs toward a detection (R135). -/
def watchDip (level : Nat) (s : State) : State :=
  { s with supply := { s.supply with dip :=
      if level < s.sagThreshold then (match s.supply.dip with
        | some d => some d
        | none => some (s.now + Config.sagBreak))
      else none } }

/-- SUPPLY_SENSE_CHANGE (R135): until bring-up the monitor compares nothing. -/
def execSupplySenseChange (t level : Nat) (s : State) : Answer :=
  let s' := s.advance t
  let s1 := { s' with supply := { s'.supply with level := level } }
  .next <|
    if s1.start.phase = .reading then s1
    else if s1.supply.sag then watchRecovery level s1
    else watchDip level s1

/-- SAG_DETECTED (R135): sag is present; the lamp checker (R77) and the heat controller (R136) are told. -/
def execSagDetected (t : Nat) (s : State) : Answer :=
  let s' := s.advance t
  .next (onDue s'.supply.dip (fun s =>
    if s.supply.sag then s
    else
      settle (lampSag { s with supply := { s.supply with
        sag := true, detected := true, lowest := some s.supply.level, recovery := none, dip := none } })) s')

/-- SUPPLY_RECOVERED (R135): sag is absent; the lamp checker (R78) and the heat controller (R136) are told. -/
def execSupplyRecovered (t : Nat) (s : State) : Answer :=
  let s' := s.advance t
  .next (onDue s'.supply.recovery (fun s =>
    if s.supply.sag then settle (lampRecovered { s with supply := { s.supply with sag := false, recovery := none } })
    else s) s')

/-- CLAIM_PERIOD_EXPIRY (R128, R161): the round, the update of drawing, then both claims due and the timer afresh. -/
def execClaimPeriodExpiry (t : Nat) (s : State) : Answer :=
  let s' := s.advance t
  .next (onDue s'.heat.claimTimer (fun s =>
    let s1 := takeRound s
    settle (makeDepartDue (makeHeatDue
      { s1 with heat := { s1.heat with claimTimer := some (s.now + Config.claimPeriod) } }))) s')

/-- PROBE_TIMER_EXPIRY (R111): the probe is sampled, an AIR_TEMP falls due, the lead is recomputed. -/
def execProbeTimerExpiry (t : Nat) (sample : Int) (s : State) : Answer :=
  let s' := s.advance t
  .next (onDue s'.lead.probeTimer (fun s => settle (sampleProbe sample s)) s')

/-- METER_PULSE (R137): a running window counts it, staying at 65535. -/
def execMeterPulse (t : Nat) (s : State) : Answer :=
  let s' := s.advance t
  .next <|
    match s'.meter.window with
    | some _ => { s' with meter := { s'.meter with count := min 65535 (s'.meter.count + 1) } }
    | none => s'

/-- METER_WINDOW_EXPIRY (R137): the full window's verdict is taken, and the next window starts. -/
def execMeterWindowExpiry (t : Nat) (s : State) : Answer :=
  let s' := s.advance t
  .next (onDue s'.meter.window (fun s => settle (closeWindow s)) s')

end Sys2Proof.Machine
end

