-- ==== Sys2Proof/Machine/CmdLine.lean ====
section
/-! DEFINITION. The meanings of the line family: the wires' idles and outcomes, discarded frames, address conflict and peer claims. -/

namespace Sys2Proof.Machine

open Sys2Proof

/-- LINE_IDLE (R85, R86): at an idle the transmit choice is made and the frame chosen is built and begun. An idle is an event here, the
beginning of a chance to contend: what falls due while the line goes on standing idle begins at the next LINE_IDLE (log 36). -/
def execLineIdle (t : Nat) (s : State) : Answer :=
  let s' := s.advance t
  .next (if s'.mayContend then transmitChoice s' else s')

/-- ARBITRATION_LOST (R85): the frame has not been sent; what it carried stays waiting. -/
def execArbitrationLost (t : Nat) (s : State) : Answer :=
  let s' := s.advance t
  .next <|
    match s'.line.inFlight with
    | some f => returnFrame f s'
    | none => s'

/-- FRAME_FINISHED (R88). -/
def execFrameFinished (t : Nat) (s : State) : Answer :=
  let s' := s.advance t
  .next <|
    match s'.line.inFlight with
    | some f => settle (finishFrame f s')
    | none => s'

/-- TRANSMIT_ERROR (R89). -/
def execTransmitError (t : Nat) (s : State) : Answer :=
  let s' := s.advance t
  .next <|
    match s'.line.inFlight with
    | some f => settle (countError (returnFrame f s'))
    | none => s'

/-- QUIET_TIMER_EXPIRY (R91): the status becomes PROBING. -/
def execQuietTimerExpiry (t : Nat) (s : State) : Answer :=
  let s' := s.advance t
  .next (onDue s'.line.quietTimer (fun s =>
    { s with line := { s.line with quietTimer := none,
                                   status := if s.line.status = .quiet then .probing else s.line.status } }) s')

/-- FRAME_MALFORMED (R92): discarded; a right check field still earns the receipt mark. -/
def execFrameMalformed (t : Nat) (checkRight : Bool) (s : State) : Answer := .next (markReceipt checkRight (s.advance t))

/-- FRAME_SENDER_REFUSED (R93): marked and discarded. -/
def execFrameSenderRefused (t : Nat) (s : State) : Answer := .next (markReceipt true (s.advance t))

/-- FRAME_NOT_FOR_BAY (R94): marked and discarded. -/
def execFrameNotForBay (t : Nat) (s : State) : Answer := .next (receive id (s.advance t))

/-- UNCONFIGURED_FRAME_RECEIVED (R96): no receipt mark, and handed to no block. It cannot arise while configured. -/
def execUnconfiguredFrameReceived (t : Nat) (s : State) : Answer :=
  let s' := s.advance t
  .next (if s'.configured then s' else markReceipt false s')

/-- OWN_NUMBER_HEARD (R95): conflict is set and its timer starts afresh. -/
def execOwnNumberHeard (t : Nat) (s : State) : Answer :=
  .next (receive (fun s =>
    settle { s with line := { s.line with conflict := true, conflictTimer := some (s.now + Config.conflict) } })
    (s.advance t))

/-- CONFLICT_TIMER_EXPIRY (R95). -/
def execConflictTimerExpiry (t : Nat) (s : State) : Answer :=
  let s' := s.advance t
  .next (onDue s'.line.conflictTimer (fun s =>
    settle { s with line := { s.line with conflict := false, conflictTimer := none } }) s')

/-- The peer table's entry for a station is changed. -/
def setPeer (n : Nat) (f : PeerEntry → PeerEntry) (s : State) : State :=
  { s with peers := { s.peers with entries := changeEntry n f s.peers.entries } }

/-- HEAT_CLAIM_RECEIVED (R92, R98, R99): the heat part is replaced whole. -/
def execHeatClaimReceived (t sender : Nat) (state : HeatState) (wanted intended drawn power : Nat) (latest : Int)
    (s : State) : Answer :=
  .next (receive (fun s =>
    if s.isPeer sender && heatClaimForm wanted intended drawn power then
      let part : HeatPart := { state := state, wanted := wanted, power := power, latest := latest, heard := s.now }
      setPeer sender (fun e => { e with heat := some part }) s
    else s) (s.advance t))

/-- DEPART_CLAIM_RECEIVED (R98, R100, R154): the departure part is replaced, and clearance hears the claim. -/
def execDepartClaimReceived (t sender : Nat) (state : ClaimState) (countdown : Int) (s : State) : Answer :=
  .next (receive (fun s =>
    if s.isPeer sender then
      let part : DepartPart := { state := state, countdown := countdown, heard := s.now }
      let s1 := setPeer sender (fun e => { e with depart := some part }) s
      settle (if state = .settling then hearSettling sender countdown s1 else s1)
    else s) (s.advance t))

/-- AIR_TEMP_RECEIVED (R98, R101): the clamped air part is replaced, and a change of the lowest is given. -/
def execAirTempReceived (t sender : Nat) (temp : Int) (s : State) : Answer :=
  .next (receive (fun s =>
    if s.isPeer sender then
      let part : AirPart := { temp := clampInt Config.lowestTemp Config.highestTemp temp, heard := s.now }
      settle (giveLowestAir (setPeer sender (fun e => { e with air := some part }) s))
    else s) (s.advance t))

/-- PEER_PART_EXPIRY (R103): an expired part is removed, and the neighbours it concerns are told. -/
def execPeerPartExpiry (t station : Nat) (part : PartKind) (s : State) : Answer :=
  let s' := s.advance t
  .next (settle (giveLowestAir { s' with peers := s'.peers.expirePart s'.now station part }))

end Sys2Proof.Machine
end

