-- ==== Sys2Proof/Machine/CmdLink.lean ====
section
/-! DEFINITION. The meanings of the link family: responses, timeouts, and the link controller's timers. -/

namespace Sys2Proof.Machine

open Sys2Proof

/-- IDENTIFY_RESPONSE (R25, R30): the link comes UP, the identity goes to the bay monitor, then the hint to the fault list. -/
def execIdentifyResponse (t tag coach cls hint : Nat) (s : State) : Answer :=
  .next <| takeReply t tag
    (fun r => decide (r = .identify) && decide (coach ≤ 65535) && decide (cls ≤ 3) && decide (hint ≤ 255))
    (fun _ s => takeHint hint (identifySucceeded { coach := coach, cls := cls } (linkComesUp s)))
    s

/-- LAMP_SET_RESPONSE (R31): well-formed when it repeats the channel and the setting. -/
def execLampSetResponse (t tag channel : Nat) (on : Bool) (s : State) : Answer :=
  .next <| takeReply t tag (fun r => decide (r = .lampSet channel on))
    (fun x s => lampAcknowledged channel on x.live s) s

/-- READ_TEMP_RESPONSE (R33): a temperature is clamped and held fresh, the no-sensor mark makes the cache stale. -/
def execReadTempResponse (t tag : Nat) (reading : Option Int) (s : State) : Answer :=
  .next <| takeReply t tag (fun r => decide (r = .readTemp))
    (fun _ s =>
      match reading with
      | some v => takeReading v s
      | none => takeNoSensor s) s

/-- The request is a FAULT_NEXT. -/
def Request.isFaultNext (r : Request) : Bool :=
  match r with
  | .faultNext _ => true
  | _ => false

/-- FAULT_NEXT_ENTRY (R36): the entry is handed to the fault list and the next cursor asked for, or the pass abandoned at its
limit (R37). -/
def execFaultNextEntry (t tag module code : Nat) (severity : Severity) (count next : Nat) (s : State) : Answer :=
  .next <| takeReply t tag
    (fun r => Request.isFaultNext r && decide (module ≤ 255) && decide (code ≤ 65535) && decide (count ≤ 255) &&
      decide (next ≤ 65535))
    (fun x s => if x.live then takeEntry module code severity count next s else s) s

/-- FAULT_NEXT_END_MARK (R36): the pass is complete. -/
def execFaultNextEndMark (t tag : Nat) (s : State) : Answer :=
  .next <| takeReply t tag (fun r => Request.isFaultNext r)
    (fun x s => if x.live ∧ s.link.pass.isSome then completePass s else s) s

/-- LINK_RESPONSE_MALFORMED (R26): with the request's tag it fails the transaction. -/
def execLinkResponseMalformed (t tag : Nat) (s : State) : Answer :=
  .next <| takeReply t tag (fun _ => false) (fun _ s => s) s

/-- LINK_TIMEOUT (R26): the 250 ms have passed without a response. -/
def execLinkTimeout (t : Nat) (s : State) : Answer :=
  let s' := s.advance t
  .next <|
    match s'.link.busy with
    | some x => onDue (some x.timer) (fun s => settle (transactionFails x s)) s'
    | none => s'

/-- LINK_RESPONSE_OTHER_TAG (R24): discarded, and the wait goes on. -/
def execLinkResponseOtherTag (t : Nat) (s : State) : Answer := .next (s.advance t)

/-- POLL_TIMER_EXPIRY (R32): READ_TEMP is raised and the timer restarts. -/
def execPollTimerExpiry (t : Nat) (s : State) : Answer :=
  let s' := s.advance t
  .next (onDue s'.link.pollTimer (fun s =>
    let s1 := raiseTemp s
    settle { s1 with link := { s1.link with pollTimer := some (s.now + Config.poll) } }) s')

/-- CACHE_STALE_TIMER_EXPIRY (R34): 120 s after its reading the cache goes stale. -/
def execCacheStaleTimerExpiry (t : Nat) (s : State) : Answer :=
  let s' := s.advance t
  .next (onDue s'.link.cache.staleTimer (fun s => settle (staleCache s)) s')

/-- PASS_TIMER_EXPIRY (R35): a pass is owed and the timer restarts. -/
def execPassTimerExpiry (t : Nat) (s : State) : Answer :=
  let s' := s.advance t
  .next (onDue s'.link.passTimer (fun s =>
    settle { s with link := { s.link with passOwed := true, passTimer := some (s.now + Config.passPeriod) } }) s')

end Sys2Proof.Machine
end

