-- ==== Sys2Proof/Machine/CmdNotices.lean ====
section
/-! DEFINITION. The meanings of the notices family: masks, report requests and the repeat timers. -/

namespace Sys2Proof.Machine

open Sys2Proof

/-- MASK_SET_SOURCES (R166). -/
def execMaskSetSources (t : Nat) (sources : Word16) (s : State) : Answer :=
  .next (receive (fun s => { s with notices := s.notices.setMasks sources true }) (s.advance t))

/-- MASK_CLEAR_SOURCES (R166). -/
def execMaskClearSources (t : Nat) (sources : Word16) (s : State) : Answer :=
  .next (receive (fun s => { s with notices := s.notices.setMasks sources false }) (s.advance t))

/-- MASK_ALL_ON (R166): the own masks are left as they are. -/
def execMaskAllOn (t : Nat) (s : State) : Answer :=
  .next (receive (fun s => { s with notices := { s.notices with maskAll := true } }) (s.advance t))

/-- MASK_ALL_OFF (R166). -/
def execMaskAllOff (t : Nat) (s : State) : Answer :=
  .next (receive (fun s => { s with notices := { s.notices with maskAll := false } }) (s.advance t))

/-- REPORT_REQ_FAULTS (R168). -/
def execReportReqFaults (t : Nat) (s : State) : Answer := .next (receive (requestReport .faults) (s.advance t))

/-- REPORT_REQ_LAMPS (R168). -/
def execReportReqLamps (t : Nat) (s : State) : Answer := .next (receive (requestReport .lamps) (s.advance t))

/-- REPORT_REQ_BAY_STATUS (R168). -/
def execReportReqBayStatus (t : Nat) (s : State) : Answer := .next (receive (requestReport .bayStatus) (s.advance t))

/-- NOTICE_REPEAT_EXPIRY (R165): pending is set again, whatever the mask. -/
def execNoticeRepeatExpiry (t : Nat) (source : Source) (s : State) : Answer :=
  let s' := s.advance t
  .next (onDue (s'.notices.get source).repeatTimer
    (modifySource source fun r => { r with pending := true, repeatTimer := none }) s')

end Sys2Proof.Machine
end

