-- ==== Sys2Proof/Machine/Dispatch.lean ====
section
/-! DEFINITION. Each command to its meaning. -/

namespace Sys2Proof.Machine

open Sys2Proof

def exec (i : Instr) (s : State) : Host.Outcome State Fault Refusal :=
  match i with
  | .powerOn => Sys2Proof.Machine.execPowerOn s
  | .resetLine supplyReached => Sys2Proof.Machine.execResetLine supplyReached s
  | .configCheckWordReceived t words probe => Sys2Proof.Machine.execConfigCheckWordReceived t words probe s
  | .configReadTimeout t words => Sys2Proof.Machine.execConfigReadTimeout t words s
  | .startIntervalEnd t => Sys2Proof.Machine.execStartIntervalEnd t s
  | .rawInputChange t pin level => Sys2Proof.Machine.execRawInputChange t pin level s
  | .presenceAcceptedOccupied t => Sys2Proof.Machine.execPresenceAcceptedOccupied t s
  | .presenceAcceptedClear t => Sys2Proof.Machine.execPresenceAcceptedClear t s
  | .plugAcceptedIn t => Sys2Proof.Machine.execPlugAcceptedIn t s
  | .plugAcceptedOut t => Sys2Proof.Machine.execPlugAcceptedOut t s
  | .keyAccepted t level => Sys2Proof.Machine.execKeyAccepted t level s
  | .reidentifyTimerExpiry t => Sys2Proof.Machine.execReidentifyTimerExpiry t s
  | .identifyResponse t tag coach cls hint => Sys2Proof.Machine.execIdentifyResponse t tag coach cls hint s
  | .lampSetResponse t tag channel on => Sys2Proof.Machine.execLampSetResponse t tag channel on s
  | .readTempResponse t tag reading => Sys2Proof.Machine.execReadTempResponse t tag reading s
  | .faultNextEntry t tag module code severity count next => Sys2Proof.Machine.execFaultNextEntry t tag module code severity count next s
  | .faultNextEndMark t tag => Sys2Proof.Machine.execFaultNextEndMark t tag s
  | .linkResponseMalformed t tag => Sys2Proof.Machine.execLinkResponseMalformed t tag s
  | .linkTimeout t => Sys2Proof.Machine.execLinkTimeout t s
  | .linkResponseOtherTag t _ => Sys2Proof.Machine.execLinkResponseOtherTag t s
  | .pollTimerExpiry t => Sys2Proof.Machine.execPollTimerExpiry t s
  | .cacheStaleTimerExpiry t => Sys2Proof.Machine.execCacheStaleTimerExpiry t s
  | .passTimerExpiry t => Sys2Proof.Machine.execPassTimerExpiry t s
  | .warmTimerExpiry t current => Sys2Proof.Machine.execWarmTimerExpiry t current s
  | .steadyMeasureEnd t mean => Sys2Proof.Machine.execSteadyMeasureEnd t mean s
  | .shortWatchBlockEnd t mean => Sys2Proof.Machine.execShortWatchBlockEnd t mean s
  | .litLevelAccepted t lit mean => Sys2Proof.Machine.execLitLevelAccepted t lit mean s
  | .captureWindowExpiry t onMean tailMean => Sys2Proof.Machine.execCaptureWindowExpiry t onMean tailMean s
  | .linkWaitExpiry t => Sys2Proof.Machine.execLinkWaitExpiry t s
  | .supplySenseChange t level => Sys2Proof.Machine.execSupplySenseChange t level s
  | .sagDetected t => Sys2Proof.Machine.execSagDetected t s
  | .supplyRecovered t => Sys2Proof.Machine.execSupplyRecovered t s
  | .lineIdle t => Sys2Proof.Machine.execLineIdle t s
  | .arbitrationLost t => Sys2Proof.Machine.execArbitrationLost t s
  | .frameFinished t => Sys2Proof.Machine.execFrameFinished t s
  | .transmitError t => Sys2Proof.Machine.execTransmitError t s
  | .quietTimerExpiry t => Sys2Proof.Machine.execQuietTimerExpiry t s
  | .frameMalformed t checkRight => Sys2Proof.Machine.execFrameMalformed t checkRight s
  | .frameSenderRefused t => Sys2Proof.Machine.execFrameSenderRefused t s
  | .frameNotForBay t => Sys2Proof.Machine.execFrameNotForBay t s
  | .unconfiguredFrameReceived t => Sys2Proof.Machine.execUnconfiguredFrameReceived t s
  | .ownNumberHeard t => Sys2Proof.Machine.execOwnNumberHeard t s
  | .conflictTimerExpiry t => Sys2Proof.Machine.execConflictTimerExpiry t s
  | .heatClaimReceived t sender state wanted intended drawn power latest => Sys2Proof.Machine.execHeatClaimReceived t sender state wanted intended drawn power latest s
  | .departClaimReceived t sender state countdown => Sys2Proof.Machine.execDepartClaimReceived t sender state countdown s
  | .airTempReceived t sender temp => Sys2Proof.Machine.execAirTempReceived t sender temp s
  | .peerPartExpiry t station part => Sys2Proof.Machine.execPeerPartExpiry t station part s
  | .holdSet t => Sys2Proof.Machine.execHoldSet t s
  | .holdClear t => Sys2Proof.Machine.execHoldClear t s
  | .holdTimerExpiry t => Sys2Proof.Machine.execHoldTimerExpiry t s
  | .assign t coach countdown => Sys2Proof.Machine.execAssign t coach countdown s
  | .cancel t => Sys2Proof.Machine.execCancel t s
  | .waiveLamp t => Sys2Proof.Machine.execWaiveLamp t s
  | .waiveFault t => Sys2Proof.Machine.execWaiveFault t s
  | .waiveHeat t => Sys2Proof.Machine.execWaiveHeat t s
  | .recheckLamps t => Sys2Proof.Machine.execRecheckLamps t s
  | .recheckFaults t => Sys2Proof.Machine.execRecheckFaults t s
  | .maskSetSources t sources => Sys2Proof.Machine.execMaskSetSources t sources s
  | .maskClearSources t sources => Sys2Proof.Machine.execMaskClearSources t sources s
  | .maskAllOn t => Sys2Proof.Machine.execMaskAllOn t s
  | .maskAllOff t => Sys2Proof.Machine.execMaskAllOff t s
  | .reportReqFaults t => Sys2Proof.Machine.execReportReqFaults t s
  | .reportReqLamps t => Sys2Proof.Machine.execReportReqLamps t s
  | .reportReqBayStatus t => Sys2Proof.Machine.execReportReqBayStatus t s
  | .claimPeriodExpiry t => Sys2Proof.Machine.execClaimPeriodExpiry t s
  | .probeTimerExpiry t sample => Sys2Proof.Machine.execProbeTimerExpiry t sample s
  | .meterPulse t => Sys2Proof.Machine.execMeterPulse t s
  | .meterWindowExpiry t => Sys2Proof.Machine.execMeterWindowExpiry t s
  | .countdownTick t => Sys2Proof.Machine.execCountdownTick t s
  | .settleTimerExpiry t => Sys2Proof.Machine.execSettleTimerExpiry t s
  | .releaseWindowExpiry t => Sys2Proof.Machine.execReleaseWindowExpiry t s
  | .transitTimerExpiry t => Sys2Proof.Machine.execTransitTimerExpiry t s
  | .noticeRepeatExpiry t source => Sys2Proof.Machine.execNoticeRepeatExpiry t source s

end Sys2Proof.Machine
end

