-- ==== Sys2Proof/Machine/Frames.lean ====
section
/-! DEFINITION. The layouts of what the part sends: its line frames with BAY_STATUS (R177, R178) and its link requests (12, section
12.2). -/

namespace Sys2Proof.Machine

open Sys2Proof

/-! ### Fields (R177) -/

/-- A number in one byte. -/
def byteOf (n : Nat) : Byte := BitVec.ofNat 8 n

/-- A number in two bytes, most significant first. -/
def bytes2 (n : Nat) : List Byte :=
  let v := BitVec.ofNat 16 n
  [v.extractLsb' 8 8, v.extractLsb' 0 8]

/-- A signed number in three bytes, most significant first. -/
def bytes3 (v : Int) : List Byte :=
  let w := BitVec.ofInt 24 v
  [w.extractLsb' 16 8, w.extractLsb' 8 8, w.extractLsb' 0 8]

/-- A state is written as its place in the list that first gives it. -/
def heatCode (h : HeatState) : Nat :=
  match h with
  | .off => 0 | .waiting => 1 | .starved => 2 | .heating => 3 | .maintain => 4 | .shed => 5 | .fault => 6

def claimCode (c : ClaimState) : Nat :=
  match c with
  | .none => 0 | .assigned => 1 | .ready => 2 | .settling => 3 | .holding => 4

def depCode (d : DepState) : Nat :=
  match d with
  | .none => 0 | .assigned => 1 | .ready => 2 | .settling => 3 | .holding => 4 | .gone => 5 | .lapsed => 6

def occupancyCode (o : Occupancy) : Nat :=
  match o with
  | .empty => 0 | .present => 1 | .linking => 2 | .connected => 3 | .unlinked => 4

def originCode (o : Origin) : Nat :=
  match o with
  | .coach => 0 | .lamp => 1 | .station => 2

/-! ### BAY_STATUS (R178) -/

/-- The heat code of the heat-not-OFF form. -/
def heatDrawnCode (h : HeatState) (drawn : Nat) : Nat :=
  match h with
  | .off => 0
  | .waiting => 1
  | .starved => 2
  | .shed => 3
  | .fault => 4
  | .heating => 5 + drawn
  | .maintain => 10 + drawn

/-- Byte 0 in its two forms (R178). -/
def statusByte0 (b : BayStatus) : Nat :=
  if b.heat = .off then 16 * occupancyCode b.occupancy + 2 * depCode b.dep
  else
    128 + (if b.occupancy = .unlinked then 64 else 0) +
    16 * (match b.dep with
      | .ready => 1
      | .settling => 2
      | _ => 0) + heatDrawnCode b.heat b.drawn

/-- The sheet number (R178). -/
def sheetNumber (sh : SheetState) (a b : Nat) : Nat :=
  match sh with
  | .empty => 0
  | .running => 1 + a * (a + 1) / 2 + b
  | .partly => 1 + 153 + a * (a + 1) / 2 + b
  | .complete => 1 + 153 * 2 + a * (a + 1) / 2 + b

/-- The fault number (R178). -/
def faultNumber (b : BayStatus) : Nat :=
  match b.figure with
  | none => 16383
  | some _ => 625 * b.records + 25 * b.activeBlocking + b.activeAdvisory

/-- The 24-bit count field (R178). -/
def countField (b : BayStatus) : Nat :=
  32768 * sheetNumber b.sheet b.notOk b.blockingNotOk + (if b.blockingLost then 16384 else 0) + faultNumber b

/-- The lead byte (R178). -/
def leadByte (lead : Nat) (mark : LeadMark) : Nat :=
  match mark with
  | .none => lead
  | .saturated => 241
  | .unreachable => 242

/-- The eight bytes of a BAY_STATUS payload (R178). -/
def statusPayload (b : BayStatus) : List Byte :=
  let c := countField b
  [byteOf (statusByte0 b), byteOf (c / 65536), byteOf (c / 256), byteOf c, byteOf (leadByte b.lead b.mark),
    byteOf (b.figure.getD 0)] ++ bytes2 b.maskedPending.toNat

/-! ### Line frames (12, section 12.1) -/

def Content.kind (c : Content) : Nat :=
  match c with
  | .depart _ _ => 1
  | .heat _ _ _ _ _ _ => 2
  | .air _ => 8
  | .notice _ _ _ => 9
  | .faultEntry _ _ => 11
  | .lampEntry _ _ => 12
  | .bayStatus _ => 13

/-- A sheet entry's verdict byte and measured current: 255 and 0 while it has none (R82, R177). -/
def resultBytes (r : Option (Verdict × Nat)) : List Byte :=
  match r with
  | some (v, current) => byteOf (Verdict.place v) :: bytes2 current
  | none => byteOf 255 :: bytes2 0

def Content.payload (c : Content) : List Byte :=
  match c with
  | .depart st countdown => byteOf (claimCode st) :: bytes3 countdown
  | .heat st wanted intended drawn power latest =>
      [byteOf (heatCode st), byteOf wanted, byteOf intended, byteOf drawn, byteOf power] ++ bytes3 latest
  | .air temp => [BitVec.ofInt 8 temp]
  | .notice src arg more => byteOf src.number.val :: bytes2 arg ++ [byteOf (if more then 1 else 0)]
  | .faultEntry position (some r) =>
      [byteOf position, byteOf (originCode r.origin), byteOf r.module] ++ bytes2 r.code ++
      [byteOf (Severity.rank r.severity), byteOf r.count, byteOf (if r.active then 1 else 0)]
  | .faultEntry _ none => List.replicate 8 0
  | .lampEntry step (some e) => [byteOf step, byteOf e.channel] ++ resultBytes e.result
  | .lampEntry _ none => List.replicate 5 0
  | .bayStatus b => statusPayload b

/-- The frame a station sends with a content: identifier, length, payload and check field (12, section 12.1). -/
def wireFrame (own : Nat) (c : Content) : RawFrame :=
  let f : RawFrame :=
    { kind := BitVec.ofNat 4 c.kind, sender := BitVec.ofNat 6 own, len := BitVec.ofNat 4 c.payload.length,
      payload := c.payload, check := 0, whole := true }
  { f with check := crc f.bits }

/-! ### Link requests (12, section 12.2) -/

def Request.kindCode (r : Request) : Nat :=
  match r with
  | .identify => 1
  | .lampSet _ _ => 2
  | .readTemp => 3
  | .faultNext _ => 4

def Request.fields (r : Request) : List Byte :=
  match r with
  | .identify | .readTemp => []
  | .lampSet channel on => [byteOf channel, byteOf (if on then 1 else 0)]
  | .faultNext cursor => bytes2 cursor

/-- The bytes of the request on the link: header, fields, and the check over both (12, section 12.2). -/
def wireRequest (x : Transaction) : List Byte :=
  let header := byteOf (16 * Request.kindCode x.request + x.tag)
  let fields := Request.fields x.request
  let check := crc (bitsOf header ++ (fields.map bitsOf).flatten)
  header :: fields ++ bytes2 check.toNat

end Sys2Proof.Machine
end

