-- ==== Sys2Proof/Safety.lean ====
section
/-! DEFINITION. What a well-kept state and a punctual run are, in the terms the statements use: one invariant for each block that the
spec promises something of in every state, and the deadlines of the running timers. -/

namespace Sys2Proof.Machine

open Sys2Proof

/-! ### Invariants -/

/-- Two records have the same identity: origin, module and code (R41). -/
def FaultRecord.sameIdentity (a b : FaultRecord) : Bool :=
  decide (a.origin = b.origin) && decide (a.module = b.module) && decide (a.code = b.code)

/-- Never more than 24 records, and never two of one identity (R41). -/
abbrev Faults.wellKept (f : Faults) : Prop :=
  f.records.length ≤ Config.listPlaces ∧ f.records.Pairwise fun a b => a.sameIdentity b = false

/-- A heat state in which nothing may be drawn (R123, R134). -/
def HeatState.drawsNothing (h : HeatState) : Bool :=
  match h with
  | .off | .shed | .fault => true
  | _ => false

/-- Drawn never exceeds the grant, intended is the grant, and both are 0 in OFF, SHED and FAULT (R123, R131, R134). -/
abbrev Heat.wellKept (h : Heat) : Prop :=
  h.drawn ≤ h.grant ∧ h.intended = h.grant ∧ (HeatState.drawsNothing h.state = true → h.grant = 0)

/-- A stage during which the feed may be closed (R67). -/
def Stage.fed (st : Stage) : Bool :=
  match st with
  | .feedOn | .warm | .measure | .switchOff => true
  | _ => false

/-- The feed is closed only during a step that has given no SHORT reading, and never while sag is present (R66). A step that is still
clearing a loose channel has given none and meets no sag. The short watch runs only with the feed closed, and the warm time, a
measurement and the link wait each only in their own stage of a running check (R67, R74). -/
abbrev State.feedSafe (s : State) : Prop :=
  (s.lamps.feed = true →
    s.lamps.running = true ∧ s.lamps.shortTaken = false ∧ s.supply.sag = false ∧ s.lamps.stage.any Stage.fed = true) ∧
  (s.lamps.running = true → s.lamps.stage = some .clearOff → s.lamps.shortTaken = false ∧ s.supply.sag = false) ∧
  (s.lamps.watchTimer.isSome = true → s.lamps.feed = true) ∧
  (s.lamps.warmTimer.isSome = true → s.lamps.running = true ∧ s.lamps.stage = some .warm) ∧
  (s.lamps.meanTimer.isSome = true → s.lamps.running = true ∧ s.lamps.stage = some .measure) ∧
  (s.lamps.capture.isSome = true → s.lamps.running = true ∧ s.lamps.stage = some .measure) ∧
  (s.lamps.linkWaitTimer.isSome = true → s.lamps.running = true ∧ s.lamps.stage = some .linkWait)

/-- The signal head shows what the departure state selects: green in HOLDING, amber in READY and SETTLING, else red (R18). -/
abbrev State.headRight (s : State) : Prop := s.bay.aspect = aspectOf s.dep.state

/-- A value, when present, satisfies a test. -/
def holdsOf (o : Option α) (p : α → Bool) : Bool :=
  match o with
  | some a => p a
  | none => true

/-- The departure record: an assignment and a countdown in every state but NONE and only there, the countdown in its range, and each
timer only in the state it belongs to (R142, R143, R152, R155, R157). -/
abbrev Departure.wellKept (d : Departure) : Prop :=
  (d.assignment.isSome = true ↔ d.state ≠ .none) ∧ (d.countdown.isSome = true ↔ d.state ≠ .none) ∧
  holdsOf d.countdown (fun c => decide (Config.lowestCountdown ≤ c) && decide (c ≤ 65535)) = true ∧
  (d.settleTimer.isSome = true → d.state = .settling) ∧ (d.key.isSome = true → d.state = .settling) ∧
  (d.releaseTimer.isSome = true → d.state = .holding) ∧ (d.transitTimer.isSome = true → d.state = .gone)

/-- In SETTLING the coach conditions and the line conditions hold, no depot hold is set, and no fresh departure part says HOLDING
(R151, R153). -/
abbrev State.laneSafe (s : State) : Prop :=
  s.dep.state = .settling →
    s.coachConditions = true ∧ s.lineConditions = true ∧ s.dep.hold = false ∧ s.peers.freshHolding = false

/-- In ASSIGNED the coach conditions fail or the countdown is above 600; in READY the coach conditions hold, and one of the tests that let a
bay settle fails (R150, R151). What the rules allow has thus been taken. -/
abbrev State.laneTaken (s : State) : Prop :=
  (s.dep.state = .assigned → ¬(s.coachConditions = true ∧ s.countdownAtMost 600 = true)) ∧
  (s.dep.state = .ready → s.coachConditions = true ∧
    ¬(s.lineConditions = true ∧ s.countdownAtMost s.start.image.allowance = true ∧ s.dep.hold = false ∧
      s.peers.freshHolding = false ∧ s.ranksFirst (s.dep.countdown.getD 0) = true))

/-- The heat record: its state is the first entry of R123's table whose condition holds, wanted follows it with drawn not above it (R126),
a latest start of 0 or less has set called, entering OFF has cleared the marks, and at target stands only on a fresh cabin while called
(R124, R125). -/
abbrev State.heatRight (s : State) : Prop :=
  (s.heat.state =
    if s.start.image.stages = 0 ∨ (s.bay.occupancy ≠ .connected ∧ s.bay.occupancy ≠ .unlinked) ∨ s.sessionOpen = false ∨
        (s.dep.state ≠ .assigned ∧ s.dep.state ≠ .ready ∧ s.dep.state ≠ .settling) ∨ s.configured = false ∨
        s.line.status ≠ .normal ∨ s.line.conflict = true then .off
    else if s.heat.heaterFault = true then .fault
    else if s.heat.called = false then .waiting
    else if s.supply.sag = true then .shed
    else if s.heat.atTarget = true then .maintain
    else if 0 < s.heat.grant then .heating
    else .starved) ∧
  (s.heat.wanted =
    if s.heat.state = .starved ∨ s.heat.state = .heating then s.start.image.stages
    else if s.heat.state = .maintain ∧ s.heat.keepWarm = true then 1 else 0) ∧
  s.heat.drawn ≤ s.heat.wanted ∧
  (s.heat.state ≠ .off → holdsOf s.lead.latest (fun l => decide (l ≤ 0)) = true → s.lead.latest.isSome = true →
    s.heat.called = true) ∧
  (s.heat.state = .off → s.heat.called = false) ∧
  (s.heat.atTarget = true → s.heat.called = true ∧ s.link.cache.fresh = true) ∧
  (s.heat.keepWarm = true → s.heat.atTarget = true)

/-- The lead record: with a coach identified in a configured part, the lead, its mark and the cabin used are those of the inputs as they
stand (R110 to R113, R117), else 0, NONE and none (R112, R120). The latest start is the countdown less 60 times the lead while there
is an assignment (R118), and the lowest air temperature given is that of the table (R107). -/
abbrev State.leadRight (s : State) : Prop :=
  (s.configured = true →
    holdsOf s.figures (fun fig =>
      decide ((s.lead.lead, s.lead.mark) =
        computeLead fig.target s.cabinUsed.1 s.outdoor fig.demand fig.loss (s.start.image.stages * s.start.image.power * 100)) &&
      decide (s.lead.cabin = some s.cabinUsed)) = true) ∧
  (s.configured = false ∨ s.figures = none → s.lead.lead = 0 ∧ s.lead.mark = .none ∧ s.lead.cabin = none) ∧
  s.lead.latest = (s.dep.assignment.bind fun _ => s.dep.countdown.map fun c => c - 60 * (s.lead.lead : Int)) ∧
  s.peers.lowestGiven = lowestAir s.peers.entries ∧
  (s.start.readTimer.isSome = true → s.start.phase = .reading)

/-- The peer table: one entry a station, by rising number, for bays other than the own, each with a part, and none before a
configured bring-up (R98, R108). -/
abbrev State.tableRight (s : State) : Prop :=
  s.peers.entries.Pairwise (fun a b => a.station < b.station) ∧
  (∀ e ∈ s.peers.entries, bayNumber e.station = true ∧ e.station ≠ s.ownNumber ∧ e.holdsPart = true) ∧
  (s.configured = false → s.peers.entries = []) ∧ (s.start.readTimer.isSome = true → s.start.phase = .reading)

/-- A request the link takes in any state but UNPLUGGED (R22). -/
def Request.isIdentify (r : Request) : Bool :=
  match r with
  | .identify => true
  | _ => false

/-- A FAULT_NEXT whose result counts (R22, R38). -/
def Transaction.asksEntry (x : Transaction) : Bool :=
  match x.request with
  | .faultNext _ => x.live
  | _ => false

/-- Nothing but IDENTIFY waits or is on the wires unless the link is UP, and nothing at all while it is UNPLUGGED; the failure run and
the tag keep their ranges (R20, R22, R27, R29). A FAULT_NEXT is waiting or on the wires for a pass in progress only, and never both
(R36, R37). -/
abbrev Link.wellKept (l : Link) : Prop :=
  l.failureRun ≤ 2 ∧ l.tag ≤ 15 ∧
  (l.state ≠ .up → l.lampReq = none ∧ l.tempReq = false ∧ l.faultReq = none ∧ l.pass = none ∧
    holdsOf l.busy (fun x => x.request.isIdentify) = true) ∧
  (l.state = .unplugged → l.identifyReq = false ∧ l.busy = none) ∧ (l.pass = none → l.faultReq = none) ∧
  (l.busy.any Transaction.asksEntry = true → l.faultReq = none ∧ l.pass.isSome = true)

/-- The bay and the link: UNPLUGGED exactly while the accepted plug level is out (R21, R29), OPENING in LINKING, UP in CONNECTED, LOST in
UNLINKED (R5, R8, R9, R10, R25, R27). The occupancy and presence implied follow the two accepted levels (R2 to R7); during the start interval
the bay is held EMPTY with nothing asked of the link (R2). A session is open only in a bay that is not EMPTY (R7, R11). -/
abbrev State.bayRight (s : State) : Prop :=
  (s.link.state = .unplugged ↔ s.bay.plug.level = false) ∧
  (s.bay.occupancy = .linking → s.link.state = .opening) ∧ (s.bay.occupancy = .connected → s.link.state = .up) ∧
  (s.bay.occupancy = .unlinked → s.link.state = .lost) ∧
  (s.bay.startInterval = none →
    (s.bay.occupancy = .empty ↔ s.bay.plug.level = false ∧ s.bay.presence.level = false) ∧
    (s.bay.occupancy = .present ↔ s.bay.plug.level = false ∧ s.bay.presence.level = true) ∧
    (s.bay.implied = true ↔ s.bay.plug.level = true ∧ s.bay.presence.level = false)) ∧
  (s.bay.startInterval.isSome = true →
    s.bay.occupancy = .empty ∧ s.bay.implied = false ∧ s.link.state ≠ .up ∧ s.link.state ≠ .lost ∧
    s.link.identifyReq = false ∧ s.link.busy = none) ∧
  (s.sessionOpen = true → s.bay.occupancy ≠ .empty)

/-- The line record: the error run in its range, each timer with its status or mark, nothing in flight in QUIET, and nothing but the reset
values while the part is unconfigured (R84, R90, R91, R92, R95, R96). -/
abbrev State.lineRight (s : State) : Prop :=
  s.line.errorRun ≤ 15 ∧ (s.line.conflict = true ↔ s.line.conflictTimer.isSome = true) ∧
  (s.line.status = .quiet ↔ s.line.quietTimer.isSome = true) ∧ (s.line.status = .quiet → s.line.inFlight = none) ∧
  (s.configured = false →
    s.line.departSlot = false ∧ s.line.heatSlot = false ∧ s.line.airSlot = false ∧ s.line.inFlight = none ∧
    s.line.status = .normal ∧ s.line.errorRun = 0 ∧ s.line.conflict = false ∧ s.line.receiptMark = false) ∧
  (s.start.readTimer.isSome = true → s.start.phase = .reading)

/-- Each of the six condition sources holds exactly while its owner's condition does (R9, R56, R95, R136, R140, R146), and one that does not
hold waits for nothing (R165). -/
abbrev State.noticesRight (s : State) : Prop :=
  ((s.notices.get .linkLost).holding = true ↔ s.bay.occupancy = .unlinked) ∧
  ((s.notices.get .identityMismatch).holding = true ↔
    (s.dep.state = .assigned ∨ s.dep.state = .ready) ∧
      (s.identity.any fun id => s.dep.assignment.any fun a => decide (a ≠ 0) && decide (a ≠ id.coach)) = true) ∧
  ((s.notices.get .blockingFault).holding = true ↔
    (s.faults.blockingLost = true ∨ ∃ r ∈ s.faults.records, r.active = true ∧ r.severity = .blocking) ∧
      s.dep.waiveFault = false) ∧
  ((s.notices.get .addressConflict).holding = true ↔ s.line.conflict = true) ∧
  ((s.notices.get .heatStarved).holding = true ↔ s.heat.state = .starved ∧ s.heat.starvedRound = true) ∧
  ((s.notices.get .supplySag).holding = true ↔ s.supply.sag = true ∧ s.supply.detected = true) ∧
  ∀ src ∈ [Source.linkLost, .identityMismatch, .blockingFault, .addressConflict, .heatStarved, .supplySag],
    (s.notices.get src).holding = false → (s.notices.get src).pending = false ∧ (s.notices.get src).repeatTimer = none

/-- Every field of the image stands in the range R171 gives it (R173). -/
abbrev Image.inRange (m : Image) : Prop :=
  (100 ≤ m.budget ∧ m.budget ≤ 5000) ∧ m.stages ≤ 4 ∧ (10 ≤ m.power ∧ m.power ≤ 60) ∧ m.whPerPulse ∈ [1, 2, 5, 10] ∧
  (Config.lowestTemp ≤ m.design ∧ m.design ≤ Config.highestTemp) ∧ m.sagCode ≤ 3 ∧
  (30 ≤ m.releaseWindow ∧ m.releaseWindow ≤ 300) ∧ (10 ≤ m.transit ∧ m.transit ≤ 120) ∧ m.allowance ≤ 300 ∧ m.order ≤ 7 ∧
  (250 ≤ m.shortestPeriod ∧ m.shortestPeriod ≤ 2000) ∧ (250 ≤ m.longestPeriod ∧ m.longestPeriod ≤ 2000) ∧
  (20 ≤ m.leastDuty ∧ m.leastDuty ≤ 80) ∧ (20 ≤ m.greatestDuty ∧ m.greatestDuty ≤ 80) ∧ m.bands.length = 8 ∧
  (∀ b ∈ m.bands, b.lower ≤ Config.senseTop ∧ b.upper ≤ Config.senseTop) ∧
  (∀ c ∈ m.classes.toList, (20 ≤ c.target ∧ c.target ≤ 50) ∧ (100 ≤ c.demand ∧ c.demand ≤ 2000) ∧
    (50 ≤ c.loss ∧ c.loss ≤ 600) ∧ c.program.length ≤ 16 ∧
    ∀ p ∈ c.program, p.channel ≤ 31 ∧ p.onThreshold ≤ Config.senseTop)

/-- A filter whose raw input reads a level, no candidate of it being overdue: leaving the accepted level begins a candidate, returning to it
discards the candidate, and a level already there changes nothing (R1). -/
def Filter.reads (f : Filter) (level : Bool) (now : Nat) : Filter :=
  { f with raw := level, since := if f.raw = level then f.since else if level = f.level then none else some now }

/-- The notices after a frame that was not sent, but for an edge's instance: a stream that waited for its report frame begins, and every
other stream keeps its place (R168, R169). -/
def Notices.unsent (n : Notices) (c : Content) : Notices :=
  match n.replacement with
  | some k =>
      if c.isReport then { n with stream := some { kind := k, next := 1, first := true }, replacement := none } else n
  | none => n

/-- A word of those the memory delivered, with its high and its low byte (section 12.3). -/
def wordAt (words : List Word16) (i : Nat) : Option Int := words[i]?.map fun w => (w.toNat : Int)
def highAt (words : List Word16) (i : Nat) : Option Int := words[i]?.map fun w => ((w.toNat / 256 : Nat) : Int)
def lowAt (words : List Word16) (i : Nat) : Option Int := words[i]?.map fun w => ((w.toNat % 256 : Nat) : Int)

/-- A number field of the image takes the value delivered, or the nearer limit of its range, or its default where the memory delivered none
(R172, R173). -/
def takenWithin (delivered : Option Int) (lowest highest default value : Int) : Prop :=
  match delivered with
  | none => value = default
  | some v =>
      (lowest ≤ v → v ≤ highest → value = v) ∧ (v < lowest → value = lowest) ∧ (highest < v → value = highest)

/-- The relations between the values of a BAY_STATUS that R178 packs by: those of R123 and R126, of the lead's marks, of the fault list's
size and of the lamp sheet. -/
abbrev BayStatus.related (b : BayStatus) : Prop :=
  (b.heat ≠ .off →
    (b.occupancy = .connected ∨ b.occupancy = .unlinked) ∧ (b.dep = .assigned ∨ b.dep = .ready ∨ b.dep = .settling)) ∧
  (b.heat ≠ .heating → b.heat ≠ .maintain → b.drawn = 0) ∧ (b.heat = .heating → b.drawn ≤ 4) ∧
  (b.heat = .maintain → b.drawn ≤ 1) ∧ b.lead ≤ 240 ∧ (b.mark ≠ .none → b.lead = 240) ∧
  b.records ≤ 24 ∧ b.activeBlocking + b.activeAdvisory ≤ b.records ∧ (b.figure = none → b.records = 0) ∧
  holdsOf b.figure (fun n => decide (n ≤ 255)) = true ∧ b.blockingNotOk ≤ b.notOk ∧ b.notOk ≤ 16 ∧
  (b.sheet = .empty → b.notOk = 0)

/-! ### What the reactions of an event leave alone -/

/-- A departure state that the tests of R150, R151 and R153 can move. -/
def DepState.moves (d : DepState) : Bool :=
  match d with
  | .assigned | .ready | .settling => true
  | _ => false

/-- `b` is `a` after reactions only: the starts of a pass or a lamp check, the reading of the peer table, the tests of R123, R150, R151
and R153, the link's arbitration, the conditions of the notice sources and the signal head. Everything else stands: the queue and
the clock, the configuration, the bay but for the lit lamp, the link's state, failure run, cache and pass timer, the line but for
the two claim slots and the marks of the frame in flight, the supply, the departure but for its state, settle timer and key, the
masks, the report stream, and what the metering has found. Drawn never rises, and a departure state that the tests do not move
keeps its whole record. -/
structure Reacted (a b : State) : Prop where
  pending : b.pending = a.pending
  now : b.now = a.now
  start : b.start = a.start
  bay : b.bay = { a.bay with aspect := b.bay.aspect }
  linkState : b.link.state = a.link.state
  failureRun : b.link.failureRun = a.link.failureRun
  cache : b.link.cache = a.link.cache
  passTimer : b.link.passTimer = a.link.passTimer
  line : b.line = { a.line with departSlot := b.line.departSlot, heatSlot := b.line.heatSlot, inFlight := b.line.inFlight }
  inFlight : b.line.inFlight.map (·.content) = a.line.inFlight.map (·.content)
  supply : b.supply = a.supply
  overdrawRun : b.meter.overdrawRun = a.meter.overdrawRun
  probe : b.lead.probe = a.lead.probe
  probeTimer : b.lead.probeTimer = a.lead.probeTimer
  claimTimer : b.heat.claimTimer = a.heat.claimTimer
  heaterFault : b.heat.heaterFault = a.heat.heaterFault
  weakFound : b.heat.weakFound = a.heat.weakFound
  drawn : b.heat.drawn ≤ a.heat.drawn
  dep : b.dep = { a.dep with state := b.dep.state, settleTimer := b.dep.settleTimer, key := b.dep.key }
  rests : a.dep.state.moves = false → b.dep = a.dep
  moves : a.dep.state.moves = true → b.dep.state.moves = true
  figure : b.faults.figure = a.faults.figure
  retention : b.faults.retention = a.faults.retention
  masks : ∀ src, (b.notices.get src).masked = (a.notices.get src).masked
  maskAll : b.notices.maskAll = a.notices.maskAll
  order : b.notices.order = a.notices.order
  stream : b.notices.stream = a.notices.stream
  replacement : b.notices.replacement = a.notices.replacement

/-! ### What the statements read -/

/-- A request waits in its slot or is on the wires (R22, R23). -/
def Link.asks (l : Link) (r : Request) : Bool :=
  decide (l.busy.map (·.request) = some r) ||
  (match r with
   | .identify => l.identifyReq
   | .lampSet channel on => decide (l.lampReq.map (fun q => (q.channel, q.on)) = some (channel, on))
   | .readTemp => l.tempReq
   | .faultNext cursor => decide (l.faultReq = some cursor))

/-- An edge source waits to be told with an argument (R164). -/
def Notices.tells (n : Notices) (src : Source) (arg : Nat) : Bool :=
  (n.get src).pending && decide ((n.get src).inst.arg = arg)

/-- A filter whose candidate has lasted from the short limit on, so that it may be accepted now (R1). -/
def Filter.ripe (f : Filter) (short now : Nat) : Prop := ∃ b, f.since = some b ∧ b + short ≤ now

/-- The part in the peer table for a station, of each kind (06, section 6.1). -/
def Peers.entry (p : Peers) (n : Nat) : Option PeerEntry := p.entries.find? fun e => decide (e.station = n)

/-- What a block finds at the receipt of a frame: the clock at its moment and its receipt mark given (R92). -/
def State.heard (s : State) (t : Nat) : State := markReceipt true (s.advance t)

/-- The tag of a link response, none for every other command. -/
def Instr.replyTag (c : Instr) : Option Nat :=
  match c with
  | .identifyResponse _ tag _ _ _ | .lampSetResponse _ tag _ _ | .readTempResponse _ tag _
  | .faultNextEntry _ tag _ _ _ _ _ | .faultNextEndMark _ tag | .linkResponseMalformed _ tag => some tag
  | _ => none

/-- A step whose measurement has ended: its verdict and current are kept and it stands in SWITCH_OFF (R67 to R69). -/
def Lamps.measuredAs (l : Lamps) (v : Verdict) (current : Nat) : Lamps :=
  { l with measured := some (v, current), stage := some .switchOff, warmTimer := none, meanTimer := none, capture := none }

/-- The place of a source's group in the order a code gives, from the table of R167; 0 and 7 are taken as 2. -/
def Source.groupPlace (code : Nat) (src : Source) : Nat :=
  let places : Nat × Nat × Nat :=
    match code with
    | 1 => (0, 2, 1)
    | 3 => (1, 0, 2)
    | 4 => (2, 0, 1)
    | 5 => (1, 2, 0)
    | 6 => (2, 1, 0)
    | _ => (0, 1, 2)
  if src.number.val ≤ 7 then places.1 else if src.number.val ≤ 11 then places.2.1 else places.2.2

/-- One source goes before another in the choice: an earlier group, or in one group the lower number (R167). -/
def Source.before (code : Nat) (a b : Source) : Prop :=
  Source.groupPlace code a < Source.groupPlace code b ∨
    (Source.groupPlace code a = Source.groupPlace code b ∧ a.number < b.number)

/-- A heat state that takes part in an allocation round: STARVED, HEATING or MAINTAIN (R105, R129). -/
def HeatState.contends (h : HeatState) : Bool :=
  match h with
  | .starved | .heating | .maintain => true
  | _ => false

/-- A record of a STATION cause stands active in the list (R42). -/
def Faults.reports (f : Faults) (cause : Nat) : Prop :=
  ∃ r ∈ f.records, r.origin = .station ∧ r.module = cause ∧ r.active = true

/-- The stages an allocation has given before its place `i`, times their power, in 0.1 kW (R130). -/
def spentBefore (given : List (Candidate × Nat)) (i : Nat) : Nat := ((given.take i).map fun g => g.2 * g.1.power).sum

/-- The command is the receipt of a frame by a block, the whole of which is turned away while the part is unconfigured (R96). -/
def Instr.isReceived (c : Instr) : Bool :=
  match c with
  | .frameNotForBay _ | .ownNumberHeard _ | .heatClaimReceived _ _ _ _ _ _ _ _ | .departClaimReceived _ _ _ _
  | .airTempReceived _ _ _ | .holdSet _ | .holdClear _ | .assign _ _ _ | .cancel _ | .waiveLamp _ | .waiveFault _
  | .waiveHeat _ | .recheckLamps _ | .recheckFaults _ | .maskSetSources _ _ | .maskClearSources _ _ | .maskAllOn _
  | .maskAllOff _ | .reportReqFaults _ | .reportReqLamps _ | .reportReqBayStatus _ => true
  | _ => false

/-- The moment a command carries; the two resets carry none. -/
def Instr.moment (c : Instr) : Nat :=
  match c with
  | .powerOn | .resetLine _ => 0
  | .configCheckWordReceived t _ _ | .configReadTimeout t _ | .startIntervalEnd t | .rawInputChange t _ _
  | .presenceAcceptedOccupied t | .presenceAcceptedClear t | .plugAcceptedIn t | .plugAcceptedOut t | .keyAccepted t _
  | .reidentifyTimerExpiry t | .identifyResponse t _ _ _ _ | .lampSetResponse t _ _ _ | .readTempResponse t _ _
  | .faultNextEntry t _ _ _ _ _ _ | .faultNextEndMark t _ | .linkResponseMalformed t _ | .linkTimeout t
  | .linkResponseOtherTag t _ | .pollTimerExpiry t | .cacheStaleTimerExpiry t | .passTimerExpiry t | .warmTimerExpiry t _
  | .steadyMeasureEnd t _ | .shortWatchBlockEnd t _ | .litLevelAccepted t _ _ | .captureWindowExpiry t _ _
  | .linkWaitExpiry t | .supplySenseChange t _ | .sagDetected t | .supplyRecovered t | .lineIdle t | .arbitrationLost t
  | .frameFinished t | .transmitError t | .quietTimerExpiry t | .frameMalformed t _ | .frameSenderRefused t
  | .frameNotForBay t | .unconfiguredFrameReceived t | .ownNumberHeard t | .conflictTimerExpiry t
  | .heatClaimReceived t _ _ _ _ _ _ _ | .departClaimReceived t _ _ _ | .airTempReceived t _ _ | .peerPartExpiry t _ _
  | .holdSet t | .holdClear t | .holdTimerExpiry t | .assign t _ _ | .cancel t | .waiveLamp t | .waiveFault t
  | .waiveHeat t | .recheckLamps t | .recheckFaults t | .maskSetSources t _ | .maskClearSources t _ | .maskAllOn t
  | .maskAllOff t | .reportReqFaults t | .reportReqLamps t | .reportReqBayStatus t | .claimPeriodExpiry t
  | .probeTimerExpiry t _ | .meterPulse t | .meterWindowExpiry t | .countdownTick t | .settleTimerExpiry t
  | .releaseWindowExpiry t | .transitTimerExpiry t | .noticeRepeatExpiry t _ => t

/-- The timer whose expiry a command is, where it is one (log 2). -/
def State.timerOf (s : State) (c : Instr) : Option (Option Nat) :=
  match c with
  | .configReadTimeout _ _ => some s.start.readTimer
  | .startIntervalEnd _ => some s.bay.startInterval
  | .reidentifyTimerExpiry _ => some s.bay.reidentify
  | .linkTimeout _ => some (s.link.busy.map (·.timer))
  | .pollTimerExpiry _ => some s.link.pollTimer
  | .cacheStaleTimerExpiry _ => some s.link.cache.staleTimer
  | .passTimerExpiry _ => some s.link.passTimer
  | .warmTimerExpiry _ _ => some s.lamps.warmTimer
  | .steadyMeasureEnd _ _ => some s.lamps.meanTimer
  | .shortWatchBlockEnd _ _ => some s.lamps.watchTimer
  | .captureWindowExpiry _ _ _ => some (s.lamps.capture.map (·.window))
  | .linkWaitExpiry _ => some s.lamps.linkWaitTimer
  | .sagDetected _ => some s.supply.dip
  | .supplyRecovered _ => some s.supply.recovery
  | .quietTimerExpiry _ => some s.line.quietTimer
  | .conflictTimerExpiry _ => some s.line.conflictTimer
  | .holdTimerExpiry _ => some s.dep.holdTimer
  | .claimPeriodExpiry _ => some s.heat.claimTimer
  | .probeTimerExpiry _ _ => some s.lead.probeTimer
  | .meterWindowExpiry _ => some s.meter.window
  | .countdownTick _ => some s.dep.nextFall
  | .settleTimerExpiry _ => some s.dep.settleTimer
  | .releaseWindowExpiry _ => some s.dep.releaseTimer
  | .transitTimerExpiry _ => some s.dep.transitTimer
  | .noticeRepeatExpiry _ source => some (s.notices.get source).repeatTimer
  | _ => none

/-! ### Punctual runs (log 3) -/

/-- The latest moment of a filter's candidate: its long limit (R1). -/
def Filter.deadline (f : Filter) (long : Nat) : Option Nat := f.since.map (· + long)

/-- The expiries of a peer entry's parts (R103). -/
def PeerEntry.deadlines (e : PeerEntry) : List (Option Nat) :=
  [e.heard .heat, e.heard .departure, e.heard .air].map fun h => h.map (· + Config.partLife)

/-- The moments by which the running timers and candidates are to be taken. -/
def State.deadlines (s : State) : List Nat :=
  ([s.start.readTimer, s.bay.startInterval, s.bay.presence.deadline Config.presenceLong,
    s.bay.plug.deadline Config.plugLong, s.bay.key.deadline Config.keyLong, s.bay.reidentify,
    s.link.busy.map (·.timer), s.link.cache.staleTimer, s.link.pollTimer, s.link.passTimer,
    s.lamps.warmTimer, s.lamps.meanTimer, s.lamps.watchTimer, s.lamps.linkWaitTimer, s.lamps.capture.map (·.window),
    s.lamps.capture.bind (fun c => c.lit.deadline Config.litLong), s.line.quietTimer, s.line.conflictTimer,
    s.lead.probeTimer, s.heat.claimTimer, s.supply.recovery, s.supply.dip, s.meter.window,
    s.dep.nextFall, s.dep.holdTimer, s.dep.settleTimer, s.dep.releaseTimer, s.dep.transitTimer] ++
    (s.peers.entries.map PeerEntry.deadlines).flatten ++ s.notices.sources.toList.map (·.repeatTimer)).filterMap id

/-- No expiry lies in the past: a run whose every state is timely takes each expiry at its own moment (log 3). -/
def State.timely (s : State) : Bool := s.deadlines.all fun d => decide (s.now ≤ d)

end Sys2Proof.Machine
end

