-- ==== Sys2Proof/Certificates/Slice0/Obligations.lean ====
section
/-! DEFINITION. The statements for the provers, by family of commands: what a command does (with the frame `Reacted` gives: the base
state holds the command's own effect, and the rest is what the reactions of R18, R23, R35, R63, R104, R123, R150, R151, R153 and
R165 may still move), then the rules that hold over all commands, and the invariants every step keeps. -/

open Sys2Proof Sys2Proof.Machine

/-! ### The step, the clock and what cannot arise -/

/-- A step runs the command at the front of the queue on the queue's rest; on an empty queue the part idles (log 1). -/
def Obligations.StepRunsTheFrontCommand : Prop :=
  (∀ (c : Instr) (rest : List Instr) (s : State),
    step { s with pending := c :: rest } = exec c { s with pending := rest }) ∧
  (∀ s : State, s.pending = [] → step s = .next s)

/-- No command stops the part: each answers a next state, with the queue left alone and the clock at the command's moment or
where it stood; the two resets put it at 0 (R176, log 1). -/
def Obligations.EveryCommandAnswersNext : Prop :=
  ∀ (c : Instr) (s : State), ∃ u : State, exec c s = .next u ∧ u.pending = s.pending ∧
    u.now = (if c = .powerOn ∨ c = .resetLine true ∨ c = .resetLine false then 0 else max s.now (Instr.moment c))

/-- An expiry whose timer is stopped or not due, and an acceptance whose candidate has not lasted the short limit, cannot arise:
only the clock moves (the model's choice, log 2). -/
def Obligations.WhatIsNotDueMovesOnlyTheClock : Prop :=
  ∀ (c : Instr) (s : State),
    ((∃ timer : Option Nat, s.timerOf c = some timer ∧ fallenDue timer (max s.now (Instr.moment c)) = false) ∨
     (∃ t, c = .presenceAcceptedOccupied t ∧ s.bay.presence.mayAccept true 200 (max s.now t) = false) ∨
     (∃ t, c = .presenceAcceptedClear t ∧ s.bay.presence.mayAccept false 200 (max s.now t) = false) ∨
     (∃ t, c = .plugAcceptedIn t ∧ s.bay.plug.mayAccept true 20 (max s.now t) = false) ∨
     (∃ t, c = .plugAcceptedOut t ∧ s.bay.plug.mayAccept false 20 (max s.now t) = false) ∨
     (∃ t level, c = .keyAccepted t level ∧ s.bay.key.mayAccept level 50 (max s.now t) = false) ∨
     (∃ t lit mean, c = .litLevelAccepted t lit mean ∧
        s.lamps.capture.all (fun x => !x.lit.mayAccept lit 20 (max s.now t)) = true)) →
    exec c s = .next (s.advance (Instr.moment c))

/-! ### Resets and configuration -/

/-- Either reset leaves the link, the lamp checker, the line, the lead, the heat and the departure records at the values of
their tables, the fault list and the peer table empty, and the read and the start interval running (R2, R20, R40, R62, R84,
R109, R121, R142, R168, R172, R176). START is raised with cause 0 at power-on; at the reset line with 1, or 0 before the supply has
reached the working level. The raw inputs and the queue are the world's (log 5), and the unconfigured flag outlasts the reset (R175, log 14). -/
def Obligations.ResetTakesTheResetValues : Prop :=
  ∀ (c : Instr) (s : State) (cause : Nat),
    ((c = .powerOn ∧ cause = 0) ∨ (c = .resetLine true ∧ cause = 1) ∨ (c = .resetLine false ∧ cause = 0)) →
    ∃ u : State, exec c s = .next u ∧ u.pending = s.pending ∧ u.now = 0 ∧
      (u.bay.occupancy = .empty ∧ u.bay.presence.level = false ∧ u.bay.plug.level = false ∧ u.bay.key.level = false ∧
        u.bay.implied = false ∧ u.bay.session = .none ∧ u.bay.aspect = .red ∧ u.bay.reidentify = none ∧
        u.bay.startInterval = some 400) ∧
      (u.bay.presence.raw = s.bay.presence.raw ∧ u.bay.plug.raw = s.bay.plug.raw ∧ u.bay.key.raw = s.bay.key.raw) ∧
      (u.link.state = .unplugged ∧ u.link.busy = none ∧ u.link.identifyReq = false ∧ u.link.lampReq = none ∧
        u.link.tempReq = false ∧ u.link.faultReq = none ∧ u.link.failureRun = 0 ∧ u.link.tag = 0 ∧
        u.link.cache.content = .none ∧ u.link.cache.fresh = false ∧ u.link.pollTimer = none ∧ u.link.pass = none ∧
        u.link.passOwed = false ∧ u.link.passTimer = none) ∧
      (u.faults.records = [] ∧ u.faults.nextPass = 1 ∧ u.faults.current = none ∧ u.faults.blockingLost = false ∧
        u.faults.figure = none ∧ u.faults.retention = .newest) ∧
      (u.lamps.running = false ∧ u.lamps.step = none ∧ u.lamps.failures = 0 ∧ u.lamps.begunAgain = false ∧
        u.lamps.sagRetry = false ∧ u.lamps.shortTaken = false ∧ u.lamps.loose = none ∧ u.lamps.feed = false ∧
        u.lamps.sheet.state = .empty ∧ u.lamps.sheet.entries = []) ∧
      (u.line.departSlot = false ∧ u.line.heatSlot = false ∧ u.line.airSlot = false ∧ u.line.inFlight = none ∧
        u.line.status = .normal ∧ u.line.errorRun = 0 ∧ u.line.quietTimer = none ∧ u.line.conflict = false ∧
        u.line.conflictTimer = none) ∧
      u.peers.entries = [] ∧
      (u.lead.lead = 0 ∧ u.lead.mark = .none ∧ u.lead.cabin = none ∧ u.lead.probe = none ∧ u.lead.probeTimer = none ∧
        u.lead.latest = none) ∧
      (u.heat.state = .off ∧ u.heat.called = false ∧ u.heat.atTarget = false ∧ u.heat.keepWarm = false ∧
        u.heat.heaterFault = false ∧ u.heat.weakFound = false ∧ u.heat.wanted = 0 ∧ u.heat.grant = 0 ∧ u.heat.intended = 0 ∧
        u.heat.drawn = 0 ∧ (∀ level, u.heat.announcement level = none) ∧ u.heat.claimTimer = none ∧
        u.heat.starvedRound = false) ∧
      (u.supply.sag = true ∧ u.supply.detected = false ∧ u.supply.recovery = none ∧ u.supply.lowest = none) ∧
      (u.meter.count = 0 ∧ u.meter.window = none ∧ u.meter.overdrawRun = 0) ∧
      (u.dep.state = .none ∧ u.dep.assignment = none ∧ u.dep.countdown = none ∧ u.dep.waiveLamp = false ∧
        u.dep.waiveFault = false ∧ u.dep.waiveHeat = false ∧ u.dep.hold = false ∧ u.dep.holdTimer = none ∧
        u.dep.settleTimer = none ∧ u.dep.key = none ∧ u.dep.releaseTimer = none ∧ u.dep.transitTimer = none) ∧
      (u.start.phase = .reading ∧ u.start.readTimer = some 300 ∧ u.start.unconfigured = s.start.unconfigured) ∧
      (u.notices.maskAll = false ∧ u.notices.stream = none ∧ u.notices.tells .start cause = true ∧
        ∀ src, src ≠ .start → (u.notices.get src).pending = false ∧ (u.notices.get src).holding = false ∧
          (u.notices.get src).repeatTimer = none)

/-- An image passes exactly when it is whole, its check word is the sum of the words before it modulo 65536, and its station
number is 1 to 48; one that passes while the part reads configures it: the clamped image is taken, the claim period and a fitted
meter's window start, a fitted probe is sampled, the masks, the group order and the retention are the image's, and the recovery
time counts if the supply is good (R172, R174). The check word comes within the 300 ms of the read. In a presumed sag the level that
stands enters the lowest (R135, log 25). -/
def Obligations.PassingImageConfigures : Prop :=
  (∀ words : List Word16, imagePasses words = true ↔
    ∃ (body : List Word16) (check : Word16), words = body ++ [check] ∧ body.length = 182 ∧
      (body.map (·.toNat)).sum % 65536 = check.toNat ∧
      1 ≤ (imageOf words).station ∧ (imageOf words).station ≤ 48) ∧
  (∀ (t : Nat) (words : List Word16) (probe : Int) (s : State),
    s.start.phase = .reading → (∀ d, s.start.readTimer = some d → max s.now t ≤ d) → imagePasses words = true →
    ∃ u : State, exec (.configCheckWordReceived t words probe) s = .next u ∧
      Reacted
        { s.advance t with
          start := { phase := .configured, unconfigured := false, readTimer := none, image := imageOf words },
          faults := { s.faults with retention := (imageOf words).retention },
          notices := { s.notices.loadMasks (imageOf words).masks with order := (imageOf words).order },
          supply := { s.supply with recovery := u.supply.recovery, lowest := u.supply.lowest },
          heat := { s.heat with claimTimer := some (max s.now t + 2000) },
          lead := { s.lead with
            probe := if (imageOf words).probeFitted then some (clampInt (-80) 120 probe) else s.lead.probe,
            probeTimer := if (imageOf words).probeFitted then some (max s.now t + 10000) else s.lead.probeTimer },
          line := { s.line with airSlot := s.line.airSlot || (imageOf words).probeFitted } } u ∧
      u.meter.window = (if (imageOf words).meterFitted then some (max s.now t + 60000) else none) ∧
      (∀ src, (u.notices.get src).masked = (imageOf words).masks.getLsbD src.number.val) ∧
      u.supply.recovery = (if u.sagThreshold + 5 < s.supply.level then some (max s.now t + 10000) else none) ∧
      u.supply.lowest =
        (if s.supply.sag then some (min (s.supply.lowest.getD s.supply.level) s.supply.level) else s.supply.lowest) ∧
      u.sagThreshold = ([180, 195, 210, 225][(imageOf words).sagCode]?).getD 225)

/-- A whole image that fails, and a read that 300 ms cut short, leave the part unconfigured with the flag set: the clamped image
is still given to the blocks, the retention mode is NEWEST, and no claim period, probe sample or window starts (R172, R174, R175).
The supply monitor starts as in a configured part, the level that stands entering the lowest of a presumed sag (R135, log 25). A check
word that comes past the 300 ms, right or wrong, finds the read timed out at their end, without the check word (R172; with the words
before it, log 3). A check word after the read has ended is nothing (log 2). -/
def Obligations.FailingImageLeavesUnconfigured : Prop :=
  (∀ (c : Instr) (words : List Word16) (s : State),
    ((∃ t probe, c = .configCheckWordReceived t words probe ∧ s.start.phase = .reading ∧
        (∀ d, s.start.readTimer = some d → max s.now t ≤ d) ∧ imagePasses words = false) ∨
     (∃ t d, c = .configReadTimeout t words ∧ s.start.readTimer = some d ∧ d ≤ max s.now t)) →
    ∃ u : State, exec c s = .next u ∧
      Reacted
        { s.advance (Instr.moment c) with
          start := { phase := .unconfigured, unconfigured := true, readTimer := none, image := imageOf words },
          faults := { s.faults with retention := .newest },
          notices := { s.notices.loadMasks (imageOf words).masks with order := (imageOf words).order },
          supply := { s.supply with recovery := u.supply.recovery, lowest := u.supply.lowest } } u ∧
      u.supply.recovery =
        (if u.sagThreshold + 5 < s.supply.level then some (max s.now (Instr.moment c) + 10000) else none) ∧
      u.supply.lowest =
        (if s.supply.sag then some (min (s.supply.lowest.getD s.supply.level) s.supply.level) else s.supply.lowest) ∧
      u.heat.state = .off ∧ u.heat.drawn = 0 ∧
      (s.meter.window = none → u.meter.window = none)) ∧
  (∀ (t d : Nat) (words : List Word16) (probe : Int) (s : State),
    s.start.phase = .reading → s.start.readTimer = some d → d < max s.now t →
    ∃ u : State, exec (.configReadTimeout d (words.take 182)) s = .next u ∧
      exec (.configCheckWordReceived t words probe) s = .next (u.advance t) ∧
      u.start = { phase := .unconfigured, unconfigured := true, readTimer := none, image := imageOf (words.take 182) } ∧
      u.start.image.checkWord = none) ∧
  (∀ (t : Nat) (words : List Word16) (probe : Int) (s : State), s.start.phase ≠ .reading →
    exec (.configCheckWordReceived t words probe) s = .next (s.advance t))

/-- Whatever words the memory delivers, every field of the image taken from them stands in its range, but for the station number, which
R173 exempts from clamping: it is kept as delivered. A field delivered in its range is kept, one outside it becomes the nearer limit,
and one not delivered takes its default. The check word is kept as delivered, and has no default (R171, R172, R173; section 12.3). A band table or a lamp program with any of its words missing
is a field not delivered (log 12). What a target word above 127 reads as is free within the range (log 11). -/
def Obligations.ImageIsClampedIntoRange : Prop :=
  imageOf [] = Image.default ∧
  ∀ (words : List Word16) (m : Image), m = imageOf words →
    m.inRange ∧ (m.station : Int) = (wordAt words 0).getD 0 ∧ m.checkWord = words[182]? ∧
    takenWithin (wordAt words 1) 100 5000 100 m.budget ∧ takenWithin (highAt words 2) 0 4 0 m.stages ∧
    takenWithin (lowAt words 2) 10 60 10 m.power ∧
    m.meterFitted = (highAt words 3).any (fun v => decide (v ≠ 0)) ∧
    (m.whPerPulse = (words[3]?.map fun w => ([1, 2, 5, 10][w.toNat % 256]?).getD 10).getD 1) ∧
    m.probeFitted = (highAt words 4).any (fun v => decide (v ≠ 0)) ∧
    takenWithin ((lowAt words 4).map fun v => if v < 128 then v else v - 256) (-80) 120 (-30) m.design ∧
    takenWithin (highAt words 5) 0 3 2 m.sagCode ∧ (m.retention = .newest ↔ (lowAt words 5).getD 0 = 0) ∧
    takenWithin (wordAt words 6) 30 300 120 m.releaseWindow ∧ takenWithin (wordAt words 7) 10 120 40 m.transit ∧
    takenWithin (wordAt words 8) 0 300 120 m.allowance ∧ takenWithin (wordAt words 9) 0 7 2 m.order ∧
    m.masks = (words[10]?).getD 0 ∧ takenWithin (wordAt words 11) 250 2000 250 m.shortestPeriod ∧
    takenWithin (wordAt words 12) 250 2000 2000 m.longestPeriod ∧
    takenWithin (highAt words 13) 20 80 20 m.leastDuty ∧ takenWithin (lowAt words 13) 20 80 80 m.greatestDuty ∧
    (words.length < 38 → m.bands = List.replicate 8 { lower := 2000, upper := 0, label := .ok }) ∧
    (38 ≤ words.length → ∀ (n : Nat) (b : Band), m.bands[n]? = some b →
      takenWithin (wordAt words (14 + 3 * n)) 0 2000 2000 b.lower ∧ takenWithin (wordAt words (15 + 3 * n)) 0 2000 0 b.upper ∧
      ∀ w, words[16 + 3 * n]? = some w →
        b.label = ([BandLabel.ok, .low, .high, .openCircuit, .short][w.toNat]?).getD .short) ∧
    ∀ c : Fin 4,
      (∀ v, wordAt words (38 + 36 * c) = some v → v ≤ 127 → takenWithin (some v) 20 50 36 m.classes[c].target) ∧
      (wordAt words (38 + 36 * c) = none → m.classes[c].target = 36) ∧
      takenWithin (wordAt words (39 + 36 * c)) 100 2000 100 m.classes[c].demand ∧
      takenWithin (wordAt words (40 + 36 * c)) 50 600 50 m.classes[c].loss ∧
      (words.length < 74 + 36 * c → m.classes[c].program = []) ∧
      (74 + 36 * c ≤ words.length →
        takenWithin (wordAt words (41 + 36 * c)) 0 16 0 m.classes[c].program.length ∧
        ∀ (n : Nat) (p : LampStep), m.classes[c].program[n]? = some p →
          takenWithin (highAt words (42 + 36 * c + 2 * n)) 0 31 0 p.channel ∧
          takenWithin (wordAt words (43 + 36 * c + 2 * n)) 0 2000 0 p.onThreshold ∧
          ∀ w, words[42 + 36 * c + 2 * n]? = some w → p.flashing = w.getLsbD 0 ∧ p.blocking = w.getLsbD 1)

/-- At the end of the start interval the occupancy is set once from the filtered levels: a plug in gives LINKING and IDENTIFY is
raised, with presence implied when the loop is clear (R2). -/
def Obligations.StartIntervalEndSetsOccupancy : Prop :=
  ∀ (t d : Nat) (s : State), s.bay.startInterval = some d → d ≤ max s.now t →
    ∃ u : State, exec (.startIntervalEnd t) s = .next u ∧
      Reacted
        { s.advance t with bay := { s.bay with
            startInterval := none,
            occupancy := if s.bay.plug.level then .linking else if s.bay.presence.level then .present else .empty,
            implied := s.bay.implied || (s.bay.plug.level && !s.bay.presence.level) } } u ∧
      (s.bay.plug.level = true → s.link.state ≠ .unplugged → u.link.asks .identify = true)

/-! ### The bay -/

/-- A raw change that leaves the accepted level begins a candidate at its moment, one that returns to it discards the candidate, and
a level already there changes nothing; of the flash sense the level is whether its current is at or above the step's on-threshold, and
it is read only while a capture is open (R1, R69; the current and the mean are operands of the command, log 23). A candidate that
lasted the long limit was accepted at that moment: the change finds that acceptance taken, then and with all its effects (R1, log 3).
An accepted key level is taken with no other effect (R17). -/
def Obligations.RawChangesMoveTheirFilter : Prop :=
  (∀ (t level : Nat) (on : Bool) (s : State), on = decide (level ≠ 0) →
    ((∀ b, s.bay.presence.since = some b → s.bay.presence.raw ≠ on → s.bay.presence.raw ≠ s.bay.presence.level →
        max s.now t < b + 400) →
      exec (.rawInputChange t .presence level) s = .next { s.advance t with
        bay := { s.bay with presence := s.bay.presence.reads on (max s.now t) } }) ∧
    (∀ b, s.bay.presence.since = some b → s.bay.presence.raw ≠ on → s.bay.presence.raw ≠ s.bay.presence.level →
      b + 400 ≤ max s.now t →
      ∃ u : State, exec (if on then .presenceAcceptedClear (b + 400) else .presenceAcceptedOccupied (b + 400)) s = .next u ∧
        u.bay.presence.level = !on ∧
        exec (.rawInputChange t .presence level) s = .next { u.advance t with
          bay := { u.bay with presence := u.bay.presence.reads on (max s.now t) } }) ∧
    ((∀ b, s.bay.plug.since = some b → s.bay.plug.raw ≠ on → s.bay.plug.raw ≠ s.bay.plug.level → max s.now t < b + 40) →
      exec (.rawInputChange t .plug level) s = .next { s.advance t with
        bay := { s.bay with plug := s.bay.plug.reads on (max s.now t) } }) ∧
    (∀ b, s.bay.plug.since = some b → s.bay.plug.raw ≠ on → s.bay.plug.raw ≠ s.bay.plug.level → b + 40 ≤ max s.now t →
      ∃ u : State, exec (if on then .plugAcceptedOut (b + 40) else .plugAcceptedIn (b + 40)) s = .next u ∧
        u.bay.plug.level = !on ∧
        exec (.rawInputChange t .plug level) s = .next { u.advance t with
          bay := { u.bay with plug := u.bay.plug.reads on (max s.now t) } }) ∧
    ((∀ b, s.bay.key.since = some b → s.bay.key.raw ≠ on → s.bay.key.raw ≠ s.bay.key.level → max s.now t < b + 100) →
      exec (.rawInputChange t .key level) s = .next { s.advance t with
        bay := { s.bay with key := s.bay.key.reads on (max s.now t) } }) ∧
    (∀ b, s.bay.key.since = some b → s.bay.key.raw ≠ on → s.bay.key.raw ≠ s.bay.key.level → b + 100 ≤ max s.now t →
      exec (.rawInputChange t .key level) s = .next { s.advance t with
        bay := { s.bay with key := { raw := on, level := !on, since := some (max s.now t) } } })) ∧
  (∀ (t onMean current : Nat) (s : State),
    ((s.lamps.capture = none ∨ s.lamps.current = none) →
      exec (.rawInputChange t (.flash onMean) current) s = .next (s.advance t)) ∧
    ∀ (x : Capture) (p : LampStep) (lit : Bool), s.lamps.capture = some x → s.lamps.current = some p →
      lit = decide (p.onThreshold ≤ min current 2000) →
      ((∀ b, x.lit.since = some b → x.lit.raw ≠ lit → x.lit.raw ≠ x.lit.level → max s.now t < b + 40) →
        exec (.rawInputChange t (.flash onMean) current) s = .next { s.advance t with
          lamps := { s.lamps with capture := some { x with lit := x.lit.reads lit (max s.now t) } } }) ∧
      (∀ b, x.lit.since = some b → x.lit.raw ≠ lit → x.lit.raw ≠ x.lit.level → b + 40 ≤ max s.now t →
        ∃ u : State, exec (.litLevelAccepted (b + 40) (!lit) onMean) s = .next u ∧
          exec (.rawInputChange t (.flash onMean) current) s = .next { u.advance t with
            lamps := { u.lamps with capture := u.lamps.capture.map fun y =>
              { y with lit := y.lit.reads lit (max s.now t) } } })) ∧
  (∀ (t : Nat) (level : Bool) (s : State), s.bay.key.level ≠ level → s.bay.key.ripe 50 (max s.now t) →
    exec (.keyAccepted t level) s =
      .next { s.advance t with bay := { s.bay with key := { s.bay.key with level := level, since := none } } })

/-- The loop's acceptances: occupied makes EMPTY PRESENT and clears presence implied while a plug is in; clear sets presence
implied while a plug is in (R3, R4). During the start interval either only takes the level (R2). -/
def Obligations.LoopAcceptancesFollowTheOccupancyTable : Prop :=
  ∀ (t : Nat) (s : State), s.bay.presence.ripe 200 (max s.now t) →
    (s.bay.presence.level = false → s.bay.startInterval = none →
      ∃ u : State, exec (.presenceAcceptedOccupied t) s = .next u ∧
        Reacted
          { s.advance t with bay := { s.bay with
              presence := { s.bay.presence with level := true, since := none },
              occupancy := if s.bay.occupancy = .empty then .present else s.bay.occupancy,
              implied := if s.bay.occupancy = .empty ∨ s.bay.occupancy = .present then s.bay.implied else false } } u) ∧
    (s.bay.presence.level = true → s.bay.startInterval = none → s.bay.occupancy ≠ .present →
      ∃ u : State, exec (.presenceAcceptedClear t) s = .next u ∧
        Reacted
          { s.advance t with bay := { s.bay with
              presence := { s.bay.presence with level := false, since := none },
              implied := if s.bay.occupancy = .empty then s.bay.implied else true } } u) ∧
    (s.bay.startInterval.isSome = true →
      (s.bay.presence.level = false → exec (.presenceAcceptedOccupied t) s =
        .next { s.advance t with bay := { s.bay with presence := { s.bay.presence with level := true, since := none } } }) ∧
      (s.bay.presence.level = true → exec (.presenceAcceptedClear t) s =
        .next { s.advance t with bay := { s.bay with presence := { s.bay.presence with level := false, since := none } } }))

/-- Entry to EMPTY, from a loop clear in PRESENT or a plug-out with presence implied: in HOLDING an open session departs, the
state is GONE, the transit runs and RELEASED names the coach; in GONE a departing session stays; in every other state, and in
GONE with a new coach, an open session ends, with the fault list, the sheet and the waivers gone and SESSION_ENDED told (R7, R13,
R15, R157). With no coach identity given any more, the lead is 0 with mark NONE and no cabin used (R112). -/
def Obligations.EntryToEmptySettlesTheSession : Prop :=
  ∀ (c : Instr) (t : Nat) (s : State), s.bay.startInterval = none →
    ((c = .presenceAcceptedClear t ∧ s.bay.occupancy = .present ∧ s.bay.presence.level = true ∧
        s.bay.presence.ripe 200 (max s.now t)) ∨
     (c = .plugAcceptedOut t ∧ (s.bay.occupancy = .linking ∨ s.bay.occupancy = .connected ∨ s.bay.occupancy = .unlinked) ∧
        s.bay.implied = true ∧ s.bay.plug.level = true ∧ s.bay.plug.ripe 20 (max s.now t))) →
    ∃ u : State, exec c s = .next u ∧ u.bay.occupancy = .empty ∧ u.bay.implied = false ∧ u.heat.state = .off ∧
      u.heat.drawn = 0 ∧ u.bay.aspect = aspectOf u.dep.state ∧
      (∀ id, s.dep.state = .holding → s.bay.session = .opened id →
        u.bay.session = .departing id ∧ u.notices.tells .released id.coach = true ∧
        (s.configured = true → u.lead.lead = 0 ∧ u.lead.mark = .none ∧ u.lead.cabin = none) ∧
        u.dep = { s.dep with state := .gone, settleTimer := u.dep.settleTimer, key := u.dep.key, releaseTimer := none,
                             transitTimer := some (max s.now t + 1000 * s.start.image.transit) }) ∧
      (∀ id, s.dep.state = .gone → s.bay.session = .departing id → u.bay.session = .departing id ∧ u.dep = s.dep) ∧
      (∀ id, s.dep.state ≠ .holding → s.bay.session = .opened id →
        u.bay.session = .none ∧ u.notices.tells .sessionEnded id.coach = true ∧ u.faults.records = [] ∧
        u.faults.blockingLost = false ∧ u.faults.figure = none ∧ u.faults.nextPass = s.faults.nextPass ∧
        u.lamps.sheet = { state := .empty, entries := [] } ∧ u.lamps.feed = (s.lamps.feed && !s.lamps.running) ∧
        u.lamps.loose = none ∧ u.link.cache.content = .none ∧ u.link.cache.fresh = false ∧ u.link.pass = none ∧
        u.link.passOwed = false ∧ u.link.passTimer = none ∧ u.dep.waiveLamp = false ∧ u.dep.waiveFault = false ∧
        u.dep.waiveHeat = false ∧ u.heat.heaterFault = false ∧ u.heat.weakFound = false ∧ u.meter.overdrawRun = 0 ∧
        ((s.dep.state = .ready ∨ s.dep.state = .settling ∨ (s.dep.state = .assigned ∧ s.admits id.coach = true)) →
          u.dep.state = .none ∧ u.dep.assignment = none ∧ u.dep.countdown = none ∧
          u.notices.tells .unclearedExit id.coach = true) ∧
        ((s.dep.state = .gone ∨ s.dep.state = .lapsed ∨ s.dep.state = .none) →
          u.dep.state = s.dep.state ∧ u.dep.assignment = s.dep.assignment))

/-- A plug accepted in at an UNPLUGGED link: the link is OPENING, the bay LINKING with presence implied when the loop had not
seen the coach, and IDENTIFY is asked for at once, as the first transaction with the present tag when the link is idle (R5, R21,
R23, R24; the 250 ms run from the beginning of its request, the model's choice of log 9). During the start interval only the link
follows the plug (R2, R21). -/
def Obligations.PlugInOpensTheLinkAndAsksIdentify : Prop :=
  ∀ (t : Nat) (s : State), s.bay.plug.level = false → s.bay.plug.ripe 20 (max s.now t) → s.link.state = .unplugged →
    (s.bay.startInterval = none → (s.bay.occupancy = .empty ∨ s.bay.occupancy = .present) →
      ∃ u : State, exec (.plugAcceptedIn t) s = .next u ∧
        Reacted
          { s.advance t with
            bay := { s.bay with plug := { s.bay.plug with level := true, since := none }, occupancy := .linking,
                                implied := s.bay.implied || decide (s.bay.occupancy = .empty) },
            link := { s.link with state := .opening, failureRun := 0 } } u ∧
        u.link.asks .identify = true ∧
        (s.link.busy = none → u.link.tag = (s.link.tag + 1) % 16 ∧
          u.link.busy = some { request := .identify, tag := s.link.tag, timer := max s.now t + 250, live := true })) ∧
    (s.bay.startInterval.isSome = true →
      exec (.plugAcceptedIn t) s = .next { s.advance t with
        bay := { s.bay with plug := { s.bay.plug with level := true, since := none } },
        link := { s.link with state := .opening, failureRun := 0 } })

/-- A plug accepted out with the loop occupied leaves PRESENT with the session untouched; the transaction fails uncounted, every
slot is empty, the pass is abandoned and owed, the cache is stale, the poll stops, heating is OFF, and a running check is
abandoned with its sheet PARTIAL and its loose channel kept (R6, R29, R34, R37, R80). During the start interval the link follows the
plug in the same way, and the bay takes only its level (R2, R29). -/
def Obligations.PlugOutUnplugsTheLink : Prop :=
  ∀ (t : Nat) (s : State), s.bay.plug.level = true → s.bay.plug.ripe 20 (max s.now t) →
    s.link.state ≠ .unplugged → s.link.wellKept →
    (s.bay.startInterval.isSome = true ∨
      (s.bay.implied = false ∧ (s.bay.occupancy = .linking ∨ s.bay.occupancy = .connected ∨ s.bay.occupancy = .unlinked))) →
    ∃ u : State, exec (.plugAcceptedOut t) s = .next u ∧ u.pending = s.pending ∧ u.now = max s.now t ∧
      u.bay = { s.bay with plug := { s.bay.plug with level := false, since := none },
                           occupancy := if s.bay.startInterval.isSome then s.bay.occupancy else .present,
                           reidentify := if s.bay.startInterval.isSome then s.bay.reidentify else none,
                           aspect := aspectOf u.dep.state } ∧
      u.link.state = .unplugged ∧ u.link.busy = none ∧ u.link.failureRun = 0 ∧ u.link.identifyReq = false ∧
      u.link.lampReq = none ∧ u.link.tempReq = false ∧ u.link.faultReq = none ∧ u.link.pass = none ∧
      u.link.passOwed = (s.link.passOwed || s.link.pass.isSome) ∧ u.link.passTimer = s.link.passTimer ∧
      u.link.tag = s.link.tag ∧ u.link.cache.fresh = false ∧ u.link.cache.content = s.link.cache.content ∧
      u.supply = s.supply ∧
      (s.bay.startInterval = none →
        u.link.pollTimer = none ∧ u.heat.state = .off ∧ u.heat.drawn = 0 ∧ u.faults.records = s.faults.records ∧
        u.lamps.running = false ∧ u.lamps.loose = s.lamps.loose ∧ u.lamps.sheet.entries = s.lamps.sheet.entries ∧
        (s.lamps.running = true → u.lamps.feed = false ∧ u.lamps.sheet.state = .partly))

/-! ### The coach link -/

/-- An IDENTIFY answered in LINKING or UNLINKED: the link is UP, the failure run 0, the bay CONNECTED, and the identity put to
the session. The same identity continues it; with any other, or none held, a session opens, after the end of a held one, with
COACH_IDENTIFIED told, a pass timer of 600 s, and the presence-loop record first in the list while presence is implied. The hint
becomes the figure (R8, R10, R11, R12, R25, R30, R54). In the other occupancies the identity is ignored and the hint still
taken. A replaced coach brings the departure where R159's column for an identity replaced says: to NONE or back to ASSIGNED, from
where the tests may move it on at once, with UNCLEARED_EXIT; to GONE from HOLDING; elsewhere it stands. An assignment of 0 is any coach,
also where the coach in the bay carries the number 0, so that its replacement leaves ASSIGNED (log 22). -/
def Obligations.IdentifyAnswerOpensTheSession : Prop :=
  ∀ (t tag coach cls hint : Nat) (x : Transaction) (s : State),
    s.link.busy = some x → x.request = .identify → x.tag = tag → max s.now t ≤ x.timer →
    coach ≤ 65535 → cls ≤ 3 → hint ≤ 255 →
    ∃ u : State, exec (.identifyResponse t tag coach cls hint) s = .next u ∧ u.link.failureRun = 0 ∧
      u.link.state = (if s.link.state = .opening ∨ s.link.state = .lost then .up else s.link.state) ∧
      ((s.bay.occupancy = .linking ∨ s.bay.occupancy = .unlinked) →
        u.bay.occupancy = .connected ∧ u.bay.reidentify = none ∧ u.bay.implied = s.bay.implied ∧
        u.bay.session = .opened { coach := coach, cls := cls } ∧ u.faults.figure = some hint ∧
        (s.link.state ≠ .unplugged → s.bay.session ≠ .opened { coach := coach, cls := cls } →
          (s.bay.session = .none → s.faults.records = []) →
          u.notices.tells .coachIdentified coach = true ∧ u.link.passTimer = some (max s.now t + 600000) ∧
          u.faults.records =
            (if s.bay.implied then
              [{ origin := .station, module := 1, code := 0, severity := .advisory, count := 1, active := true,
                 firstSeen := max s.now t / 1000, lastSeen := max s.now t / 1000, stamp := none }]
            else []) ∧
          (∀ held, s.bay.session = .opened held ∨ s.bay.session = .departing held →
            u.notices.tells .sessionEnded held.coach = true ∧
            ((s.dep.state = .ready ∨ s.dep.state = .settling ∨ (s.dep.state = .assigned ∧ s.admits held.coach = true)) →
              u.notices.tells .unclearedExit held.coach = true ∧
              (s.dep.assignment = some 0 → u.dep.state.moves = true ∧ u.dep.assignment = some 0) ∧
              (s.dep.assignment ≠ some 0 →
                u.dep.state = .none ∧ u.dep.assignment = none ∧ u.dep.countdown = none)) ∧
            (s.dep.state = .assigned → s.admits held.coach = false →
              u.dep.state.moves = true ∧ u.dep.assignment = s.dep.assignment ∧
              u.notices.get .unclearedExit = s.notices.get .unclearedExit) ∧
            (s.dep.state = .holding →
              u.dep.state = .gone ∧ u.dep.assignment = s.dep.assignment ∧ u.notices.tells .released held.coach = true ∧
              u.dep.transitTimer = some (max s.now t + 1000 * s.start.image.transit)) ∧
            ((s.dep.state = .gone ∨ s.dep.state = .lapsed ∨ s.dep.state = .none) →
              u.dep.state = s.dep.state ∧ u.dep.assignment = s.dep.assignment) ∧
            u.dep.waiveLamp = false ∧ u.dep.waiveFault = false ∧ u.dep.waiveHeat = false)) ∧
        (s.bay.session = .opened { coach := coach, cls := cls } →
          u.link.passTimer = s.link.passTimer ∧ u.dep.waiveLamp = s.dep.waiveLamp ∧ u.dep.waiveFault = s.dep.waiveFault ∧
          u.dep.waiveHeat = s.dep.waiveHeat ∧ u.dep.assignment = s.dep.assignment)) ∧
      ((s.bay.occupancy = .empty ∨ s.bay.occupancy = .present ∨ s.bay.occupancy = .connected) →
        u.bay = { s.bay with aspect := aspectOf u.dep.state } ∧
        u.faults.figure = (if s.sessionOpen then some hint else s.faults.figure))

/-- A cabin temperature answered is clamped to -80 to +120 half-degrees and held fresh for 120 s, and a configured bay with an open
session takes it as the cabin used; the no-sensor mark leaves a stale cache that holds no sensor (R25, R33, R110, R117). In a called
station a reading at or above the target sets at target, with the keep-warm call on if stages are drawn and the reading is below the
target and 2; while at target stays set, the call goes on at the target less 2 or below and off at the target and 2 or above (R125). -/
def Obligations.CabinAnswerFillsTheCache : Prop :=
  ∀ (t tag : Nat) (reading : Option Int) (x : Transaction) (s : State),
    s.link.busy = some x → x.request = .readTemp → x.tag = tag → max s.now t ≤ x.timer →
    ∃ u : State, exec (.readTempResponse t tag reading) s = .next u ∧
      Reacted
        { s.advance t with link := { s.link with
            failureRun := 0,
            cache := match reading with
              | some v => { content := .reading (clampInt (-80) 120 v), taken := max s.now t / 1000, fresh := true,
                            staleTimer := some (max s.now t + 120000) }
              | none => { content := .noSensor, taken := max s.now t / 1000, fresh := false, staleTimer := none } } } u ∧
      (∀ v, reading = some v → s.configured = true → s.sessionOpen = true →
        u.lead.cabin = some (clampInt (-80) 120 v, .cabin)) ∧
      (∀ v fig, reading = some v → s.figures = some fig → u.heat.state ≠ .off → s.heat.atTarget = true →
        u.heat.atTarget = true ∧
        u.heat.keepWarm =
          (if clampInt (-80) 120 v ≤ fig.target - 2 then true
          else if fig.target + 2 ≤ clampInt (-80) 120 v then false else s.heat.keepWarm)) ∧
      (∀ v fig, reading = some v → s.figures = some fig → u.heat.state ≠ .off → s.heat.atTarget = false →
        s.heat.called = true → fig.target ≤ clampInt (-80) 120 v →
        u.heat.atTarget = true ∧
        u.heat.keepWarm = (decide (0 < s.heat.drawn) && decide (clampInt (-80) 120 v < fig.target + 2))) ∧
      (reading = none → s.link.cache.fresh = true → s.sessionOpen = true → u.heat.atTarget = false)

/-- An entry of the pass in progress is counted and offered as a coach fault: a held record of its identity is merged (the
greater count, active, the higher severity, stamped with the pass), a new one is appended when there is room, and the next
cursor is asked for; the 255th entry abandons the pass without owing another (R36, R37, R43, R44, R49). In a full list the oldest
inactive record gives way: the earliest last seen, then the earliest first seen, then the nearest the front (R45). With every record
active, NEWEST lets the first go and FIRST drops the newcomer, and a BLOCKING one lost sets blocking-lost and tells its code (R46, R47). -/
def Obligations.FaultEntryIsFiledAndTheNextAskedFor : Prop :=
  ∀ (t tag module code : Nat) (severity : Severity) (count next : Nat) (x : Transaction) (c : Nat) (p : Pass)
    (k : CurrentPass) (s : State),
    s.link.busy = some x → x.request = .faultNext c → x.live = true → x.tag = tag → max s.now t ≤ x.timer →
    s.link.pass = some p → s.link.state = .up → s.sessionOpen = true → s.faults.current = some k → s.link.passOwed = false →
    (s.lamps.running = true ∨ s.lamps.sheet.state = .complete) →
    module ≤ 255 → code ≤ 65535 → count ≤ 255 → next ≤ 65535 →
    ∃ u : State, exec (.faultNextEntry t tag module code severity count next) s = .next u ∧
      u.link.failureRun = 0 ∧ u.bay.session = s.bay.session ∧ u.faults.figure = s.faults.figure ∧
      (p.count + 1 < 255 →
        u.link.pass = some { cursor := next, count := p.count + 1 } ∧ u.link.asks (.faultNext next) = true ∧
        u.faults.current = some { k with entries := min 255 (k.entries + 1) }) ∧
      (255 ≤ p.count + 1 → u.link.pass = none ∧ u.link.passOwed = false ∧ u.faults.current = none) ∧
      ((∃ r ∈ s.faults.records, r.origin = .coach ∧ r.module = module ∧ r.code = code) →
        u.faults.records = s.faults.records.map fun r =>
          if r.origin = .coach ∧ r.module = module ∧ r.code = code then
            { r with count := max r.count (max 1 count), active := true, lastSeen := max s.now t / 1000,
                     stamp := some k.number, severity := higherSeverity r.severity severity }
          else r) ∧
      ((∀ r ∈ s.faults.records, ¬(r.origin = .coach ∧ r.module = module ∧ r.code = code)) →
        ∀ newcomer : FaultRecord,
          newcomer =
            { origin := .coach, module := module, code := code, severity := severity, count := max 1 count, active := true,
              firstSeen := max s.now t / 1000, lastSeen := max s.now t / 1000, stamp := some k.number } →
          (s.faults.records.length < 24 → u.faults.records = s.faults.records ++ [newcomer]) ∧
          (24 ≤ s.faults.records.length →
            (∀ (i : Nat) (r : FaultRecord), s.faults.records[i]? = some r → r.active = false →
              (∀ (j : Nat) (r' : FaultRecord), s.faults.records[j]? = some r' → r'.active = false →
                r.lastSeen < r'.lastSeen ∨ (r.lastSeen = r'.lastSeen ∧
                  (r.firstSeen < r'.firstSeen ∨ (r.firstSeen = r'.firstSeen ∧ i ≤ j)))) →
              u.faults.records = s.faults.records.eraseIdx i ++ [newcomer] ∧
              u.faults.blockingLost = s.faults.blockingLost) ∧
            ((∀ r ∈ s.faults.records, r.active = true) →
              (s.faults.retention = .newest → ∀ (first : FaultRecord) (rest : List FaultRecord),
                s.faults.records = first :: rest →
                u.faults.records = rest ++ [newcomer] ∧
                (first.severity = .blocking →
                  u.faults.blockingLost = true ∧ u.notices.tells .blockingLost first.code = true) ∧
                (first.severity ≠ .blocking → u.faults.blockingLost = s.faults.blockingLost)) ∧
              (s.faults.retention = .first →
                u.faults.records = s.faults.records ∧
                (severity = .blocking →
                  u.faults.blockingLost = true ∧ u.notices.tells .blockingLost code = true) ∧
                (severity ≠ .blocking → u.faults.blockingLost = s.faults.blockingLost)))))

/-- The end mark completes the pass: coach records it did not stamp are inactive, the figure is the entries received, and no pass
is current (R36, R50). -/
def Obligations.EndMarkCompletesThePass : Prop :=
  ∀ (t tag : Nat) (x : Transaction) (c : Nat) (k : CurrentPass) (s : State),
    s.link.busy = some x → x.request = .faultNext c → x.live = true → x.tag = tag → max s.now t ≤ x.timer →
    s.link.pass.isSome = true →
    s.faults.current = some k → s.link.passOwed = false → (s.lamps.running = true ∨ s.lamps.sheet.state = .complete) →
    ∃ u : State, exec (.faultNextEndMark t tag) s = .next u ∧ u.link.pass = none ∧ u.link.failureRun = 0 ∧
      u.faults = { s.faults with
        current := none, figure := some k.entries,
        records := s.faults.records.map fun r =>
          if r.origin = .coach ∧ r.stamp ≠ some k.number then { r with active := false } else r }

/-- A transaction that fails, by timeout, by a malformed answer or by a LAMP_SET answer that names another channel or setting,
adds to the failure run and reaches its requester: IDENTIFY is asked again in LINKING and starts the 10 s again in UNLINKED,
FAULT_NEXT is asked again with its cursor. The third in a row loses the link: LOST with the run at 0, the LAMP_SET and READ_TEMP
slots empty, the pass abandoned and owed, the cache stale, the bay UNLINKED with 10 s running, and a running check ended with its
steps INCOMPLETE. In LOST it only clears the run (R8, R9, R24, R26, R27, R28, R31, R36, R37, R79). A response with the tag at a moment
past the 250 ms finds the timeout taken at their end, with all its effects, and does nothing more (R24, log 3). -/
def Obligations.FailuresCountAndTheThirdLosesTheLink : Prop :=
  ∀ (c : Instr) (x : Transaction) (s : State), s.link.busy = some x →
    (Instr.replyTag c = some x.tag → x.timer < max s.now (Instr.moment c) →
      ∃ u : State, exec (.linkTimeout x.timer) s = .next u ∧ exec c s = .next (u.advance (Instr.moment c))) ∧
    (((∃ t, c = .linkTimeout t ∧ x.timer ≤ max s.now t) ∨
      (∃ t, c = .linkResponseMalformed t x.tag ∧ max s.now t ≤ x.timer) ∨
      (∃ t channel on, c = .lampSetResponse t x.tag channel on ∧ max s.now t ≤ x.timer ∧ x.request ≠ .lampSet channel on)) →
    ∃ u : State, exec c s = .next u ∧ u.pending = s.pending ∧ u.now = max s.now (Instr.moment c) ∧
      u.bay.session = s.bay.session ∧ u.link.passTimer = s.link.passTimer ∧ u.supply = s.supply ∧
      (s.link.failureRun + 1 < 3 →
        u.link.failureRun = s.link.failureRun + 1 ∧ u.link.state = s.link.state ∧
        u.bay.occupancy = s.bay.occupancy ∧ u.link.cache = s.link.cache ∧
        (x.request = .identify → s.bay.occupancy = .linking → s.link.state ≠ .unplugged → u.link.asks .identify = true) ∧
        (∀ n p, x.request = .faultNext n → x.live = true → s.link.pass = some p → s.link.state = .up →
          u.link.pass = some p ∧ u.link.asks (.faultNext p.cursor) = true)) ∧
      (x.request = .identify → s.bay.occupancy = .unlinked → u.bay.reidentify = some (max s.now (Instr.moment c) + 10000)) ∧
      (s.link.failureRun = 2 → s.link.state = .lost → u.link.failureRun = 0 ∧ u.link.state = .lost) ∧
      (s.link.failureRun = 2 → s.link.state ≠ .lost →
        u.link.failureRun = 0 ∧ u.link.state = .lost ∧ u.link.lampReq = none ∧ u.link.tempReq = false ∧
        u.link.pass = none ∧ u.link.passOwed = (s.link.passOwed || s.link.pass.isSome) ∧
        u.link.cache.fresh = false ∧ u.link.cache.content = s.link.cache.content ∧
        ((s.bay.occupancy = .linking ∨ s.bay.occupancy = .connected) →
          u.bay.occupancy = .unlinked ∧ u.bay.reidentify = some (max s.now (Instr.moment c) + 10000)) ∧
        (s.lamps.running = true →
          u.lamps.running = false ∧ u.lamps.feed = false ∧ u.lamps.sheet.state = .complete ∧
          u.lamps.loose = s.lamps.loose ∧
          ∀ e ∈ u.lamps.sheet.entries, s.lamps.step.getD 1 ≤ e.step → e.step ≤ s.lamps.program.length →
            e.result = some (.incomplete, 0))))

/-- A response that carries another tag, or arrives while nothing is in progress, is discarded, and the wait goes on (R24). -/
def Obligations.OtherTagsAreDiscarded : Prop :=
  (∀ (t tag : Nat) (s : State), exec (.linkResponseOtherTag t tag) s = .next (s.advance t)) ∧
  (∀ (c : Instr) (tag : Nat) (s : State), Instr.replyTag c = some tag →
    s.link.busy.all (fun x => decide (x.tag ≠ tag)) = true → exec c s = .next (s.advance (Instr.moment c)))

/-- The link's paces: the poll timer asks for READ_TEMP and restarts at 30 s, the stale timer makes the cache stale with its
reading kept, the pass timer restarts at 600 s with a pass owed or begun, and the re-identify timer in UNLINKED asks for IDENTIFY
(R9, R32, R34, R35). -/
def Obligations.LinkTimersAskAgain : Prop :=
  (∀ (t d : Nat) (s : State), s.link.pollTimer = some d → d ≤ max s.now t → s.link.state = .up → s.offCondition = false →
    ∃ u : State, exec (.pollTimerExpiry t) s = .next u ∧ Reacted (s.advance t) u ∧
      u.link.pollTimer = some (max s.now t + 30000) ∧ u.link.asks .readTemp = true) ∧
  (∀ (t d : Nat) (s : State), s.link.cache.staleTimer = some d → d ≤ max s.now t → s.link.cache.fresh = true →
    ∃ u : State, exec (.cacheStaleTimerExpiry t) s = .next u ∧
      Reacted { s.advance t with link := { s.link with
        cache := { s.link.cache with fresh := false, staleTimer := none } } } u ∧ u.heat.atTarget = false) ∧
  (∀ (t d : Nat) (s : State), s.link.passTimer = some d → d ≤ max s.now t →
    ∃ u : State, exec (.passTimerExpiry t) s = .next u ∧
      Reacted { s.advance t with link := { s.link with passTimer := some (max s.now t + 600000) } } u ∧
      (u.link.passOwed = true ∨ (s.link.pass = none ∧ u.link.pass = some { cursor := 0, count := 0 } ∧
        u.link.asks (.faultNext 0) = true))) ∧
  (∀ (t d : Nat) (s : State), s.bay.reidentify = some d → d ≤ max s.now t →
    ∃ u : State, exec (.reidentifyTimerExpiry t) s = .next u ∧
      Reacted { s.advance t with bay := { s.bay with reidentify := none } } u ∧
      (s.bay.occupancy = .unlinked → s.link.state ≠ .unplugged → u.link.asks .identify = true))

/-! ### The lamp check -/

/-- The acknowledged on of a step begins its 300 ms of warm time, or, its short taken meanwhile, sends the step to SWITCH_OFF with the feed
left open; the acknowledged off of CLEAR_OFF clears the loose channel and closes the feed for FEED_ON (R66, R67, R76). An acknowledgement
that a step caught by sag no longer counts moves no stage: it acts on the loose channel, and the off owed for one still loose is asked
for (R76, R77). That the off is owed beyond the check's completion is log 20. -/
def Obligations.AcknowledgementsMoveTheStepOn : Prop :=
  ∀ (t tag channel : Nat) (on : Bool) (x : Transaction) (s : State),
    s.link.busy = some x → x.request = .lampSet channel on → x.tag = tag → max s.now t ≤ x.timer →
    s.link.state = .up → s.link.lampReq = none →
    (x.live = true → s.lamps.running = true → on = true → s.lamps.stage = some .feedOn → s.lamps.shortTaken = false →
      ∃ u : State, exec (.lampSetResponse t tag channel on) s = .next u ∧
        u.lamps = { s.lamps with stage := some .warm, warmTimer := some (max s.now t + 300) } ∧
        Reacted { s.advance t with link := { s.link with failureRun := 0 } } u) ∧
    (∀ p, x.live = true → s.lamps.running = true → on = true → s.lamps.stage = some .feedOn → s.lamps.shortTaken = true →
      s.lamps.current = some p →
      ∃ u : State, exec (.lampSetResponse t tag channel on) s = .next u ∧
        u.lamps = { s.lamps with stage := some .switchOff } ∧ u.link.asks (.lampSet p.channel false) = true ∧
        Reacted { s.advance t with link := { s.link with failureRun := 0 } } u) ∧
    (∀ p, x.live = true → s.lamps.running = true → on = false → s.lamps.stage = some .clearOff →
      s.lamps.loose = some channel → s.lamps.current = some p →
      ∃ u : State, exec (.lampSetResponse t tag channel on) s = .next u ∧ u.lamps.stage = some .feedOn ∧
        u.lamps.feed = true ∧ u.lamps.watchTimer = some (max s.now t + 20) ∧ u.link.asks (.lampSet p.channel true) = true ∧
        (u.lamps.loose = none ∨ u.lamps.loose = some p.channel) ∧ u.lamps.sheet = s.lamps.sheet ∧
        Reacted { s.advance t with link := { s.link with failureRun := 0 } } u) ∧
    (x.live = false → s.lamps.offOwed = true →
      ∃ u : State, exec (.lampSetResponse t tag channel on) s = .next u ∧
        Reacted { s.advance t with link := { s.link with failureRun := 0 } } u ∧
        (∀ c, s.lamps.loose = some c → (on = true ∨ c ≠ channel) →
          u.link.asks (.lampSet c false) = true ∧
          (s.lamps.running = true → u.lamps = { s.lamps with offOwed := false })) ∧
        (s.lamps.running = true → on = false → s.lamps.loose = some channel →
          u.lamps = { s.lamps with loose := none, offOwed := false } ∧
          ∀ c set, u.link.asks (.lampSet c set) = false)) ∧
    (x.live = false → s.lamps.offOwed = false → s.lamps.running = true →
      ∃ u : State, exec (.lampSetResponse t tag channel on) s = .next u ∧
        Reacted { s.advance t with link := { s.link with failureRun := 0 } } u ∧
        u.lamps = { s.lamps with
          loose := if on = false ∧ s.lamps.loose = some channel then none else s.lamps.loose })

/-- The acknowledged off of SWITCH_OFF records the step: the feed opens, the verdict and its current stand in the entry, a verdict
that is not OK is an active LAMP record, and the next step begins, in PAUSED while sag is present, or the check is complete with
LAMP_SHEET_DONE (R53, R66, R67, R72, R73, R78). -/
def Obligations.SwitchOffRecordsTheStep : Prop :=
  ∀ (t tag n : Nat) (x : Transaction) (p : LampStep) (v : Verdict) (current : Nat) (s : State),
    s.link.busy = some x → x.request = .lampSet p.channel false → x.live = true → x.tag = tag → max s.now t ≤ x.timer →
    s.lamps.running = true →
    s.link.state = .up → s.link.lampReq = none → s.lamps.stage = some .switchOff → s.lamps.step = some n → 1 ≤ n →
    s.lamps.program[n - 1]? = some p → s.lamps.measured = some (v, current) →
    (s.lamps.loose = none ∨ s.lamps.loose = some p.channel) →
    ∃ u : State, exec (.lampSetResponse t tag p.channel false) s = .next u ∧
      u.lamps.sheet.entries = (s.lamps.sheet.entries.map fun e =>
        if e.step = n then { e with result := some (v, if v = .incomplete then 0 else current) } else e) ∧
      (v ≠ .ok → s.sessionOpen = true → s.faults.records.length < 24 →
        ∃ r ∈ u.faults.records, r.origin = .lamp ∧ r.module = p.channel ∧ r.code = Verdict.place v ∧ r.active = true) ∧
      (n < s.lamps.program.length →
        u.lamps.running = true ∧ u.lamps.step = some (n + 1) ∧ u.lamps.sheet.state = s.lamps.sheet.state ∧
        u.lamps.failures = 0 ∧ u.lamps.shortTaken = false ∧ u.lamps.begunAgain = false ∧ u.lamps.sagRetry = false ∧
        (s.supply.sag = true → u.lamps.stage = some .paused ∧ u.lamps.feed = false) ∧
        (s.supply.sag = false → u.lamps.stage = some .feedOn ∧ u.lamps.feed = true)) ∧
      (n = s.lamps.program.length →
        u.lamps.running = false ∧ u.lamps.step = none ∧ u.lamps.feed = false ∧ u.lamps.sheet.state = .complete ∧
        u.notices.tells .lampSheetDone (u.lamps.sheet.notOk + (if u.lamps.sheet.blocks then 256 else 0)) = true)

/-- A LAMP_SET of the step that fails with the link still UP: at the first failure the same request is asked for again and the
stage stays, but the on of a step whose short has been taken is not raised again and the step goes to SWITCH_OFF; at the second the feed
opens, the timers stop and the step waits 2 s for the link (R66, R74). In PAUSED, where the request of a CLEAR_OFF met by sag ends, the
failure counts and asks for nothing (log 19). A failure that a step caught by sag no longer counts leaves the check as it stood, and the
off owed for the loose channel is asked for; a failure of that off is not retried (R74, R77). -/
def Obligations.LampFailuresRetryOnceThenWait : Prop :=
  ∀ (c : Instr) (x : Transaction) (channel : Nat) (on : Bool) (s : State),
    s.link.busy = some x → x.request = .lampSet channel on →
    ((∃ t, c = .linkTimeout t ∧ x.timer ≤ max s.now t) ∨
      (∃ t, c = .linkResponseMalformed t x.tag ∧ max s.now t ≤ x.timer)) →
    s.link.failureRun + 1 < 3 → s.link.state = .up → s.link.lampReq = none → s.lamps.running = true →
    ∃ u : State, exec c s = .next u ∧
      Reacted { s.advance (Instr.moment c) with link := { s.link with failureRun := s.link.failureRun + 1 } } u ∧
      (∀ st, x.live = true → s.lamps.stage = some st →
        (st = .clearOff ∨ st = .feedOn ∨ st = .switchOff ∨ st = .paused) →
        u.lamps.sheet = s.lamps.sheet ∧ u.lamps.step = s.lamps.step ∧ u.lamps.running = true ∧
        u.lamps.shortTaken = s.lamps.shortTaken ∧ u.lamps.measured = s.lamps.measured ∧
        (s.lamps.failures = 0 →
          u.lamps.failures = 1 ∧ u.lamps.feed = s.lamps.feed ∧
          (st ≠ .paused → (st = .feedOn → s.lamps.shortTaken = false) →
            u.lamps.stage = some st ∧ u.link.asks (.lampSet channel on) = true) ∧
          (∀ p, st = .feedOn → s.lamps.shortTaken = true → s.lamps.current = some p →
            u.lamps.stage = some .switchOff ∧ u.link.asks (.lampSet p.channel false) = true ∧
            ∀ other, u.link.asks (.lampSet other true) = false) ∧
          (st = .paused →
            u.lamps = { s.lamps with failures := 1 } ∧ ∀ other set, u.link.asks (.lampSet other set) = false)) ∧
        (s.lamps.failures = 1 →
          u.lamps.failures = 2 ∧ u.lamps.stage = some .linkWait ∧ u.lamps.feed = false ∧
          u.lamps.linkWaitTimer = some (max s.now (Instr.moment c) + 2000) ∧ u.lamps.warmTimer = none ∧
          u.lamps.meanTimer = none ∧ u.lamps.capture = none ∧ u.lamps.watchTimer = none ∧ u.lamps.loose = s.lamps.loose ∧
          u.link.lampReq = none)) ∧
      (∀ other, x.live = false → s.lamps.offOwed = true → s.lamps.loose = some other →
        u.lamps = { s.lamps with offOwed := false } ∧ u.link.asks (.lampSet other false) = true) ∧
      (x.live = false → s.lamps.offOwed = false →
        u.lamps = s.lamps ∧ ∀ other set, u.link.asks (.lampSet other set) = false)

/-- The warm time over, a steady step measures for 200 ms and a flashing one opens a capture of 3 s whose lit level opens at what
the current shows. An accepted edge is timed into the capture (R67, R68, R69). -/
def Obligations.WarmTimeEndsInMeasuring : Prop :=
  (∀ (t current d : Nat) (p : LampStep) (s : State),
    s.lamps.warmTimer = some d → d ≤ max s.now t → s.lamps.current = some p →
    exec (.warmTimerExpiry t current) s = .next { s.advance t with lamps :=
      if p.flashing then
        { s.lamps with stage := some .measure, warmTimer := none,
                       capture := some
                         { window := max s.now t + 3000,
                           lit := { raw := decide (p.onThreshold ≤ min current 2000),
                                    level := decide (p.onThreshold ≤ min current 2000), since := none },
                           litAtOpening := decide (p.onThreshold ≤ min current 2000), fallen := false, rises := [],
                           falls := [] } }
      else { s.lamps with stage := some .measure, warmTimer := none, meanTimer := some (max s.now t + 200) } }) ∧
  (∀ (t mean : Nat) (lit : Bool) (x : Capture) (s : State),
    s.lamps.capture = some x → x.lit.level ≠ lit → x.lit.ripe 20 (max s.now t) → (lit = true → x.rises.length < 3) →
    x.rises.length ≤ 3 →
    ∀ y : Capture,
      y = { x with
            lit := { x.lit with level := lit, since := none },
            fallen := x.fallen || !lit,
            rises := if lit then x.rises ++ [max s.now t] else x.rises,
            falls := if lit = false ∧ x.falls.length < x.rises.length then x.falls ++ [max s.now t] else x.falls } →
      exec (.litLevelAccepted t lit mean) s = .next { s.advance t with lamps := { s.lamps with capture := some y } })

/-- A measurement ends in SWITCH_OFF with its verdict and current kept, the off asked for and the feed still as it was: the mean
of a steady step resolved; a capture at its window's end or fourth rising edge, the worse of its band and flash verdicts, over the
on-time with two rising edges or more and over the last 200 ms with fewer (R67, R68, R69, R71). The means are the world's (log 23). -/
def Obligations.MeasurementsEndInSwitchOff : Prop :=
  ∀ (c : Instr) (p : LampStep) (v : Verdict) (current : Nat) (s : State),
    s.lamps.running = true → s.lamps.current = some p → s.link.state = .up → s.link.lampReq = none →
    ((∃ t d mean, c = .steadyMeasureEnd t mean ∧ s.lamps.meanTimer = some d ∧ d ≤ max s.now t ∧
        current = min mean 2000 ∧ v = resolve s.start.image.bands mean) ∨
     (∃ t onMean tailMean x, c = .captureWindowExpiry t onMean tailMean ∧ s.lamps.capture = some x ∧
        x.window ≤ max s.now t ∧ current = min (if 2 ≤ x.rises.length then onMean else tailMean) 2000 ∧
        v = worse (resolve s.start.image.bands current) (flashVerdict s.start.image x)) ∨
     (∃ t mean x, c = .litLevelAccepted t true mean ∧ s.lamps.capture = some x ∧ x.lit.level = false ∧
        x.lit.ripe 20 (max s.now t) ∧ x.rises.length = 3 ∧ current = min mean 2000 ∧
        v = worse (resolve s.start.image.bands current)
          (flashVerdict s.start.image { x with rises := x.rises ++ [max s.now t] }))) →
    ∃ u : State, exec c s = .next u ∧ Reacted (s.advance (Instr.moment c)) u ∧ u.lamps = s.lamps.measuredAs v current ∧
      u.link.asks (.lampSet p.channel false) = true

/-- Each 20 ms block of the short watch that is not SHORT only begins the next. One that is opens the feed at once, makes the
verdict SHORT with its mean and sends the step to SWITCH_OFF, after the LAMP_SET of its own that is still on the wires (R66, R67). -/
def Obligations.ShortWatchOpensTheFeed : Prop :=
  ∀ (t mean d : Nat) (s : State), s.lamps.watchTimer = some d → d ≤ max s.now t →
    (resolve s.start.image.bands mean ≠ .short →
      exec (.shortWatchBlockEnd t mean) s =
        .next { s.advance t with lamps := { s.lamps with watchTimer := some (d + 20) } }) ∧
    (∀ p st, resolve s.start.image.bands mean = .short → s.lamps.running = true → s.lamps.current = some p →
      s.link.state = .up → s.link.lampReq = none → s.lamps.stage = some st →
      (st = .feedOn ∨ st = .warm ∨ st = .measure) →
      ∃ u : State, exec (.shortWatchBlockEnd t mean) s = .next u ∧ Reacted (s.advance t) u ∧ u.lamps.feed = false ∧
        u.lamps.watchTimer = none ∧ u.lamps.shortTaken = true ∧ u.lamps.measured = some (.short, min mean 2000) ∧
        u.lamps.sheet = s.lamps.sheet ∧ u.lamps.warmTimer = none ∧ u.lamps.meanTimer = none ∧ u.lamps.capture = none ∧
        (s.link.liveLampSet = true → u.lamps.stage = some st) ∧
        (s.link.liveLampSet = false →
          u.lamps.stage = some .switchOff ∧ u.link.asks (.lampSet p.channel false) = true))

/-- The link wait over, the step begins again once, from the first stage it may take; a step already begun again ends the check,
with this step and those after it INCOMPLETE and the sheet COMPLETE (R75, R77, R78). -/
def Obligations.LinkWaitBeginsAgainOrEndsTheCheck : Prop :=
  ∀ (t d n : Nat) (p : LampStep) (s : State),
    s.lamps.linkWaitTimer = some d → d ≤ max s.now t → s.lamps.running = true → s.lamps.step = some n →
    s.lamps.current = some p → s.link.state = .up → s.lamps.stage = some .linkWait →
    (s.lamps.begunAgain = false →
      ∃ u : State, exec (.linkWaitExpiry t) s = .next u ∧ Reacted (s.advance t) u ∧ u.lamps.running = true ∧
        u.lamps.step = some n ∧ u.lamps.begunAgain = true ∧ u.lamps.failures = 0 ∧ u.lamps.linkWaitTimer = none ∧
        u.lamps.sheet = s.lamps.sheet ∧
        (s.supply.sag = true → u.lamps.stage = some .paused) ∧
        (s.supply.sag = false → s.lamps.shortTaken = true →
          u.lamps.stage = some .switchOff ∧ u.lamps.feed = s.lamps.feed ∧
          u.link.asks (.lampSet p.channel false) = true) ∧
        (∀ channel, s.supply.sag = false → s.lamps.shortTaken = false → s.lamps.loose = some channel →
          u.lamps.stage = some .clearOff ∧ u.link.asks (.lampSet channel false) = true) ∧
        (s.supply.sag = false → s.lamps.shortTaken = false → s.lamps.loose = none →
          u.lamps.stage = some .feedOn ∧ u.lamps.feed = true ∧ u.link.asks (.lampSet p.channel true) = true)) ∧
    (s.lamps.begunAgain = true →
      ∃ u : State, exec (.linkWaitExpiry t) s = .next u ∧ Reacted (s.advance t) u ∧ u.lamps.running = false ∧
        u.lamps.feed = false ∧ u.lamps.sheet.state = .complete ∧ u.lamps.loose = s.lamps.loose ∧
        u.notices.tells .lampSheetDone (u.lamps.sheet.notOk + (if u.lamps.sheet.blocks then 256 else 0)) = true ∧
        u.lamps.sheet.entries = (s.lamps.sheet.entries.map fun e =>
          if n ≤ e.step ∧ e.step ≤ s.lamps.program.length then { e with result := some (.incomplete, 0) } else e))

/-- RECHECK: for lamps, with a session open, an early departure state and no check running, the sheet is emptied, READY without a lamp
waiver becomes ASSIGNED with a DEPART_CLAIM due (due also where a check of no steps completes at once), and a check
begins at once when the bay is CONNECTED with no sag; for faults, with a session open and an early state, a pass is owed or
begun; otherwise each is ignored (R38, R63, R64, R65, R73, R150, R161). -/
def Obligations.RecheckEmptiesTheSheetAndOwesAPass : Prop :=
  ∀ (t : Nat) (s : State), s.configured = true →
    (∀ id, s.bay.session = .opened id → s.dep.state.early = true →
      (s.lamps.running = false →
        ∃ u : State, exec (.recheckLamps t) s = .next u ∧ Reacted (s.heard t) u ∧
          ((s.bay.occupancy ≠ .connected ∨ s.supply.sag = true) →
            u.lamps = { s.lamps with sheet := { state := .empty, entries := [] }, loose := u.lamps.loose }) ∧
          (s.dep.state = .ready → s.dep.waiveLamp = false →
            u.line.departSlot = true ∧ (u.lamps.sheet.state ≠ .complete → u.dep.state = .assigned)) ∧
          (s.bay.occupancy = .connected → s.supply.sag = false → s.figures.map (·.program) = some [] →
            u.lamps.running = false ∧ u.lamps.sheet = { state := .complete, entries := [] } ∧
            u.notices.tells .lampSheetDone 0 = true) ∧
          (∀ program, s.bay.occupancy = .connected → s.supply.sag = false → s.link.state = .up →
            s.figures.map (·.program) = some program → program ≠ [] →
            u.lamps.running = true ∧ u.lamps.step = some 1 ∧ u.lamps.program = program ∧
            u.lamps.sheet = { state := .running, entries := entriesOf program } ∧
            (∀ r ∈ u.faults.records, r.origin = .lamp → r.active = false))) ∧
      (∃ u : State, exec (.recheckFaults t) s = .next u ∧ Reacted (s.heard t) u ∧
        (u.link.passOwed = true ∨ (s.link.pass = none ∧ u.link.pass = some { cursor := 0, count := 0 } ∧
          u.link.asks (.faultNext 0) = true)))) ∧
    ((s.sessionOpen = false ∨ s.dep.state.early = false) →
      exec (.recheckLamps t) s = .next (s.heard t) ∧ exec (.recheckFaults t) s = .next (s.heard t)) ∧
    (s.lamps.running = true → exec (.recheckLamps t) s = .next (s.heard t))

/-- A current resolves to SHORT at the top of the sense range; below it, to the label of the lowest-numbered matching band, and to
UNCLASSIFIED when no band matches. A band whose lower current is above its upper matches none (R61). -/
def Obligations.TheLowestNumberedMatchingBandDecides : Prop :=
  ∀ (bands : List Band) (current : Nat),
    (2000 ≤ current → resolve bands current = .short) ∧
    (current < 2000 →
      (∀ (i : Nat) (b : Band), bands[i]? = some b → b.lower ≤ current → current ≤ b.upper →
        (∀ (j : Nat) (b' : Band), j < i → bands[j]? = some b' → current < b'.lower ∨ b'.upper < current) →
        resolve bands current = BandLabel.verdict b.label) ∧
      ((∀ b ∈ bands, current < b.lower ∨ b.upper < current) → resolve bands current = .unclassified))

/-- The flash verdict is STUCK_ON for a capture lit at its opening that has not fallen; else NO_FLASH with fewer than two rising edges;
else the worst of FAST, SLOW and DUTY that apply to the average period and the duty, rounded down, and OK when none does (R70). With a
shortest period above the longest, or a least duty above the greatest, every lamp with at least two rising edges fails (R173). -/
def Obligations.ReversedFlashLimitsFailEveryLamp : Prop :=
  ∀ (img : Image) (x : Capture),
    (x.litAtOpening = true → x.fallen = false → flashVerdict img x = .stuckOn) ∧
    (¬(x.litAtOpening = true ∧ x.fallen = false) → x.rises.length < 2 → flashVerdict img x = .noFlash) ∧
    (∀ first last average duty onTime : Nat,
      ¬(x.litAtOpening = true ∧ x.fallen = false) → 2 ≤ x.rises.length → x.rises.length ≤ x.falls.length + 1 →
      x.rises.head? = some first → x.rises.getLast? = some last →
      average = (last - first) / (x.rises.length - 1) →
      onTime = ((List.range (x.rises.length - 1)).map fun n => x.falls.getD n 0 - x.rises.getD n 0).sum →
      duty = 100 * onTime / (last - first) →
      flashVerdict img x =
        (if duty < img.leastDuty ∨ img.greatestDuty < duty then .duty
        else if average < img.shortestPeriod then .fast
        else if img.longestPeriod < average then .slow
        else .ok)) ∧
    (2 ≤ x.rises.length → (img.longestPeriod < img.shortestPeriod ∨ img.greatestDuty < img.leastDuty) →
      flashVerdict img x ≠ .ok)

/-! ### Heat: the lead, the round, drawing and the supply -/

/-- The lead is 0 to 240 minutes, and 0 exactly when the target is at or below the cabin. Above it, with loss floor(U × S ÷ 4) for
S above 0 and net power P − L: no rating or a net below an eighth of it gives 240 UNREACHABLE; otherwise the least whole number
of minutes that covers 30 × D × Δ2 at the net power, or 240 SATURATED when that is above 240 (R113, R114, R115, R116). -/
def Obligations.LeadIsZeroExactlyWhenWarmAndAtMost240 : Prop :=
  ∀ (target cabin outdoor : Int) (demand loss rating : Nat), 100 ≤ demand →
    (computeLead target cabin outdoor demand loss rating).1 ≤ 240 ∧
    ((computeLead target cabin outdoor demand loss rating).1 = 0 ↔ target ≤ cabin) ∧
    (target ≤ cabin → computeLead target cabin outdoor demand loss rating = (0, .none)) ∧
    (cabin < target → ∀ sum lost net : Int,
      sum = cabin + target - 2 * outdoor →
      ((0 < sum ∧ 4 * lost ≤ (loss : Int) * sum ∧ (loss : Int) * sum < 4 * lost + 4) ∨ (sum ≤ 0 ∧ lost = 0)) →
      net = (rating : Int) - lost →
      (rating = 0 ∨ 8 * net < rating → computeLead target cabin outdoor demand loss rating = (240, .unreachable)) ∧
      (∀ minutes : Nat, 0 < rating → (rating : Int) ≤ 8 * net →
        30 * (demand : Int) * (target - cabin) ≤ minutes * net → ((minutes : Int) - 1) * net < 30 * demand * (target - cabin) →
        computeLead target cabin outdoor demand loss rating =
          (if 240 < minutes then (240, .saturated) else (minutes, .none))))

/-- A round serves its candidates in rank order: ascending latest start, then station number. They are the peers whose heat part is STARVED,
HEATING or MAINTAIN with wanted above 0, its latest start less the whole seconds since it was heard (R102), and the own station in one
of those states with its own values as they stand; a station in them has a latest start. Each is given the lesser of its wanted stages and the remainder divided by its stage
power, and the sum of stages given × stage power does not exceed the budget (R105, R129, R130). -/
def Obligations.RoundServesTheRankWithinTheBudget : Prop :=
  (∀ (budget : Nat) (cs : List Candidate),
    (allocate budget cs).map (·.1) = cs ∧
    spentBefore (allocate budget cs) cs.length ≤ budget ∧
    (∀ i c n, (allocate budget cs)[i]? = some (c, n) →
      n = min c.wanted ((budget - spentBefore (allocate budget cs) i) / c.power))) ∧
  (∀ s : State, s.tableRight → s.roundCandidates.Pairwise fun a b =>
    a.latest < b.latest ∨ (a.latest = b.latest ∧ a.station < b.station)) ∧
  (∀ (latest : Int) (s : State), s.tableRight → (HeatState.contends s.heat.state = true → s.lead.latest = some latest) →
    ∀ own : Candidate,
      own = { station := s.ownNumber, wanted := s.heat.wanted, power := s.start.image.power, latest := latest } →
      (∀ c, c ∈ s.roundCandidates ↔
        (HeatState.contends s.heat.state = true ∧ c = own) ∨
        ∃ e ∈ s.peers.entries, ∃ part : HeatPart, e.heat = some part ∧ HeatState.contends part.state = true ∧ 0 < part.wanted ∧
          c = { station := e.station, wanted := part.wanted, power := part.power,
                latest := part.latest - ((s.now - part.heard) / 1000 : Nat) }) ∧
      (HeatState.contends s.heat.state = false → s.ownGrant = 0) ∧
      (∀ n, HeatState.contends s.heat.state = true → (own, n) ∈ allocate s.start.image.budget s.roundCandidates → s.ownGrant = n))

/-- At each claim period expiry the round gives the own grant, intended becomes it, drawn does not exceed it, announcements above it
are none and the others stand; both claims are due and the timer restarts at 2 s (R128, R131, R132, R161). Drawn rises by one stage
where the station heats, is granted and wants more than it draws, and a claim finished 4 s before announced the next level (R133);
else it falls to the grant or stands. -/
def Obligations.ClaimPeriodTakesTheRound : Prop :=
  ∀ (t d : Nat) (s : State), s.heat.claimTimer = some d → d ≤ max s.now t → s.configured = true →
    ∃ u : State, exec (.claimPeriodExpiry t) s = .next u ∧ u.pending = s.pending ∧ u.now = max s.now t ∧
      u.bay.session = s.bay.session ∧ u.supply = s.supply ∧ u.heat.claimTimer = some (max s.now t + 2000) ∧
      u.line.departSlot = true ∧ u.line.heatSlot = true ∧
      (∀ r : State, r = evalHeat (readPeers (s.advance t)) →
        u.heat.grant = r.ownGrant ∧ u.heat.intended = r.ownGrant ∧ u.heat.drawn ≤ r.ownGrant ∧
        (∀ level, u.heat.announcement level = if level ≤ r.ownGrant then s.heat.announcement level else none) ∧
        (∀ rises : Prop,
          (rises ↔ (r.heat.state = .starved ∨ r.heat.state = .heating ∨ r.heat.state = .maintain) ∧
            r.heat.drawn < r.ownGrant ∧ r.heat.drawn < r.heat.wanted ∧
            ∃ a, s.heat.announcement (r.heat.drawn + 1) = some a ∧ a + 4000 ≤ max s.now t) →
          (rises → u.heat.drawn = r.heat.drawn + 1) ∧ (¬rises → u.heat.drawn = min r.heat.drawn r.ownGrant)) ∧
        (r.heat.state = .starved → u.heat.state = .starved → u.heat.starvedRound = true))

/-- Drawn rises only at a claim period expiry, by one stage, in HEATING or MAINTAIN, to a level within the grant that a heat claim
finished at least 4 s earlier announced (R131, R133). -/
def Obligations.DrawnRisesOnlyToAnAnnouncedLevel : Prop :=
  ∀ (c : Instr) (s u : State), exec c s = .next u → s.heat.drawn < u.heat.drawn →
    (∃ t, c = .claimPeriodExpiry t) ∧ u.heat.drawn = s.heat.drawn + 1 ∧ u.heat.drawn ≤ u.heat.grant ∧
    (u.heat.state = .heating ∨ u.heat.state = .maintain) ∧
    ∃ a, s.heat.announcement u.heat.drawn = some a ∧ a + 4000 ≤ u.now

/-- The supply monitor: until bring-up it only senses; with sag present the lowest level follows the supply and the 10 s count
only above the threshold and 0.5 V; with sag absent an unbroken 20 ms below the threshold runs toward a detection. A detection
opens the lamp feed, sheds a called station and gives SUPPLY_SAG; the recovery ends the sag and its condition (R66, R135, R136). Of a
running check's step, the detection makes CLEAR_OFF PAUSED, its request running to its end, and leaves LINK_WAIT. A step in FEED_ON, WARM,
MEASURE or SWITCH_OFF it makes INCOMPLETE unless its short was taken: at the first sag it waits in SAG_WAIT, at the second it is recorded,
with the next step PAUSED or the check complete; the off for a loose channel is asked for, or owed while a LAMP_SET is on the wires (R72,
R77, R78). The recovery begins a waiting step in CLEAR_OFF, in FEED_ON, or in SWITCH_OFF when its short was taken, its marks as they stood
(R77, R78). That the lowest level is kept in the sag presumed after reset as in a detected one is log 25, that a LAMP_SET still in its slot
is withdrawn log 18, that the off stays owed when the check completes log 20. -/
def Obligations.SupplyMonitorDetectsAndRecovers : Prop :=
  (∀ (t level : Nat) (s : State), ∃ u : State, exec (.supplySenseChange t level) s = .next u ∧
    u = { s.advance t with supply := { s.supply with level := level, lowest := u.supply.lowest, recovery := u.supply.recovery,
                                                     dip := u.supply.dip } } ∧
    (s.start.phase = .reading → u.supply = { s.supply with level := level }) ∧
    (s.start.phase ≠ .reading → s.supply.sag = true →
      u.supply.dip = s.supply.dip ∧ u.supply.lowest = some (min (s.supply.lowest.getD level) level) ∧
      u.supply.recovery =
        (if s.sagThreshold + 5 < level then some (s.supply.recovery.getD (max s.now t + 10000)) else none)) ∧
    (s.start.phase ≠ .reading → s.supply.sag = false →
      u.supply.lowest = s.supply.lowest ∧ u.supply.recovery = s.supply.recovery ∧
      u.supply.dip = (if level < s.sagThreshold then some (s.supply.dip.getD (max s.now t + 20)) else none))) ∧
  (∀ (t d : Nat) (s : State), s.supply.dip = some d → d ≤ max s.now t → s.supply.sag = false →
    ∃ u : State, exec (.sagDetected t) s = .next u ∧
      Reacted { s.advance t with supply := { s.supply with sag := true, detected := true, lowest := some s.supply.level,
                                                           recovery := none, dip := none } } u ∧
      (s.feedSafe → u.lamps.feed = false) ∧ (u.notices.get .supplySag).holding = true ∧
      (s.lamps.running = true → s.lamps.stage = some .clearOff →
        u.lamps = { s.lamps with stage := some .paused, loose := u.lamps.loose } ∧
        (s.link.lampReq.all (fun q => !q.on) = true → u.lamps.loose = s.lamps.loose) ∧
        (∀ x, s.link.busy = some x → u.link.busy = some x ∧ u.link.lampReq = s.link.lampReq)) ∧
      (s.lamps.running = true →
        (s.lamps.stage = some .linkWait ∨ s.lamps.stage = some .paused ∨ s.lamps.stage = some .sagWait) →
        u.lamps = { s.lamps with loose := u.lamps.loose }) ∧
      (∀ n p v current st, s.lamps.running = true → s.lamps.step = some n → 1 ≤ n → s.lamps.program[n - 1]? = some p →
        s.lamps.stage = some st → (st = .feedOn ∨ st = .warm ∨ st = .measure ∨ st = .switchOff) →
        (s.lamps.shortTaken = false → v = .incomplete ∧ current = 0) →
        (s.lamps.shortTaken = true → s.lamps.measured = some (v, current)) →
        (u.lamps.feed = false ∧ u.lamps.watchTimer = none ∧ u.lamps.warmTimer = none ∧ u.lamps.meanTimer = none ∧
          u.lamps.capture = none ∧ u.lamps.loose = s.lamps.loose) ∧
        (s.link.busyLampSet = true →
          u.link.busy.map (·.request) = s.link.busy.map (·.request) ∧ u.link.liveLampSet = false ∧ u.link.lampReq = none ∧
          u.lamps.offOwed = true) ∧
        (∀ c, s.link.busyLampSet = false → s.lamps.loose = some c → s.link.state = .up →
          u.link.asks (.lampSet c false) = true) ∧
        (s.link.busyLampSet = false → s.lamps.loose = none → ∀ c on, u.link.asks (.lampSet c on) = false) ∧
        (s.lamps.sagRetry = false →
          u.lamps.running = true ∧ u.lamps.step = some n ∧ u.lamps.stage = some .sagWait ∧ u.lamps.sagRetry = true ∧
          u.lamps.measured = some (v, current) ∧ u.lamps.shortTaken = s.lamps.shortTaken ∧
          u.lamps.failures = s.lamps.failures ∧ u.lamps.begunAgain = s.lamps.begunAgain ∧ u.lamps.sheet = s.lamps.sheet) ∧
        (s.lamps.sagRetry = true →
          u.lamps.sheet.entries = (s.lamps.sheet.entries.map fun e =>
            if e.step = n then { e with result := some (v, if v = .incomplete then 0 else current) } else e) ∧
          (v ≠ .ok → s.sessionOpen = true → s.faults.records.length < 24 →
            ∃ r ∈ u.faults.records, r.origin = .lamp ∧ r.module = p.channel ∧ r.code = Verdict.place v ∧ r.active = true) ∧
          (n < s.lamps.program.length →
            u.lamps.running = true ∧ u.lamps.step = some (n + 1) ∧ u.lamps.stage = some .paused ∧
            u.lamps.sheet.state = s.lamps.sheet.state ∧ u.lamps.failures = 0 ∧ u.lamps.begunAgain = false ∧
            u.lamps.sagRetry = false ∧ u.lamps.shortTaken = false ∧ u.lamps.measured = none) ∧
          (n = s.lamps.program.length →
            u.lamps.running = false ∧ u.lamps.step = none ∧ u.lamps.sheet.state = .complete ∧
            u.notices.tells .lampSheetDone (u.lamps.sheet.notOk + (if u.lamps.sheet.blocks then 256 else 0)) = true))) ∧
      (s.heat.called = true → s.offCondition = false → s.heat.heaterFault = false →
        u.heat.state = .shed ∧ u.heat.drawn = 0)) ∧
  (∀ (t d : Nat) (s : State), s.supply.recovery = some d → d ≤ max s.now t → s.supply.sag = true →
    ∃ u : State, exec (.supplyRecovered t) s = .next u ∧
      Reacted { s.advance t with supply := { s.supply with sag := false, recovery := none } } u ∧
      (u.notices.get .supplySag).holding = false ∧ u.heat.state ≠ .shed ∧
      (s.lamps.running = true → (s.lamps.stage = some .paused ∨ s.lamps.stage = some .sagWait) → s.link.state = .up →
        (∀ p, s.lamps.current = some p → s.lamps.shortTaken = false → s.lamps.loose = none →
          u.lamps = { s.lamps with stage := some .feedOn, feed := true, watchTimer := some (max s.now t + 20),
                                   measured := none, loose := u.lamps.loose } ∧
          u.link.asks (.lampSet p.channel true) = true) ∧
        (∀ c, s.lamps.shortTaken = false → s.lamps.loose = some c →
          u.lamps = { s.lamps with stage := some .clearOff, measured := none } ∧ u.link.asks (.lampSet c false) = true) ∧
        (∀ p, s.lamps.current = some p → s.lamps.shortTaken = true →
          u.lamps = { s.lamps with stage := some .switchOff } ∧ u.link.asks (.lampSet p.channel false) = true)))

/-- A probe sample is clamped and kept, the timer restarts at 10 s and an AIR_TEMP falls due (R111). A pulse counts in a running
window. A full window's verdict: metered above 5/4 of the expected and 500 W is OVERDRAW, the second in a row a heater fault with
HEATER_OVERDRAW told and nothing drawn; below half of it is WEAK, recorded once a session, a later one offering nothing; two pulses with nothing drawn are
STRAY. Every other verdict clears the run, and the next window starts at once (R137, R138, R139). The window is stated of states in which
CONNECTED has the link UP, as every step keeps it (EveryStepKeepsTheLinkRecord). -/
def Obligations.ProbeAndMeterTakeTheirTimes : Prop :=
  (∀ (t d : Nat) (sample : Int) (s : State), s.lead.probeTimer = some d → d ≤ max s.now t → s.configured = true →
    ∃ u : State, exec (.probeTimerExpiry t sample) s = .next u ∧
      Reacted { s.advance t with
        lead := { s.lead with probe := some (clampInt (-80) 120 sample), probeTimer := some (max s.now t + 10000) },
        line := { s.line with airSlot := true } } u) ∧
  (∀ (t : Nat) (s : State), exec (.meterPulse t) s = .next { s.advance t with meter :=
    if s.meter.window.isSome then { s.meter with count := min 65535 (s.meter.count + 1) } else s.meter }) ∧
  (∀ (t d metered expected : Nat) (s : State), s.meter.window = some d → d ≤ max s.now t →
    (s.bay.occupancy = .connected → s.link.state = .up) →
    metered = s.meter.count * s.start.image.whPerPulse * 60 → expected = s.heat.drawn * s.start.image.power * 100 →
    ∃ u : State, exec (.meterWindowExpiry t) s = .next u ∧ u.pending = s.pending ∧ u.bay.session = s.bay.session ∧
      u.supply = s.supply ∧ u.meter.count = 0 ∧ u.meter.window = some (max s.now t + 60000) ∧
      (0 < s.heat.drawn → 5 * expected + 2000 < 4 * metered → s.meter.overdrawRun = 0 →
        u.meter.overdrawRun = 1 ∧ u.heat.heaterFault = s.heat.heaterFault ∧ u.heat.weakFound = s.heat.weakFound) ∧
      (0 < s.heat.drawn → 5 * expected + 2000 < 4 * metered → s.meter.overdrawRun ≠ 0 →
        u.meter.overdrawRun = 0 ∧ u.heat.heaterFault = true ∧ u.heat.drawn = 0 ∧
        u.notices.tells .heaterOverdraw (min metered 65535) = true ∧
        (s.sessionOpen = true → s.faults.records.length < 24 → u.faults.reports 2)) ∧
      (0 < s.heat.drawn → 4 * metered ≤ 5 * expected + 2000 → 2 * metered < expected →
        u.meter.overdrawRun = 0 ∧ u.heat.heaterFault = s.heat.heaterFault ∧ u.heat.weakFound = true ∧
        (s.heat.weakFound = false → s.sessionOpen = true → s.faults.records.length < 24 → u.faults.reports 3) ∧
        (s.heat.weakFound = true →
          u.faults.records.filter (fun r => decide (r.origin = .station)) =
            s.faults.records.filter fun r => decide (r.origin = .station))) ∧
      (s.heat.drawn = 0 → 2 ≤ s.meter.count →
        u.meter.overdrawRun = 0 ∧ u.heat.heaterFault = s.heat.heaterFault ∧
        (s.sessionOpen = true → s.faults.records.length < 24 → u.faults.reports 4)) ∧
      ((0 < s.heat.drawn ∧ 4 * metered ≤ 5 * expected + 2000 ∧ expected ≤ 2 * metered) ∨
        (s.heat.drawn = 0 ∧ s.meter.count < 2) →
        u.meter.overdrawRun = 0 ∧ u.heat.heaterFault = s.heat.heaterFault ∧ u.heat.weakFound = s.heat.weakFound))

/-! ### The depot line -/

/-- At an idle a station that may contend begins the first of a departure claim, a heat claim, an air temperature, the best notice
and the stream's next frame, built from the state of that moment; an edge source's instance goes with its frame (R86, R87, R164,
R165, R169). In QUIET, while a frame of its own is on the wires, or unconfigured, it begins none (R90, R96). That an edge's pending is
clear while its frame is on the wires is log 15; the 0 of an air temperature without a reading is the model's choice, log 31. The argument of
a condition's NOTICE is its owner's as it stands (R9, R56, R95, R136, R140, R146). A fault or lamp report offers the record or entry at
its next place, a first frame of an empty list the empty mark, and else nothing; a bay status the values as they stand, with every
source that is pending and masked (R169). -/
def Obligations.IdleBeginsTheFirstWaitingFrame : Prop :=
  (∀ (t : Nat) (s : State),
    ((s.configured = false ∨ s.line.status = .quiet ∨ s.line.inFlight.isSome = true) →
      exec (.lineIdle t) s = .next (s.advance t)) ∧
    (s.configured = true → s.line.status ≠ .quiet → s.line.inFlight = none →
      (∀ content,
        ((s.line.departSlot = true ∧ content = .depart s.dep.state.claim (s.dep.countdown.getD 0)) ∨
         (s.line.departSlot = false ∧ s.line.heatSlot = true ∧
            content = .heat s.heat.state s.heat.wanted s.heat.intended s.heat.drawn s.start.image.power
              (s.lead.latest.getD 0)) ∨
         (s.line.departSlot = false ∧ s.line.heatSlot = false ∧
            ((s.line.airSlot = true ∧ content = .air (s.lead.probe.getD 0)) ∨
             (s.line.airSlot = false ∧ ∃ src, s.notices.best = some src ∧ src.isCondition = true ∧
                content = .notice src (s.conditionArg src) false) ∨
             (s.line.airSlot = false ∧ s.notices.best = none ∧ ∃ st, s.notices.stream = some st ∧
                s.reportFrame st = some content)))) →
        exec (.lineIdle t) s =
          .next { s.advance t with line := { s.line with inFlight := some { content := content, renewed := false } } }) ∧
      (s.line.departSlot = false → s.line.heatSlot = false → s.line.airSlot = false →
        (∀ src content, s.notices.best = some src → src.isCondition = false →
          content = .notice src (s.notices.get src).inst.arg (s.notices.get src).inst.more →
          ∃ u : State, exec (.lineIdle t) s = .next u ∧
            u = { s.advance t with
                  line := { s.line with inFlight := some { content := content, renewed := false } },
                  notices := u.notices } ∧
            u.notices.get src = { s.notices.get src with pending := false, taken := some (s.notices.get src).inst } ∧
            ∀ other, other ≠ src → u.notices.get other = s.notices.get other) ∧
        (s.notices.best = none → s.notices.stream = none → exec (.lineIdle t) s = .next (s.advance t)) ∧
        (∀ st, s.notices.best = none → s.notices.stream = some st → s.reportFrame st = none →
          exec (.lineIdle t) s = .next { s.advance t with notices := { s.notices with stream := none } })))) ∧
  (∀ s : State,
    (∀ src, src = .linkLost ∨ src = .identityMismatch → s.conditionArg src =
      match s.bay.session with
      | .opened id => id.coach
      | _ => 0) ∧
    s.conditionArg .blockingFault =
      (s.faults.records.filter fun r => r.active && decide (r.severity = .blocking)).length +
        (if s.faults.blockingLost then 256 else 0) ∧
    s.conditionArg .addressConflict = s.start.image.station ∧
    (∀ latest, s.lead.latest = some latest → -18000 ≤ latest →
      (s.conditionArg .heatStarved : Int) = if latest ≤ 0 then -latest / 60 else 0) ∧
    (∀ level, s.supply.lowest = some level → s.conditionArg .supplySag = level) ∧
    (∀ place first,
      (∀ r, s.faults.records[place]? = some r →
        s.reportFrame { kind := .faults, next := place + 1, first := first } = some (.faultEntry (place + 1) (some r))) ∧
      (s.faults.records.length ≤ place → s.reportFrame { kind := .faults, next := place + 1, first := first } =
        if first = true ∧ s.faults.records = [] then some (.faultEntry 0 none) else none) ∧
      (∀ e, s.lamps.sheet.entries[place]? = some e →
        s.reportFrame { kind := .lamps, next := place + 1, first := first } = some (.lampEntry e.step (some e))) ∧
      (s.lamps.sheet.entries.length ≤ place → s.reportFrame { kind := .lamps, next := place + 1, first := first } =
        if first = true ∧ s.lamps.sheet.entries = [] then some (.lampEntry 0 none) else none)) ∧
    (∀ next first, ∃ b : BayStatus, s.reportFrame { kind := .bayStatus, next := next, first := first } = some (.bayStatus b) ∧
      b.occupancy = s.bay.occupancy ∧ b.heat = s.heat.state ∧ b.dep = s.dep.state ∧ b.drawn = s.heat.drawn ∧
      b.lead = s.lead.lead ∧ b.mark = s.lead.mark ∧ b.records = s.faults.records.length ∧
      b.activeBlocking = (s.faults.records.filter fun r => r.active && decide (r.severity = .blocking)).length ∧
      b.activeAdvisory = (s.faults.records.filter fun r => r.active && decide (r.severity = .advisory)).length ∧
      b.blockingLost = s.faults.blockingLost ∧ b.figure = s.faults.figure ∧ b.sheet = s.lamps.sheet.state ∧
      b.notOk = (s.lamps.sheet.entries.filter fun e => e.result.any fun v => decide (v.1 ≠ .ok)).length ∧
      b.blockingNotOk =
        (s.lamps.sheet.entries.filter fun e => e.blocking && e.result.any fun v => decide (v.1 ≠ .ok)).length ∧
      ∀ src, b.maskedPending.getLsbD src.number.val =
        ((s.notices.get src).pending && (s.notices.maskAll || (s.notices.get src).masked))))

/-- A frame that lost arbitration or met a transmit error is off the wires and what it carried still waits: a claim's slot as it was, a
condition's pending, an edge's instance back, joined with a newer one as the newer argument with the mark (log 15), and the report
stream at its place, or the stream that waited to replace it. A lost arbitration leaves the error run; an error adds to it, and the
sixteenth, or any in PROBING, makes the line QUIET with the run at 0 and 10 s running (R85, R89, R90, R91, R164, R165, R168, R169). -/
def Obligations.UnsentFramesKeepWaiting : Prop :=
  ∀ (t : Nat) (f : Flight) (s : State), s.line.inFlight = some f →
    (∃ u : State, exec (.arbitrationLost t) s = .next u ∧
      u = { s.advance t with line := { s.line with inFlight := none }, notices := u.notices } ∧
      ((∀ src arg more, f.content = .notice src arg more → src.isCondition = true) → u.notices = s.notices.unsent f.content) ∧
      (∀ src arg more i, f.content = .notice src arg more → src.isCondition = false → (s.notices.get src).taken = some i →
        u.notices.maskAll = s.notices.maskAll ∧ u.notices.order = s.notices.order ∧ u.notices.stream = s.notices.stream ∧
        u.notices.replacement = s.notices.replacement ∧
        u.notices.get src =
          { s.notices.get src with
            pending := true, taken := none,
            inst := if (s.notices.get src).pending then { (s.notices.get src).inst with more := true } else i } ∧
        ∀ other, other ≠ src → u.notices.get other = s.notices.get other)) ∧
    (∃ u : State, exec (.transmitError t) s = .next u ∧
      Reacted
        { s.advance t with
          line :=
            if s.line.status = .probing ∨ 15 ≤ s.line.errorRun then
              { s.line with inFlight := none, status := .quiet, errorRun := 0, quietTimer := some (max s.now t + 10000) }
            else { s.line with inFlight := none, errorRun := s.line.errorRun + 1 },
          notices := s.notices.unsent f.content } u ∧
      (s.line.departSlot = true → u.line.departSlot = true) ∧ (s.line.heatSlot = true → u.line.heatSlot = true) ∧
      (∀ src arg more i, f.content = .notice src arg more → src.isCondition = false → (s.notices.get src).taken = some i →
        (u.notices.get src).pending = true ∧ (u.notices.get src).taken = none ∧
        ((u.notices.get src).inst =
            (if (s.notices.get src).pending then { (s.notices.get src).inst with more := true } else i) ∨
          ((src = .lampSheetDone ∨ src = .blockingLost) ∧ (u.notices.get src).inst.more = true))) ∧
      (∀ other, other.isCondition = false → other ≠ .lampSheetDone → other ≠ .blockingLost →
        (∀ arg more, f.content ≠ .notice other arg more) → u.notices.get other = s.notices.get other) ∧
      (∀ src, src.isCondition = true → (u.notices.get src).holding = (s.notices.get src).holding →
        u.notices.get src = s.notices.get src) ∧
      (s.line.status = .probing ∨ 15 ≤ s.line.errorRun → u.heat.state = .off ∧ u.heat.drawn = 0 ∧ u.dep.state ≠ .settling))

/-- A finished frame clears the error run and ends PROBING. A claim's slot empties unless the claim was made due again: on the wires, or,
for the two claims that carry a state, by a change of that state at the finish itself.
A heat claim's levels up to its intended that had no announcement take this moment, unless the state has gone to OFF, SHED or
FAULT. The first finished SETTLING claim of a stay starts the 3 s with its countdown and moment as the own key (R88, R91, R132,
R152). -/
def Obligations.FinishedClaimsReachTheirOwners : Prop :=
  ∀ (t : Nat) (f : Flight) (s : State), s.line.inFlight = some f → f.content.isReport = false →
    ∃ u : State, exec (.frameFinished t) s = .next u ∧
      Reacted
        { s.advance t with
          line := { s.line with
            inFlight := none, errorRun := 0,
            status := if s.line.status = .probing then .normal else s.line.status,
            airSlot := if Content.kind f.content = 8 then f.renewed else s.line.airSlot },
          notices := u.notices, dep := { s.dep with settleTimer := u.dep.settleTimer, key := u.dep.key } } u ∧
      (u.notices.maskAll = s.notices.maskAll ∧ u.notices.order = s.notices.order ∧ u.notices.stream = s.notices.stream ∧
        ∀ src, (u.notices.get src).masked = (s.notices.get src).masked) ∧
      (Content.kind f.content = 1 → f.renewed = true → u.line.departSlot = true) ∧
      (Content.kind f.content = 2 → f.renewed = true → u.line.heatSlot = true) ∧
      (Content.kind f.content = 1 → u.dep.state = s.dep.state →
        (s.lamps.running = true ∨ s.lamps.sheet.state = .complete ∨ s.bay.occupancy ≠ .connected ∨ s.sessionOpen = false ∨
          s.supply.sag = true ∨ s.dep.state.moves = false) → u.line.departSlot = f.renewed) ∧
      (Content.kind f.content = 2 → u.heat.state = s.heat.state → u.line.heatSlot = f.renewed) ∧
      (∀ state wanted intended drawn power latest, f.content = .heat state wanted intended drawn power latest →
        HeatState.drawsNothing u.heat.state = true ∨
        ∀ level, 1 ≤ level → level ≤ 4 → u.heat.announcement level =
          (if level ≤ intended ∧ s.heat.announcement level = none then some (max s.now t)
          else s.heat.announcement level)) ∧
      (∀ countdown, f.content = .depart .settling countdown → s.dep.state = .settling → s.dep.key = none → s.laneSafe →
        u.dep.state = .settling →
        u.dep.settleTimer = some (max s.now t + 3000) ∧ u.dep.key = some (countdown, max s.now t)) ∧
      (∀ state countdown, f.content = .depart state countdown → state ≠ .settling ∨ s.dep.key ≠ none → s.laneSafe →
        u.dep.state = .settling → u.dep.settleTimer = s.dep.settleTimer ∧ u.dep.key = s.dep.key)

/-- A finished NOTICE: an edge's taken instance is gone, and what waits is what a newer raise left (log 15); a condition's pending clears,
also of one that ended and began again on the wires (log 16), and its repeat starts at 60 s if it still holds, and not if it has
ended. A finished report frame moves the stream to its next place, ends a bay status, or lets
the waiting replacement begin (R88, R164, R165, R168, R169). -/
def Obligations.FinishedNoticesAndReportsMoveOn : Prop :=
  ∀ (t : Nat) (f : Flight) (s : State), s.line.inFlight = some f →
    ∃ u : State, exec (.frameFinished t) s = .next u ∧
      (∀ src arg more, f.content = .notice src arg more → src.isCondition = false →
        (u.notices.get src).taken = none ∧ u.notices.stream = s.notices.stream ∧
        (src ≠ .lampSheetDone → src ≠ .blockingLost →
          (u.notices.get src).pending = (s.notices.get src).pending ∧
          (u.notices.get src).inst = (s.notices.get src).inst)) ∧
      (∀ src arg more, f.content = .notice src arg more → src.isCondition = true → (s.notices.get src).holding = true →
        (u.notices.get src).pending = false ∧
        ((u.notices.get src).holding = true → (u.notices.get src).repeatTimer = some (max s.now t + 60000)) ∧
        ((u.notices.get src).holding = false → (u.notices.get src).repeatTimer = none)) ∧
      (∀ src arg more, f.content = .notice src arg more → src.isCondition = true → (s.notices.get src).holding = false →
        (u.notices.get src).holding = false →
        (u.notices.get src).pending = false ∧ (u.notices.get src).repeatTimer = (s.notices.get src).repeatTimer) ∧
      (f.content.isReport = true →
        (∀ k, s.notices.replacement = some k →
          u.notices.stream = some { kind := k, next := 1, first := true } ∧ u.notices.replacement = none) ∧
        (s.notices.replacement = none → u.notices.replacement = none ∧ ∀ st, s.notices.stream = some st →
          u.notices.stream =
            (if st.kind = .bayStatus then none else some { st with next := st.next + 1, first := false })))

/-- The quiet spell over, the line probes, and nothing else changes (R91). A frame heard with the own number sets conflict for 60 s
afresh, takes the heat controller OFF and SETTLING back, and ADDRESS_CONFLICT holds until the timer clears it (R95). -/
def Obligations.QuietAndConflictRunTheirTimes : Prop :=
  (∀ (t d : Nat) (s : State), s.line.quietTimer = some d → d ≤ max s.now t → s.line.status = .quiet →
    exec (.quietTimerExpiry t) s =
      .next { s.advance t with line := { s.line with quietTimer := none, status := .probing } }) ∧
  (∀ (t : Nat) (s : State), s.configured = true →
    ∃ u : State, exec (.ownNumberHeard t) s = .next u ∧
      Reacted { s.heard t with line := { (s.heard t).line with conflict := true,
                                                               conflictTimer := some (max s.now t + 60000) } } u ∧
      u.heat.state = .off ∧ u.heat.drawn = 0 ∧ u.dep.state ≠ .settling ∧
      (u.notices.get .addressConflict).holding = true) ∧
  (∀ (t d : Nat) (s : State), s.line.conflictTimer = some d → d ≤ max s.now t →
    ∃ u : State, exec (.conflictTimerExpiry t) s = .next u ∧
      Reacted { s.advance t with line := { s.line with conflict := false, conflictTimer := none } } u ∧
      (u.notices.get .addressConflict).holding = false)

/-- A discarded frame only moves the clock and sets the receipt mark: given to every frame whose check field is right, malformed,
refused by its sender or for another, while the part is configured and not in QUIET. While the part is unconfigured no frame earns
the mark or reaches a block (R90, R92, R93, R94, R96). -/
def Obligations.DiscardedFramesEarnOnlyTheirReceiptMark : Prop :=
  (∀ (t : Nat) (right : Bool) (s : State), exec (.frameMalformed t right) s = .next { s.advance t with line :=
    { s.line with receiptMark := right && s.configured && decide (s.line.status ≠ .quiet) } }) ∧
  (∀ (t : Nat) (s : State) (c : Instr), c = .frameSenderRefused t ∨ c = .frameNotForBay t →
    exec c s = .next { s.advance t with line :=
      { s.line with receiptMark := s.configured && decide (s.line.status ≠ .quiet) } }) ∧
  (∀ (c : Instr) (s : State), (Instr.isReceived c = true ∨ ∃ t, c = .unconfiguredFrameReceived t) → s.configured = false →
    exec c s = .next { s.advance (Instr.moment c) with line := { s.line with receiptMark := false } })

/-- What a bay sends is what another bay hears: its three claims come back with every value they carry, its notices and reports are for
the panels, and a bay with its own number hears only that (R92, R93, R94, R95, R177). A countdown and a latest start come back also
outside R177's ranges, the model's choice (log 38). A BAY_STATUS whose values stand in R178's
relations is packed as R178 says, and no two of them alike. -/
def Obligations.OwnFramesAreHeardAsTheyWereSent : Prop :=
  (∀ b : BayStatus, b.related →
    (∃ p0 p1 p2 p3 p4 p5 p6 p7 : Byte, Content.payload (.bayStatus b) = [p0, p1, p2, p3, p4, p5, p6, p7] ∧
      (b.heat = .off → p0.toNat = 16 * occupancyCode b.occupancy + 2 * depCode b.dep) ∧
      (b.heat ≠ .off → ∀ dep heat : Nat,
        (b.dep = .assigned ∧ dep = 0 ∨ b.dep = .ready ∧ dep = 1 ∨ b.dep = .settling ∧ dep = 2) →
        (b.heat = .waiting ∧ heat = 1 ∨ b.heat = .starved ∧ heat = 2 ∨ b.heat = .shed ∧ heat = 3 ∨
          b.heat = .fault ∧ heat = 4 ∨ b.heat = .heating ∧ heat = 5 + b.drawn ∨ b.heat = .maintain ∧ heat = 10 + b.drawn) →
        p0.toNat = 128 + (if b.occupancy = .unlinked then 64 else 0) + 16 * dep + heat) ∧
      (∀ sheet fault : Nat,
        (b.sheet = .empty ∧ sheet = 0 ∨
          ∃ k, (b.sheet = .running ∧ k = 0 ∨ b.sheet = .partly ∧ k = 1 ∨ b.sheet = .complete ∧ k = 2) ∧
            sheet = 1 + 153 * k + b.notOk * (b.notOk + 1) / 2 + b.blockingNotOk) →
        fault =
          (if b.figure = none then 16383 else 625 * b.records + 25 * b.activeBlocking + b.activeAdvisory) →
        65536 * p1.toNat + 256 * p2.toNat + p3.toNat = 32768 * sheet + (if b.blockingLost then 16384 else 0) + fault) ∧
      p4.toNat = (match b.mark with
        | .none => b.lead
        | .saturated => 241
        | .unreachable => 242) ∧
      p5.toNat = b.figure.getD 0 ∧ 256 * p6.toNat + p7.toNat = b.maskedPending.toNat) ∧
    (∀ c : BayStatus, c.related → Content.payload (.bayStatus b) = Content.payload (.bayStatus c) → b = c)) ∧
  ∀ own other t : Nat, bayNumber own = true → bayNumber other = true → own ≠ other →
    (∀ state countdown, fitsSigned24 countdown = true →
      sortFrame (some other) t (wireFrame own (.depart state countdown)) = [.departClaimReceived t own state countdown]) ∧
    (∀ state wanted intended drawn power latest, heatClaimForm wanted intended drawn power = true →
      fitsSigned24 latest = true →
      sortFrame (some other) t (wireFrame own (.heat state wanted intended drawn power latest)) =
        [.heatClaimReceived t own state wanted intended drawn power latest]) ∧
    (∀ temp, fitsSigned8 temp = true →
      sortFrame (some other) t (wireFrame own (.air temp)) = [.airTempReceived t own temp]) ∧
    (∀ content : Content, content.isReport = true ∨ (∃ src arg more, content = .notice src arg more) →
      sortFrame (some other) t (wireFrame own content) = [.frameNotForBay t]) ∧
    (∀ content : Content,
      (∀ state wanted intended drawn power latest, content = .heat state wanted intended drawn power latest →
        heatClaimForm wanted intended drawn power = true) →
      sortFrame (some own) t (wireFrame own content) = [.ownNumberHeard t])

/-! ### The peer table -/

/-- A peer's claim replaces its part whole, heard at this moment, and leaves its other parts and every other station's: a heat claim
as it stands, a departure claim and a clamped air temperature with the parts older than 7 s removed. Frames of the own number or
of no bay make no entry (log 8; R98, R99, R100, R101, R104, R107). That the last two remove old parts is log 26: the table is read at
every event that can move another block. That a countdown or a latest start outside R177's range is kept as it came is log 38. -/
def Obligations.PeerClaimsReplaceTheirPart : Prop :=
  ∀ (t n : Nat) (s : State), s.configured = true → s.tableRight →
    (1 ≤ n → n ≤ 48 → n ≠ s.ownNumber →
      (∀ state wanted intended drawn power latest, heatClaimForm wanted intended drawn power = true →
        ∃ u : State, exec (.heatClaimReceived t n state wanted intended drawn power latest) s = .next u ∧
          u = { s.heard t with peers := u.peers } ∧ u.peers.lowestGiven = s.peers.lowestGiven ∧
          (u.peers.entry n).bind (·.heat) =
            some { state := state, wanted := wanted, power := power, latest := latest, heard := max s.now t } ∧
          (u.peers.entry n).bind (·.depart) = (s.peers.entry n).bind (·.depart) ∧
          (u.peers.entry n).bind (·.air) = (s.peers.entry n).bind (·.air) ∧
          ∀ m, m ≠ n → u.peers.entry m = s.peers.entry m) ∧
      (∀ state countdown,
        ∃ u : State, exec (.departClaimReceived t n state countdown) s = .next u ∧ Reacted (s.heard t) u ∧
          (u.peers.entry n).bind (·.depart) = some { state := state, countdown := countdown, heard := max s.now t } ∧
          (u.peers.entry n).bind (·.heat) = ((s.peers.purge (max s.now t)).entry n).bind (·.heat) ∧
          (u.peers.entry n).bind (·.air) = ((s.peers.purge (max s.now t)).entry n).bind (·.air) ∧
          (state = .holding → u.dep.state ≠ .settling) ∧
          ∀ m, m ≠ n → u.peers.entry m = (s.peers.purge (max s.now t)).entry m) ∧
      (∀ temp,
        ∃ u : State, exec (.airTempReceived t n temp) s = .next u ∧ Reacted (s.heard t) u ∧
          (u.peers.entry n).bind (·.air) = some { temp := clampInt (-80) 120 temp, heard := max s.now t } ∧
          (u.peers.entry n).bind (·.heat) = ((s.peers.purge (max s.now t)).entry n).bind (·.heat) ∧
          (u.peers.entry n).bind (·.depart) = ((s.peers.purge (max s.now t)).entry n).bind (·.depart) ∧
          u.peers.lowestGiven = lowestAir u.peers.entries ∧
          ∀ m, m ≠ n → u.peers.entry m = (s.peers.purge (max s.now t)).entry m)) ∧
    (n = 0 ∨ 48 < n ∨ n = s.ownNumber →
      (∀ state wanted intended drawn power latest,
        exec (.heatClaimReceived t n state wanted intended drawn power latest) s = .next (s.heard t)) ∧
      (∀ state countdown, exec (.departClaimReceived t n state countdown) s = .next (s.heard t)) ∧
      (∀ temp, exec (.airTempReceived t n temp) s = .next (s.heard t)))

/-- A part's expiry removes it 7 s after it was heard, and its entry with its last part; every part the table then holds is at
most 7 s old, also those of other stations, since the table is read at the same event (log 26), and the lowest air temperature is given
from them (R98, R103, R104, R107). -/
def Obligations.PartsExpireAfterSevenSeconds : Prop :=
  ∀ (t n : Nat) (part : PartKind) (s : State), s.tableRight →
    ∃ u : State, exec (.peerPartExpiry t n part) s = .next u ∧ Reacted (s.advance t) u ∧
      (∀ e ∈ u.peers.entries, e.holdsPart = true ∧
        ∀ k h, PeerEntry.heard k e = some h → max s.now t ≤ h + 7000 ∧ (e.station = n → k = part → max s.now t < h + 7000)) ∧
      (∀ m k h, (s.peers.entry m).bind (PeerEntry.heard k) = some h → max s.now t < h + 7000 →
        (u.peers.entry m).bind (PeerEntry.heard k) = some h) ∧
      (∀ m, s.peers.entry m = none → u.peers.entry m = none) ∧
      u.peers.lowestGiven = lowestAir u.peers.entries

/-! ### Departure clearance -/

/-- A peer's SETTLING heard in SETTLING: with no own key, or the peer's due moment earlier, or equal with the lower number, the bay
yields, so that no settle runs and a claim is due, whether or not the lane lets it settle anew at once (R151, log 6); otherwise the
own settle goes on as it was (R154). -/
def Obligations.EarlierDueMomentTakesTheLane : Prop :=
  ∀ (t n : Nat) (countdown : Int) (s : State), s.configured = true → s.dep.state = .settling →
    1 ≤ n → n ≤ 48 → n ≠ s.ownNumber →
    ∃ u : State, exec (.departClaimReceived t n .settling countdown) s = .next u ∧ Reacted (s.heard t) u ∧
      (∀ yields : Prop,
        (yields ↔ match s.dep.key with
          | none => True
          | some (own, moment) =>
              (max s.now t : Int) + 1000 * countdown < moment + 1000 * own ∨
              ((max s.now t : Int) + 1000 * countdown = moment + 1000 * own ∧ n < s.ownNumber)) →
        (yields → u.dep.settleTimer = none ∧ u.dep.key = none ∧ u.line.departSlot = true) ∧
        (¬yields → s.laneSafe → u.dep.state = .settling → u.dep = s.dep))

/-- A panel's HOLD sets the depot hold for 30 s afresh and brings SETTLING back; its clear and the timer's end clear it (R153,
R160). -/
def Obligations.DepotHoldStopsLaneEntries : Prop :=
  (∀ (t : Nat) (s : State), s.configured = true →
    ∃ u : State, exec (.holdSet t) s = .next u ∧ u.dep.state ≠ .settling ∧
      Reacted { s.heard t with dep := { s.dep with hold := true, holdTimer := some (max s.now t + 30000) } } u) ∧
  (∀ (t : Nat) (s : State), s.configured = true →
    ∃ u : State, exec (.holdClear t) s = .next u ∧
      Reacted { s.heard t with dep := { s.dep with hold := false, holdTimer := none } } u) ∧
  (∀ (t d : Nat) (s : State), s.dep.holdTimer = some d → d ≤ max s.now t →
    ∃ u : State, exec (.holdTimerExpiry t) s = .next u ∧
      Reacted { s.advance t with dep := { s.dep with hold := false, holdTimer := none } } u)

/-- An ASSIGN is taken in NONE, ASSIGNED, READY, SETTLING and LAPSED: the assignment and countdown are the frame's, the departure
starts again from ASSIGNED with no settle running, the waivers stand and a claim is due, the countdown falling from the next whole
second (log 30). In HOLDING and GONE only ASSIGN_REFUSED is raised: pending with the refused coach number, and with the more-than-once
mark set exactly when it was pending before (R143, R144, R164). A CANCEL brings ASSIGNED, READY, SETTLING and LAPSED to NONE with the heat controller OFF; elsewhere it
changes nothing (R145). -/
def Obligations.AssignAndCancelSetTheDeparture : Prop :=
  ∀ (t coach countdown : Nat) (s : State), s.configured = true → coach ≤ 65535 → countdown ≤ 65535 → s.dep.wellKept →
    ((s.dep.state ≠ .holding ∧ s.dep.state ≠ .gone) →
      ∃ u : State, exec (.assign t coach countdown) s = .next u ∧ u.line.departSlot = true ∧
        u.dep.settleTimer = none ∧ u.dep.key = none ∧
        Reacted
          { s.heard t with
            dep := { s.dep with state := .assigned, assignment := some coach, countdown := some (countdown : Int),
                                nextFall := some ((max s.now t / 1000 + 1) * 1000) },
            line := { (s.heard t).line with departSlot := true } } u) ∧
    ((s.dep.state = .holding ∨ s.dep.state = .gone) →
      (∃ u : State, exec (.assign t coach countdown) s = .next u ∧ u = { s.heard t with notices := u.notices } ∧
        u.notices = s.notices.set .assignRefused { s.notices.get .assignRefused with
          pending := true, inst := { arg := coach, more := (s.notices.get .assignRefused).pending } } ∧
        ∀ other, other ≠ .assignRefused → u.notices.get other = s.notices.get other) ∧
      exec (.cancel t) s = .next (s.heard t)) ∧
    ((s.dep.state = .assigned ∨ s.dep.state = .ready ∨ s.dep.state = .settling ∨ s.dep.state = .lapsed) →
      ∃ u : State, exec (.cancel t) s = .next u ∧ u.line.departSlot = true ∧ u.heat.state = .off ∧ u.heat.drawn = 0 ∧
        u.dep = { s.dep with state := .none, assignment := none, countdown := none, nextFall := none, settleTimer := none,
                             key := none } ∧
        u.bay = { s.bay with aspect := .red }) ∧
    (s.dep.state = .none → exec (.cancel t) s = .next (s.heard t))

/-- A WAIVE is accepted with a session open and the filtered key on, in any departure state, and latches its kind; otherwise it is
ignored. A latched fault waiver ends BLOCKING_FAULT (R17, R56, R149). -/
def Obligations.WaiversNeedTheKeyAndASession : Prop :=
  ∀ (t : Nat) (s : State), s.configured = true →
    ((s.sessionOpen = true ∧ s.bay.key.level = true) →
      (∃ u : State, exec (.waiveLamp t) s = .next u ∧ Reacted { s.heard t with dep := { s.dep with waiveLamp := true } } u) ∧
      (∃ u : State, exec (.waiveFault t) s = .next u ∧
        Reacted { s.heard t with dep := { s.dep with waiveFault := true } } u ∧
        (u.notices.get .blockingFault).holding = false) ∧
      (∃ u : State, exec (.waiveHeat t) s = .next u ∧
        Reacted { s.heard t with dep := { s.dep with waiveHeat := true } } u)) ∧
    ((s.sessionOpen = false ∨ s.bay.key.level = false) →
      exec (.waiveLamp t) s = .next (s.heard t) ∧ exec (.waiveFault t) s = .next (s.heard t) ∧
      exec (.waiveHeat t) s = .next (s.heard t))

/-- The countdown falls by one at a whole second (log 30) and stays at -3600; with it ASSIGNED becomes READY within 600 s of a coach whose
conditions hold, and READY becomes SETTLING where R151 lets it (R150, R151). The settle time over, SETTLING is HOLDING: green, the release
window running, heating OFF, a running check abandoned. The window over, HOLDING is LAPSED: red, with RELEASE_LAPSED. The transit
over, GONE is NONE and a departing session ends (R14, R81, R143, R155, R156, R157). The tests it reads are those of R146 and R147 for the
coach, of R148 for the line, and of R106 for the lane: no part in HOLDING, and the own key before that of every READY or SETTLING
part, its countdown less the whole seconds since it was heard (R102). -/
def Obligations.DepartureTimersMoveTheState : Prop :=
  (∀ s : State,
    (s.coachConditions = true ↔ ∃ (coach : Nat) (id : Identity),
      s.dep.assignment = some coach ∧ s.bay.session = .opened id ∧ (coach = 0 ∨ coach = id.coach) ∧
      ((s.lamps.sheet.state = .complete ∧
          ∀ e ∈ s.lamps.sheet.entries, e.blocking = true → e.result.all (fun v => decide (v.1 = .ok)) = true) ∨
        s.dep.waiveLamp = true) ∧
      ((s.faults.blockingLost = false ∧ ∀ r ∈ s.faults.records, r.active = true → r.severity ≠ .blocking) ∨
        s.dep.waiveFault = true) ∧
      (s.start.image.stages = 0 ∨ s.lead.lead = 0 ∨ s.heat.state = .maintain ∨ s.countdownAtMost 0 = true ∨
        s.dep.waiveHeat = true)) ∧
    (s.lineConditions = true ↔ s.line.status = .normal ∧ s.line.conflict = false) ∧
    (∀ limit, s.countdownAtMost limit = true ↔ ∃ countdown, s.dep.countdown = some countdown ∧ countdown ≤ limit) ∧
    (s.peers.freshHolding = true ↔ ∃ e ∈ s.peers.entries, ∃ part : DepartPart, e.depart = some part ∧ part.state = .holding) ∧
    (s.tableRight → ∀ own : Int, s.ranksFirst own = true ↔
      ∀ e ∈ s.peers.entries, ∀ part : DepartPart, e.depart = some part → (part.state = .ready ∨ part.state = .settling) →
        own < part.countdown - ((s.now - part.heard) / 1000 : Nat) ∨
        (own = part.countdown - ((s.now - part.heard) / 1000 : Nat) ∧ s.ownNumber < e.station))) ∧
  (∀ (t d : Nat) (s : State), s.dep.nextFall = some d → d ≤ max s.now t →
    ∃ u : State, exec (.countdownTick t) s = .next u ∧
      Reacted { s.advance t with dep := { s.dep with
        countdown := s.dep.countdown.map fun c => max (-3600) (c - 1),
        nextFall := some ((max s.now t / 1000 + 1) * 1000) } } u ∧
      (s.dep.state = .assigned → u.coachConditions = true → u.countdownAtMost 600 = true →
        u.dep.state = .ready ∨ u.dep.state = .settling) ∧
      (s.dep.state = .ready → u.coachConditions = true → u.lineConditions = true →
        u.countdownAtMost s.start.image.allowance = true → u.dep.hold = false → u.peers.freshHolding = false →
        u.ranksFirst (u.dep.countdown.getD 0) = true → u.countdownAtMost 600 = true → u.dep.state = .settling)) ∧
  (∀ (t d : Nat) (s : State), s.dep.settleTimer = some d → d ≤ max s.now t → s.dep.state = .settling →
    ∃ u : State, exec (.settleTimerExpiry t) s = .next u ∧
      u.dep = { s.dep with state := .holding, settleTimer := none, key := none,
                           releaseTimer := some (max s.now t + 1000 * s.start.image.releaseWindow) } ∧
      u.bay = { s.bay with aspect := .green } ∧ u.heat.state = .off ∧ u.heat.drawn = 0 ∧ u.lamps.running = false ∧
      (s.lamps.running = true → u.lamps.feed = false ∧ u.lamps.sheet.state = .partly) ∧
      (s.configured = true → u.line.departSlot = true)) ∧
  (∀ (t d : Nat) (s : State), s.dep.releaseTimer = some d → d ≤ max s.now t → s.dep.state = .holding →
    ∃ u : State, exec (.releaseWindowExpiry t) s = .next u ∧
      u.dep = { s.dep with state := .lapsed, releaseTimer := none } ∧ u.bay = { s.bay with aspect := .red } ∧
      u.heat.state = .off ∧ (s.configured = true → u.line.departSlot = true) ∧
      u.notices.tells .releaseLapsed ((s.identity.map (·.coach)).getD 0) = true) ∧
  (∀ (t d : Nat) (s : State), s.dep.transitTimer = some d → d ≤ max s.now t → s.dep.state = .gone →
    ∃ u : State, exec (.transitTimerExpiry t) s = .next u ∧
      u.dep.state = .none ∧ u.dep.assignment = none ∧ u.dep.countdown = none ∧ u.dep.transitTimer = none ∧
      u.bay.aspect = .red ∧ u.bay.occupancy = s.bay.occupancy ∧ (s.configured = true → u.line.departSlot = true) ∧
      (∀ id, s.bay.session = .departing id →
        u.bay.session = .none ∧ u.notices.tells .sessionEnded id.coach = true ∧ u.faults.records = []) ∧
      (∀ id, s.bay.session = .opened id → u.bay.session = .opened id ∧ u.dep.waiveLamp = s.dep.waiveLamp))

/-! ### Notices and reports -/

/-- A MASK sets or clears the own masks of the sources it names, or mask-all alone, and nothing else. While mask-all is on every source is
masked, and without it the own masks stand as they were. A REPORT_REQ begins its stream
at place 1, or waits as the replacement while the old stream's frame is on the wires. A repeat timer's end sets pending again,
whatever the mask (R163, R165, R166, R168). -/
def Obligations.MasksRequestsAndRepeats : Prop :=
  (∀ (t : Nat) (sources : Word16) (s : State), s.configured = true →
    (∀ c value, (c = .maskSetSources t sources ∧ value = true) ∨ (c = .maskClearSources t sources ∧ value = false) →
      ∃ u : State, exec c s = .next u ∧ u = { s.heard t with notices := u.notices } ∧
        u.notices.maskAll = s.notices.maskAll ∧ u.notices.order = s.notices.order ∧ u.notices.stream = s.notices.stream ∧
        u.notices.replacement = s.notices.replacement ∧
        ∀ src, u.notices.get src =
          (if sources.getLsbD src.number.val then { s.notices.get src with masked := value } else s.notices.get src)) ∧
    exec (.maskAllOn t) s = .next { s.heard t with notices := { s.notices with maskAll := true } } ∧
    exec (.maskAllOff t) s = .next { s.heard t with notices := { s.notices with maskAll := false } } ∧
    (∀ src, ({ s.notices with maskAll := true } : Notices).masked src = true ∧
      ({ s.notices with maskAll := false } : Notices).masked src = (s.notices.get src).masked) ∧
    (∀ c k, (c = .reportReqFaults t ∧ k = .faults) ∨ (c = .reportReqLamps t ∧ k = .lamps) ∨
        (c = .reportReqBayStatus t ∧ k = .bayStatus) →
      exec c s = .next { s.heard t with notices :=
        if s.notices.stream.isSome ∧ s.line.inFlight.any (fun f => f.content.isReport) = true then
          { s.notices with replacement := some k }
        else { s.notices with stream := some { kind := k, next := 1, first := true } } })) ∧
  (∀ (t d : Nat) (src : Source) (s : State), (s.notices.get src).repeatTimer = some d → d ≤ max s.now t →
    ∃ u : State, exec (.noticeRepeatExpiry t src) s = .next u ∧ u = { s.advance t with notices := u.notices } ∧
      u.notices.get src = { s.notices.get src with pending := true, repeatTimer := none } ∧
      ∀ other, other ≠ src → u.notices.get other = s.notices.get other)

/-- The best source is pending and not masked, and no other such source goes before it: the earliest group of the order, and in one
group the lowest number; there is none exactly when no source is pending and unmasked (R163, R167). -/
def Obligations.BestNoticeIsFirstInTheOrder : Prop :=
  ∀ n : Notices,
    (∀ src, n.best = some src →
      (n.get src).pending = true ∧ n.masked src = false ∧
      ∀ other, (n.get other).pending = true → n.masked other = false → other ≠ src → Source.before n.order src other) ∧
    (n.best = none ↔ ∀ src, (n.get src).pending = false ∨ n.masked src = true)

/-! ### What every step keeps -/

/-- Every step keeps the fault list well: never more than 24 records, never two of one identity (R41). -/
def Obligations.EveryStepKeepsTheFaultListWell : Prop :=
  ∀ s u : State, s.faults.wellKept → step s = .next u → u.faults.wellKept

/-- Every step keeps drawn within the grant, intended equal to it, and both at 0 in OFF, SHED and FAULT (R123, R131, R134); the heat state
at the first entry of R123's table, with called, at target, the keep-warm call and wanted as R124 to R126 say; and the lead, its mark,
the cabin used and the latest start as R110 to R118 give them. The contactors closed are those of stages 1 to drawn (R122). -/
def Obligations.EveryStepKeepsDrawnWithinTheGrant : Prop :=
  ∀ s u : State, step s = .next u →
    (s.heat.wellKept → u.heat.wellKept) ∧
    (s.leadRight → u.leadRight) ∧
    (s.leadRight → s.heatRight →
      u.heatRight ∧ ∀ n, u.contactor n = (decide (1 ≤ n) && decide (n ≤ u.heat.drawn)))

/-- Every step keeps the feed safe: closed only during a step that has given no SHORT reading, and never while sag is present, with each
timer of a step in its own stage (R66, R67, R74). -/
def Obligations.EveryStepKeepsTheFeedSafe : Prop :=
  ∀ s u : State, s.feedSafe → step s = .next u → u.feedSafe

/-- Every step keeps the head on the aspect of the departure state, and SETTLING only with the coach and line conditions holding, no
depot hold and no fresh HOLDING. The head is green only in HOLDING (R18, R151, R153). No step leaves a bay in ASSIGNED that may be
READY, in READY that may be SETTLING, or in READY without its coach conditions (R150, R151). That it leaves READY also at a line fault or
an own number heard, where the heat condition stood on the MAINTAIN that the same event ends, is the model's choice (log 37). -/
def Obligations.EveryStepKeepsTheHeadAndTheLane : Prop :=
  ∀ s u : State, step s = .next u →
    (s.headRight → s.laneSafe → u.headRight ∧ u.laneSafe ∧ (u.bay.aspect = .green ↔ u.dep.state = .holding)) ∧
    (s.laneTaken → u.laneTaken)

/-- Every step keeps the departure record: an assignment and a countdown in every state but NONE, the countdown in its range, each
timer only in its state (R142, R143, R152, R155, R157). -/
def Obligations.EveryStepKeepsTheDepartureRecord : Prop :=
  ∀ s u : State, s.dep.wellKept → step s = .next u → u.dep.wellKept

/-- Every step keeps the peer table in its one form: one entry a station by rising number, for bays other than the own, each
with a part, and none until the part is configured (R98, R103, R108). -/
def Obligations.EveryStepKeepsThePeerTable : Prop :=
  ∀ s u : State, s.tableRight → step s = .next u → u.tableRight

/-- Every step keeps the link record: nothing but IDENTIFY waits or runs unless the link is UP, nothing at all while it is
UNPLUGGED, one FAULT_NEXT at most and only for a pass in progress, the failure run at most 2 and the tag at most 15 (R20, R22, R27,
R29, R36). Every step keeps the line record too: the error run at most 15, QUIET exactly while its timer runs and then nothing in
flight, conflict exactly while its timer runs, and the reset values while unconfigured (R84, R90, R91, R95, R96). And it keeps the six
condition sources on the conditions of their owners: holding as the rules say, pending set at each beginning, and nothing pending and no
repeat running once the condition has ended (R9, R56, R95, R136, R140, R146, R165). The bay and the link it is plugged to go together in
every step: UNPLUGGED with the plug out, OPENING in LINKING, UP in CONNECTED, LOST in UNLINKED (R2 to R11, R21, R25, R27, R29). -/
def Obligations.EveryStepKeepsTheLinkRecord : Prop :=
  ∀ s u : State, step s = .next u →
    (s.link.wellKept → u.link.wellKept) ∧ (s.link.wellKept → s.bayRight → u.bayRight) ∧ (s.lineRight → u.lineRight) ∧
    (s.noticesRight → u.noticesRight) ∧
    (∀ src, src.isCondition = true → (s.notices.get src).holding = false → (u.notices.get src).holding = true →
      (u.notices.get src).pending = true)

/-- The reset state meets every one of these invariants, and its peer and fault lists are empty (R2, R20, R40, R62, R98, R121,
R142). -/
def Obligations.ResetMeetsTheInvariants : Prop :=
  State.reset.faults.wellKept ∧ State.reset.heat.wellKept ∧ State.reset.feedSafe ∧ State.reset.headRight ∧
  State.reset.laneSafe ∧ State.reset.dep.wellKept ∧ State.reset.tableRight ∧ State.reset.link.wellKept ∧
  State.reset.bayRight ∧ State.reset.lineRight ∧ State.reset.noticesRight ∧ State.reset.heatRight ∧ State.reset.leadRight ∧
  State.reset.laneTaken ∧
  State.reset.faults.records = [] ∧ State.reset.peers.entries = []
end

