-- ==== Sys2Proof/Laws/Commands.lean ====
section
/-! SUPPORT. What the operations between a command and its effect do: an expiry due or not due, a frame received, a link response against
the transaction in progress, and the check word of a configuration read. -/

namespace Sys2Proof.Machine

open Sys2Proof

/-! ### Expiries -/

theorem onDue_due {timer : Option Nat} {d : Nat} {s : State} {effect : State → State} (h : timer = some d) (hd : d ≤ s.now) :
    onDue timer effect s = effect s := by simp [onDue, fallenDue, h, hd]

theorem onDue_notDue {timer : Option Nat} {s : State} {effect : State → State} (h : fallenDue timer s.now = false) :
    onDue timer effect s = s := by simp [onDue, h]

/-- All that an expiry can do. -/
theorem onDue_cases (timer : Option Nat) (effect : State → State) (s : State) :
    ((∃ d, timer = some d ∧ d ≤ s.now) ∧ onDue timer effect s = effect s) ∨
      (fallenDue timer s.now = false ∧ onDue timer effect s = s) := by
  cases h : fallenDue timer s.now with
  | false => exact .inr ⟨rfl, onDue_notDue h⟩
  | true =>
    cases timer with
    | none => simp [fallenDue] at h
    | some d =>
      have hd : d ≤ s.now := by simpa [fallenDue] using h
      exact .inl ⟨⟨d, rfl, hd⟩, onDue_due rfl hd⟩

/-! ### Frames received -/

theorem receive_configured {s : State} {t : Nat} {effect : State → State} (h : s.configured = true) :
    receive effect (s.advance t) = effect (s.heard t) := by
  have h' : (s.advance t).configured = true := h
  simp [receive, State.heard, h']

theorem receive_unconfigured {s : State} {t : Nat} {effect : State → State} (h : s.configured = false) :
    receive effect (s.advance t) = { s.advance t with line := { s.line with receiptMark := false } } := by
  have h' : (s.advance t).configured = false := h
  unfold receive
  rw [if_neg (by simp [h'])]
  unfold markReceipt
  rw [h', Bool.true_and, Bool.false_and]
  rfl

@[simp] theorem State.heard_pending (s : State) (t : Nat) : (s.heard t).pending = s.pending := rfl
@[simp] theorem State.heard_now (s : State) (t : Nat) : (s.heard t).now = max s.now t := rfl
@[simp] theorem State.heard_start (s : State) (t : Nat) : (s.heard t).start = s.start := rfl
@[simp] theorem State.heard_bay (s : State) (t : Nat) : (s.heard t).bay = s.bay := rfl
@[simp] theorem State.heard_link (s : State) (t : Nat) : (s.heard t).link = s.link := rfl
@[simp] theorem State.heard_faults (s : State) (t : Nat) : (s.heard t).faults = s.faults := rfl
@[simp] theorem State.heard_lamps (s : State) (t : Nat) : (s.heard t).lamps = s.lamps := rfl
@[simp] theorem State.heard_peers (s : State) (t : Nat) : (s.heard t).peers = s.peers := rfl
@[simp] theorem State.heard_lead (s : State) (t : Nat) : (s.heard t).lead = s.lead := rfl
@[simp] theorem State.heard_heat (s : State) (t : Nat) : (s.heard t).heat = s.heat := rfl
@[simp] theorem State.heard_supply (s : State) (t : Nat) : (s.heard t).supply = s.supply := rfl
@[simp] theorem State.heard_meter (s : State) (t : Nat) : (s.heard t).meter = s.meter := rfl
@[simp] theorem State.heard_dep (s : State) (t : Nat) : (s.heard t).dep = s.dep := rfl
@[simp] theorem State.heard_notices (s : State) (t : Nat) : (s.heard t).notices = s.notices := rfl

/-! ### Link responses -/

theorem judgeReply_discarded {s : State} {tag : Nat} {fits : Request → Bool}
    (h : s.link.busy.all (fun x => decide (x.tag ≠ tag)) = true) : s.judgeReply tag fits = .discarded := by
  unfold State.judgeReply
  cases hb : s.link.busy with
  | none => rfl
  | some x =>
    have hx : x.tag ≠ tag := by simpa [hb] using h
    simp [hx]

theorem judgeReply_late {s : State} {tag : Nat} {fits : Request → Bool} {x : Transaction} (hb : s.link.busy = some x)
    (ht : x.tag = tag) (hl : x.timer < s.now) : s.judgeReply tag fits = .late x := by
  simp [State.judgeReply, hb, ht, hl]

theorem judgeReply_succeeds {s : State} {tag : Nat} {fits : Request → Bool} {x : Transaction} (hb : s.link.busy = some x)
    (ht : x.tag = tag) (hl : s.now ≤ x.timer) (hf : fits x.request = true) : s.judgeReply tag fits = .succeeds x := by
  simp [State.judgeReply, hb, ht, hf, Nat.not_lt.mpr hl]

theorem judgeReply_fails {s : State} {tag : Nat} {fits : Request → Bool} {x : Transaction} (hb : s.link.busy = some x)
    (ht : x.tag = tag) (hl : s.now ≤ x.timer) (hf : fits x.request = false) : s.judgeReply tag fits = .fails x := by
  simp [State.judgeReply, hb, ht, hf, Nat.not_lt.mpr hl]

/-- All that a response can do: be discarded, find its transaction timed out, fail it, or succeed (R24). -/
theorem takeReply_cases (t tag : Nat) (fits : Request → Bool) (onSuccess : Transaction → State → State) (s : State) :
    (s.link.busy.all (fun x => decide (x.tag ≠ tag)) = true ∧ takeReply t tag fits onSuccess s = s.advance t) ∨
    ∃ x, s.link.busy = some x ∧ x.tag = tag ∧
      ((x.timer < max s.now t ∧
          takeReply t tag fits onSuccess s = (settle (transactionFails x (s.advance x.timer))).advance t) ∨
        (max s.now t ≤ x.timer ∧ fits x.request = false ∧
          takeReply t tag fits onSuccess s = settle (transactionFails x (s.advance t))) ∨
        (max s.now t ≤ x.timer ∧ fits x.request = true ∧
          takeReply t tag fits onSuccess s = settle (onSuccess x (linkSucceeded (s.advance t))))) := by
  cases hb : s.link.busy with
  | none => exact .inl ⟨rfl, by simp [takeReply, judgeReply_discarded (s := s.advance t) (tag := tag) (fits := fits) (by simp [State.advance, hb])]⟩
  | some x =>
    have hb' : (s.advance t).link.busy = some x := hb
    by_cases ht : x.tag = tag
    · refine .inr ⟨x, rfl, ht, ?_⟩
      by_cases hl : x.timer < max s.now t
      · exact .inl ⟨hl, by simp [takeReply, judgeReply_late (s := s.advance t) hb' ht hl]⟩
      · have hl' : (s.advance t).now ≤ x.timer := Nat.not_lt.mp hl
        cases hf : fits x.request with
        | false => exact .inr (.inl ⟨hl', rfl, by simp [takeReply, judgeReply_fails hb' ht hl' hf]⟩)
        | true => exact .inr (.inr ⟨hl', rfl, by simp [takeReply, judgeReply_succeeds hb' ht hl' hf]⟩)
    · have hd : s.link.busy.all (fun y => decide (y.tag ≠ tag)) = true := by simp [hb, ht]
      exact .inl ⟨by simpa [hb] using hd, by simp [takeReply, judgeReply_discarded (s := s.advance t) hd]⟩

/-- A timeout taken at the end of the 250 ms does what a response past them finds done (R24, R26). -/
theorem execLinkTimeout_due {s : State} {t : Nat} {x : Transaction} (hb : s.link.busy = some x) (hd : x.timer ≤ max s.now t) :
    execLinkTimeout t s = .next (settle (transactionFails x (s.advance t))) := by
  have hb' : (s.advance t).link.busy = some x := hb
  simp [execLinkTimeout, hb', onDue_due (s := s.advance t) (timer := some x.timer) rfl hd]

/-! ### The configuration read -/

/-- All that a check word can do to a read still going on (R172). -/
theorem checkWordComes_cases (t : Nat) (words : List Word16) (probe : Int) (s : State) :
    (∃ d, s.start.readTimer = some d ∧ d < max s.now t ∧
      checkWordComes t words probe s = (readTimesOut (words.take 182) (s.advance d)).advance t) ∨
    ((∀ d, s.start.readTimer = some d → max s.now t ≤ d) ∧
      checkWordComes t words probe s = bringUp (imageOf words) (imagePasses words) probe (s.advance t)) := by
  unfold checkWordComes
  cases h : s.start.readTimer with
  | none => exact .inr ⟨by simp, rfl⟩
  | some d =>
    by_cases hd : d < max s.now t
    · exact .inl ⟨d, rfl, hd, by simp [hd, Config.imageWords]⟩
    · exact .inr ⟨by simpa using Nat.not_lt.mp hd, by simp [hd]⟩

/-- A timeout of the read taken at its own end does what a late check word finds done (R172). -/
theorem execConfigReadTimeout_due {s : State} {t d : Nat} {words : List Word16} (h : s.start.readTimer = some d) (hd : d ≤ max s.now t) :
    execConfigReadTimeout t words s = .next (readTimesOut words (s.advance t)) := by
  have h' : (s.advance t).start.readTimer = some d := h
  simp [execConfigReadTimeout, onDue_due (s := s.advance t) h' hd]

/-! ### Candidates held to the long limit -/

/-- All that the search for an acceptance overdue can find (R1). -/
theorem Filter.heldTo_cases (f : Filter) (level : Bool) (long now : Nat) :
    (∃ b, f.since = some b ∧ f.raw ≠ level ∧ f.raw ≠ f.level ∧ b + long ≤ now ∧ f.heldTo level long now = some (b + long)) ∨
    ((∀ b, f.since = some b → f.raw ≠ level → f.raw ≠ f.level → now < b + long) ∧ f.heldTo level long now = none) := by
  unfold Filter.heldTo
  cases hs : f.since with
  | none => exact .inr ⟨by simp, rfl⟩
  | some b =>
    by_cases h : f.raw ≠ level ∧ f.raw ≠ f.level ∧ b + long ≤ now
    · exact .inl ⟨b, rfl, h.1, h.2.1, h.2.2, by simp [h]⟩
    · refine .inr ⟨fun b' hb' h1 h2 => ?_, by simp [h]⟩
      cases hb'
      by_contra hn
      exact h ⟨h1, h2, Nat.not_lt.mp hn⟩

@[simp] theorem Filter.accept_level (f : Filter) (level : Bool) : (f.accept level).level = level := rfl
@[simp] theorem Filter.accept_raw (f : Filter) (level : Bool) : (f.accept level).raw = f.raw := rfl
@[simp] theorem Filter.accept_since (f : Filter) (level : Bool) : (f.accept level).since = none := rfl

/-- A raw change, whether or not the input was at the level already (R1). -/
theorem Filter.rawChange_eq (f : Filter) (level : Bool) (now : Nat) :
    f.rawChange level now =
      { f with raw := level, since := if f.raw = level then f.since else if level = f.level then none else some now } := by
  unfold Filter.rawChange
  split
  · next h => cases f; simp_all
  · rfl

end Sys2Proof.Machine
end

