-- ==== Sys2Proof/Laws/State.lean ====
section
/-! SUPPORT. The small lemmas of the state's updates: the clock, and the notice sources read after they are written. -/

namespace Sys2Proof.Machine

open Sys2Proof

/-! ### The clock moves and nothing else -/

@[simp] theorem State.advance_pending (s : State) (t : Nat) : (s.advance t).pending = s.pending := rfl
@[simp] theorem State.advance_now (s : State) (t : Nat) : (s.advance t).now = max s.now t := rfl
@[simp] theorem State.advance_start (s : State) (t : Nat) : (s.advance t).start = s.start := rfl
@[simp] theorem State.advance_bay (s : State) (t : Nat) : (s.advance t).bay = s.bay := rfl
@[simp] theorem State.advance_link (s : State) (t : Nat) : (s.advance t).link = s.link := rfl
@[simp] theorem State.advance_faults (s : State) (t : Nat) : (s.advance t).faults = s.faults := rfl
@[simp] theorem State.advance_lamps (s : State) (t : Nat) : (s.advance t).lamps = s.lamps := rfl
@[simp] theorem State.advance_line (s : State) (t : Nat) : (s.advance t).line = s.line := rfl
@[simp] theorem State.advance_peers (s : State) (t : Nat) : (s.advance t).peers = s.peers := rfl
@[simp] theorem State.advance_lead (s : State) (t : Nat) : (s.advance t).lead = s.lead := rfl
@[simp] theorem State.advance_heat (s : State) (t : Nat) : (s.advance t).heat = s.heat := rfl
@[simp] theorem State.advance_supply (s : State) (t : Nat) : (s.advance t).supply = s.supply := rfl
@[simp] theorem State.advance_meter (s : State) (t : Nat) : (s.advance t).meter = s.meter := rfl
@[simp] theorem State.advance_dep (s : State) (t : Nat) : (s.advance t).dep = s.dep := rfl
@[simp] theorem State.advance_notices (s : State) (t : Nat) : (s.advance t).notices = s.notices := rfl
@[simp] theorem State.advance_configured (s : State) (t : Nat) : (s.advance t).configured = s.configured := rfl
@[simp] theorem State.advance_ownNumber (s : State) (t : Nat) : (s.advance t).ownNumber = s.ownNumber := rfl
@[simp] theorem State.advance_identity (s : State) (t : Nat) : (s.advance t).identity = s.identity := rfl
@[simp] theorem State.advance_sessionOpen (s : State) (t : Nat) : (s.advance t).sessionOpen = s.sessionOpen := rfl

/-- A command at a moment that has come puts the clock at that moment. -/
theorem State.advance_of_le {s : State} {t : Nat} (h : s.now ≤ t) : (s.advance t).now = t := by
  simp only [State.advance_now]; omega

/-! ### Notice sources -/

/-- No two sources have one number. -/
theorem Source.number_inj {a b : Source} (h : a.number = b.number) : a = b := by
  cases a <;> cases b <;> first | rfl | exact absurd h (by decide)

theorem Source.number_val_inj {a b : Source} : a.number.val = b.number.val ↔ a = b :=
  ⟨fun h => Source.number_inj (Fin.ext h), fun h => h ▸ rfl⟩

/-- A source written reads as written, and the others as before. -/
theorem Notices.get_set (n : Notices) (src src' : Source) (r : SourceRec) :
    (n.set src r).get src' = if src = src' then r else n.get src' := by
  simp only [Notices.get, Notices.set, Fin.getElem_fin, Vector.getElem_set, Source.number_val_inj]

@[simp] theorem Notices.get_set_self (n : Notices) (src : Source) (r : SourceRec) : (n.set src r).get src = r := by
  simp [Notices.get_set]

theorem Notices.get_set_other {n : Notices} {src src' : Source} {r : SourceRec} (h : src ≠ src') :
    (n.set src r).get src' = n.get src' := by
  simp [Notices.get_set, h]

@[simp] theorem Notices.set_maskAll (n : Notices) (src : Source) (r : SourceRec) : (n.set src r).maskAll = n.maskAll := rfl
@[simp] theorem Notices.set_order (n : Notices) (src : Source) (r : SourceRec) : (n.set src r).order = n.order := rfl
@[simp] theorem Notices.set_stream (n : Notices) (src : Source) (r : SourceRec) : (n.set src r).stream = n.stream := rfl
@[simp] theorem Notices.set_replacement (n : Notices) (src : Source) (r : SourceRec) :
    (n.set src r).replacement = n.replacement := rfl

/-! ### A source's record -/

@[simp] theorem SourceRec.raise_masked (r : SourceRec) (arg : Nat) : (r.raise arg).masked = r.masked := by
  unfold SourceRec.raise; split <;> rfl
@[simp] theorem SourceRec.raise_holding (r : SourceRec) (arg : Nat) : (r.raise arg).holding = r.holding := by
  unfold SourceRec.raise; split <;> rfl
@[simp] theorem SourceRec.raise_taken (r : SourceRec) (arg : Nat) : (r.raise arg).taken = r.taken := by
  unfold SourceRec.raise; split <;> rfl
@[simp] theorem SourceRec.raise_repeatTimer (r : SourceRec) (arg : Nat) : (r.raise arg).repeatTimer = r.repeatTimer := by
  unfold SourceRec.raise; split <;> rfl
@[simp] theorem SourceRec.raise_pending (r : SourceRec) (arg : Nat) : (r.raise arg).pending = true := by
  unfold SourceRec.raise; split <;> simp_all

/-- A raise leaves the newer argument, with the mark exactly if one was already pending (R164). -/
@[simp] theorem SourceRec.raise_inst (r : SourceRec) (arg : Nat) : (r.raise arg).inst = { arg := arg, more := r.pending } := by
  unfold SourceRec.raise; split <;> simp_all

@[simp] theorem SourceRec.begins_masked (r : SourceRec) : r.begins.masked = r.masked := rfl
@[simp] theorem SourceRec.ends_masked (r : SourceRec) : r.ends.masked = r.masked := rfl
@[simp] theorem SourceRec.begins_holding (r : SourceRec) : r.begins.holding = true := rfl
@[simp] theorem SourceRec.ends_holding (r : SourceRec) : r.ends.holding = false := rfl

/-! ### A source's record changed within the state -/

@[simp] theorem modifySource_pending (src : Source) (f : SourceRec → SourceRec) (s : State) :
    (modifySource src f s).pending = s.pending := rfl
@[simp] theorem modifySource_now (src : Source) (f : SourceRec → SourceRec) (s : State) :
    (modifySource src f s).now = s.now := rfl
@[simp] theorem modifySource_start (src : Source) (f : SourceRec → SourceRec) (s : State) :
    (modifySource src f s).start = s.start := rfl
@[simp] theorem modifySource_bay (src : Source) (f : SourceRec → SourceRec) (s : State) :
    (modifySource src f s).bay = s.bay := rfl
@[simp] theorem modifySource_link (src : Source) (f : SourceRec → SourceRec) (s : State) :
    (modifySource src f s).link = s.link := rfl
@[simp] theorem modifySource_faults (src : Source) (f : SourceRec → SourceRec) (s : State) :
    (modifySource src f s).faults = s.faults := rfl
@[simp] theorem modifySource_lamps (src : Source) (f : SourceRec → SourceRec) (s : State) :
    (modifySource src f s).lamps = s.lamps := rfl
@[simp] theorem modifySource_line (src : Source) (f : SourceRec → SourceRec) (s : State) :
    (modifySource src f s).line = s.line := rfl
@[simp] theorem modifySource_peers (src : Source) (f : SourceRec → SourceRec) (s : State) :
    (modifySource src f s).peers = s.peers := rfl
@[simp] theorem modifySource_lead (src : Source) (f : SourceRec → SourceRec) (s : State) :
    (modifySource src f s).lead = s.lead := rfl
@[simp] theorem modifySource_heat (src : Source) (f : SourceRec → SourceRec) (s : State) :
    (modifySource src f s).heat = s.heat := rfl
@[simp] theorem modifySource_supply (src : Source) (f : SourceRec → SourceRec) (s : State) :
    (modifySource src f s).supply = s.supply := rfl
@[simp] theorem modifySource_meter (src : Source) (f : SourceRec → SourceRec) (s : State) :
    (modifySource src f s).meter = s.meter := rfl
@[simp] theorem modifySource_dep (src : Source) (f : SourceRec → SourceRec) (s : State) :
    (modifySource src f s).dep = s.dep := rfl

/-- The changed record, and the others as before. -/
theorem modifySource_get (src src' : Source) (f : SourceRec → SourceRec) (s : State) :
    (modifySource src f s).notices.get src' = if src = src' then f (s.notices.get src') else s.notices.get src' := by
  simp only [modifySource, Notices.get_set]
  split
  · next h => rw [h]
  · rfl

@[simp] theorem raiseEdge_get_self (src : Source) (arg : Nat) (s : State) :
    (raiseEdge src arg s).notices.get src = (s.notices.get src).raise arg := by
  simp [raiseEdge, modifySource_get]

theorem raiseEdge_get_other {src src' : Source} (arg : Nat) (s : State) (h : src ≠ src') :
    (raiseEdge src arg s).notices.get src' = s.notices.get src' := by
  simp [raiseEdge, modifySource_get, h]

end Sys2Proof.Machine
end

