-- ==== Sys2Proof/Laws/Reactions.lean ====
section
/-! SUPPORT. What each reaction can do, and what the end of an event leaves behind (Reacted of Safety.lean): one lemma for each
operation that settle is made of, and settle's own. -/

namespace Sys2Proof.Machine

open Sys2Proof

theorem Reacted.refl (s : State) : Reacted s s where
  pending := rfl
  now := rfl
  start := rfl
  bay := rfl
  linkState := rfl
  failureRun := rfl
  cache := rfl
  passTimer := rfl
  line := rfl
  inFlight := rfl
  supply := rfl
  overdrawRun := rfl
  probe := rfl
  probeTimer := rfl
  claimTimer := rfl
  heaterFault := rfl
  weakFound := rfl
  drawn := Nat.le_refl _
  dep := rfl
  rests := fun _ => rfl
  moves := fun h => h
  figure := rfl
  retention := rfl
  masks := fun _ => rfl
  maskAll := rfl
  order := rfl
  stream := rfl
  replacement := rfl

theorem Reacted.trans {a b c : State} (h : Reacted a b) (k : Reacted b c) : Reacted a c where
  pending := k.pending.trans h.pending
  now := k.now.trans h.now
  start := k.start.trans h.start
  bay := by rw [k.bay, h.bay]
  linkState := k.linkState.trans h.linkState
  failureRun := k.failureRun.trans h.failureRun
  cache := k.cache.trans h.cache
  passTimer := k.passTimer.trans h.passTimer
  line := by rw [k.line, h.line]
  inFlight := k.inFlight.trans h.inFlight
  supply := k.supply.trans h.supply
  overdrawRun := k.overdrawRun.trans h.overdrawRun
  probe := k.probe.trans h.probe
  probeTimer := k.probeTimer.trans h.probeTimer
  claimTimer := k.claimTimer.trans h.claimTimer
  heaterFault := k.heaterFault.trans h.heaterFault
  weakFound := k.weakFound.trans h.weakFound
  drawn := Nat.le_trans k.drawn h.drawn
  dep := by rw [k.dep, h.dep]
  rests := fun r => by
    have e := h.rests r
    rw [k.rests (by rw [e]; exact r), e]
  moves := fun m => k.moves (h.moves m)
  figure := k.figure.trans h.figure
  retention := k.retention.trans h.retention
  masks := fun src => (k.masks src).trans (h.masks src)
  maskAll := k.maskAll.trans h.maskAll
  order := k.order.trans h.order
  stream := k.stream.trans h.stream
  replacement := k.replacement.trans h.replacement

/-- Lamps changed only. -/
theorem Reacted.withLamps {a s : State} (h : Reacted a s) (l : Lamps) : Reacted a { s with lamps := l } :=
  h.trans { Reacted.refl s with }

/-- The link changed only in what it asks, its pass and its poll timer. -/
theorem Reacted.withLink {a s : State} (h : Reacted a s) (l : Link) (state : l.state = s.link.state := by rfl)
    (run : l.failureRun = s.link.failureRun := by rfl) (cache : l.cache = s.link.cache := by rfl) (timer : l.passTimer = s.link.passTimer := by rfl) :
    Reacted a { s with link := l } :=
  h.trans { Reacted.refl s with linkState := state, failureRun := run, cache := cache, passTimer := timer }

/-- The fault list changed, with its figure and retention mode as they were. -/
theorem Reacted.withFaults {a s : State} (h : Reacted a s) (f : Faults) (figure : f.figure = s.faults.figure := by rfl)
    (retention : f.retention = s.faults.retention := by rfl) : Reacted a { s with faults := f } :=
  h.trans { Reacted.refl s with figure := figure, retention := retention }

/-- The heat record changed, with drawn no higher and what only a round or a window changes as it was. -/
theorem Reacted.withHeat {a s : State} (h : Reacted a s) (x : Heat) (timer : x.claimTimer = s.heat.claimTimer := by rfl)
    (fault : x.heaterFault = s.heat.heaterFault := by rfl) (weak : x.weakFound = s.heat.weakFound := by rfl) (drawn : x.drawn ≤ s.heat.drawn := by exact Nat.le_refl _) :
    Reacted a { s with heat := x } :=
  h.trans { Reacted.refl s with claimTimer := timer, heaterFault := fault, weakFound := weak, drawn := drawn }

/-- The lead record changed, with the probe as it was. -/
theorem Reacted.withLead {a s : State} (h : Reacted a s) (x : Lead) (probe : x.probe = s.lead.probe := by rfl)
    (timer : x.probeTimer = s.lead.probeTimer := by rfl) : Reacted a { s with lead := x } :=
  h.trans { Reacted.refl s with probe := probe, probeTimer := timer }

/-- The peer table changed only. -/
theorem Reacted.withPeers {a s : State} (h : Reacted a s) (p : Peers) : Reacted a { s with peers := p } :=
  h.trans { Reacted.refl s with }

/-! ### Notices -/

theorem Reacted.modifySource {a s : State} (h : Reacted a s) (src : Source) (f : SourceRec → SourceRec)
    (hf : ∀ r, (f r).masked = r.masked) : Reacted a (Machine.modifySource src f s) :=
  h.trans { Reacted.refl s with masks := fun src' => by rw [modifySource_get]; split <;> simp [hf] }

theorem Reacted.raiseEdge {a s : State} (h : Reacted a s) (src : Source) (arg : Nat) :
    Reacted a (Machine.raiseEdge src arg s) :=
  h.modifySource src _ fun r => SourceRec.raise_masked r arg

theorem Reacted.giveCondition {a s : State} (h : Reacted a s) (src : Source) : Reacted a (Machine.giveCondition src s) := by
  unfold Machine.giveCondition
  split
  · exact h
  · split
    · exact h.modifySource src _ fun _ => rfl
    · exact h.modifySource src _ fun _ => rfl

theorem Reacted.giveConditions {a s : State} (h : Reacted a s) : Reacted a (Machine.giveConditions s) :=
  (((((h.giveCondition _).giveCondition _).giveCondition _).giveCondition _).giveCondition _).giveCondition _

/-! ### Claims made due -/

theorem Reacted.makeDepartDue {a s : State} (h : Reacted a s) : Reacted a (Machine.makeDepartDue s) := by
  unfold Machine.makeDepartDue
  split
  · exact h.trans { Reacted.refl s with
      line := rfl
      inFlight := by
        cases s.line.inFlight with
        | none => rfl
        | some f => simp only [Option.map_some]; congr 1; split <;> rfl }
  · exact h

theorem Reacted.makeHeatDue {a s : State} (h : Reacted a s) : Reacted a (Machine.makeHeatDue s) := by
  unfold Machine.makeHeatDue
  split
  · exact h.trans { Reacted.refl s with
      line := rfl
      inFlight := by
        cases s.line.inFlight with
        | none => rfl
        | some f => simp only [Option.map_some]; congr 1; split <;> rfl }
  · exact h

/-! ### The link's requests, the pass and the fault list -/

theorem Reacted.raiseTemp {a s : State} (h : Reacted a s) : Reacted a (Machine.raiseTemp s) := by
  unfold Machine.raiseTemp
  split
  · exact h.withLink _
  · exact h

theorem Reacted.raiseFaultNext {a s : State} (h : Reacted a s) (cursor : Nat) :
    Reacted a (Machine.raiseFaultNext cursor s) := by
  unfold Machine.raiseFaultNext
  split
  · exact h.withLink _
  · exact h

theorem Reacted.startPass {a s : State} (h : Reacted a s) : Reacted a (Machine.startPass s) := by
  unfold Machine.startPass
  split
  · exact ((h.withFaults s.faults.beginPass).withLink _).raiseFaultNext 0
  · exact h

theorem Faults.take_keeps (f : Faults) (o : Offer) (sec : Nat) :
    (f.take o sec).1.figure = f.figure ∧ (f.take o sec).1.retention = f.retention := by
  unfold Faults.take
  dsimp only
  split
  · exact ⟨rfl, rfl⟩
  split
  · exact ⟨rfl, rfl⟩
  split
  · exact ⟨rfl, rfl⟩
  split <;> exact ⟨rfl, by simp_all⟩

theorem Reacted.offerFault {a s : State} (h : Reacted a s) (o : Offer) : Reacted a (Machine.offerFault o s) := by
  unfold Machine.offerFault
  dsimp only
  have k := Faults.take_keeps s.faults o s.uptime
  split
  · split
    · exact (h.withFaults { (s.faults.take o s.uptime).1 with blockingLost := true } k.1 k.2).raiseEdge _ _
    · exact h.withFaults _ k.1 k.2
  · exact h

/-! ### The lamp checker -/

theorem Reacted.openFeed {a s : State} (h : Reacted a s) : Reacted a (Machine.openFeed s) := h.withLamps _
theorem Reacted.stopStepTimers {a s : State} (h : Reacted a s) : Reacted a (Machine.stopStepTimers s) := h.withLamps _
theorem Reacted.disownLampSets {a s : State} (h : Reacted a s) : Reacted a (Machine.disownLampSets s) :=
  h.withLink _
theorem Reacted.clearMarks {a s : State} (h : Reacted a s) : Reacted a (Machine.clearMarks s) := h.withLamps _

theorem Reacted.recordVerdict {a s : State} (h : Reacted a s) (n : Nat) (v : Verdict) (current : Nat) :
    Reacted a (Machine.recordVerdict n v current s) := by
  unfold Machine.recordVerdict
  dsimp only
  split
  · exact h.withLamps _
  · split
    · exact (h.withLamps _).offerFault _
    · exact h.withLamps _

theorem Reacted.recordIncomplete {a : State} (left : Nat) :
    ∀ {s : State} (n : Nat), Reacted a s → Reacted a (Machine.recordIncomplete left n s) := by
  induction left with
  | zero => exact fun _ h => h
  | succ left ih => exact fun n h => ih (n + 1) (h.recordVerdict n .incomplete 0)

theorem Reacted.completeCheck {a s : State} (h : Reacted a s) : Reacted a (Machine.completeCheck s) :=
  (h.withLamps _).raiseEdge _ _

theorem Reacted.endCheckIncomplete {a s : State} (h : Reacted a s) : Reacted a (Machine.endCheckIncomplete s) := by
  unfold Machine.endCheckIncomplete
  split
  · exact (Reacted.recordIncomplete _ _ (h.openFeed.stopStepTimers.disownLampSets.withLamps _)).clearMarks.completeCheck
  · exact h

theorem Reacted.abandonCheck {a s : State} (h : Reacted a s) : Reacted a (Machine.abandonCheck s) := by
  unfold Machine.abandonCheck
  split
  · exact h.openFeed.stopStepTimers.disownLampSets.clearMarks.withLamps _
  · exact h

theorem Reacted.placeLampSet {a s : State} (h : Reacted a s) (channel : Nat) (on live : Bool) :
    Reacted a (Machine.placeLampSet channel on live s) := h.withLink _

theorem Reacted.raiseLampSet {a s : State} (h : Reacted a s) (channel : Nat) (on : Bool) :
    Reacted a (Machine.raiseLampSet channel on s) := by
  unfold Machine.raiseLampSet
  split
  · exact h.placeLampSet _ _ _
  · split
    · exact h.endCheckIncomplete
    · exact h.abandonCheck

theorem Reacted.enterClearOff {a s : State} (h : Reacted a s) (channel : Nat) : Reacted a (Machine.enterClearOff channel s) :=
  (h.withLamps _).raiseLampSet _ _

theorem Reacted.enterFeedOn {a s : State} (h : Reacted a s) : Reacted a (Machine.enterFeedOn s) := by
  unfold Machine.enterFeedOn
  split
  · exact (h.withLamps _).raiseLampSet _ _
  · exact h

theorem Reacted.enterSwitchOff {a s : State} (h : Reacted a s) : Reacted a (Machine.enterSwitchOff s) := by
  unfold Machine.enterSwitchOff
  split
  · exact (h.withLamps _).raiseLampSet _ _
  · exact h

theorem Reacted.startStep {a s : State} (h : Reacted a s) : Reacted a (Machine.startStep s) := by
  unfold Machine.startStep
  split
  · exact h.enterSwitchOff
  · dsimp only
    split
    · exact (h.withLamps _).enterClearOff _
    · exact (h.withLamps _).enterFeedOn

theorem Reacted.beginStep {a s : State} (h : Reacted a s) : Reacted a (Machine.beginStep s) := by
  unfold Machine.beginStep
  split
  · exact h.withLamps _
  · exact h.startStep

theorem Reacted.startCheck {a s : State} (h : Reacted a s) : Reacted a (Machine.startCheck s) := by
  unfold Machine.startCheck
  split
  · dsimp only
    split
    · exact ((h.withFaults s.faults.inactivateLamps).withLamps _).clearMarks.completeCheck
    · exact ((h.withFaults s.faults.inactivateLamps).withLamps _).clearMarks.beginStep
  · exact h

/-! ### The peer table and the lead -/

theorem Reacted.deriveLatest {a s : State} (h : Reacted a s) : Reacted a (Machine.deriveLatest s) := h.withLead _

theorem Reacted.leadFromInputs {a s : State} (h : Reacted a s) : Reacted a (Machine.leadFromInputs s) := by
  unfold Machine.leadFromInputs
  split
  · split <;> exact h.withLead _
  · exact h

theorem Reacted.readPeers {a s : State} (h : Reacted a s) : Reacted a (Machine.readPeers s) := by
  unfold Machine.readPeers
  dsimp only
  split
  · exact h.withPeers _
  · exact (h.withPeers _).leadFromInputs.deriveLatest

theorem Reacted.recomputeLead {a s : State} (h : Reacted a s) : Reacted a (Machine.recomputeLead s) :=
  h.readPeers.leadFromInputs.deriveLatest

/-! ### The heat controller -/

/-- Drawn put no higher than it stands. -/
theorem Reacted.setDrawn {a s : State} (h : Reacted a s) {n : Nat} (le : n ≤ s.heat.drawn) :
    Reacted a (Machine.setDrawn n s) := by
  unfold Machine.setDrawn
  split
  · exact h
  · exact (h.withHeat { s.heat with drawn := n } (drawn := le)).trans { Reacted.refl _ with }

theorem Reacted.dropAll {a s : State} (h : Reacted a s) : Reacted a (Machine.dropAll s) :=
  (h.setDrawn (Nat.zero_le _)).withHeat _

theorem Reacted.startPoll {a s : State} (h : Reacted a s) : Reacted a (Machine.startPoll s) :=
  h.raiseTemp.withLink _

theorem Reacted.stopPoll {a s : State} (h : Reacted a s) : Reacted a (Machine.stopPoll s) := h.withLink _

theorem Reacted.clearAtTarget {a s : State} (h : Reacted a s) : Reacted a (Machine.clearAtTarget s) :=
  h.withHeat _

theorem Reacted.setAtTarget {a s : State} (h : Reacted a s) (reading target : Int) :
    Reacted a (Machine.setAtTarget reading target s) := h.withHeat _

theorem Reacted.updateCalled {a s : State} (h : Reacted a s) : Reacted a (Machine.updateCalled s) := by
  unfold Machine.updateCalled
  have k : Reacted a { s with heat := { s.heat with called := true } } := h.withHeat _
  split
  · dsimp only
    split
    · split
      · exact k.setAtTarget _ _
      · exact k
    · exact k
  · exact h

/-- What a heat state brings on entry, before the claim falls due. -/
theorem Reacted.enterHeatState {a s : State} (h : Reacted a s) (new : HeatState) :
    Reacted a (Machine.enterHeatState new s) := by
  unfold Machine.enterHeatState
  split
  · exact h
  · dsimp only
    have k : Reacted a { s with heat := { s.heat with
        state := new, starvedRound := if s.heat.state = .starved then false else s.heat.starvedRound } } :=
      h.withHeat _
    apply Reacted.makeHeatDue
    cases new
    case off =>
      dsimp only
      have m := (k.dropAll.withHeat { (Machine.dropAll { s with heat := { s.heat with
        state := .off, starvedRound := if s.heat.state = .starved then false else s.heat.starvedRound } }).heat
        with called := false }).clearAtTarget.stopPoll
      split
      · exact m.startPoll
      · exact m
    case shed => dsimp only; split; exact k.dropAll.startPoll; exact k.dropAll
    case fault => dsimp only; split; exact k.dropAll.startPoll; exact k.dropAll
    all_goals dsimp only; split; exact k.startPoll; exact k

theorem Reacted.updateWanted {a s : State} (h : Reacted a s) : Reacted a (Machine.updateWanted s) := by
  unfold Machine.updateWanted
  have k : Reacted a { s with heat := { s.heat with wanted := s.wantedNow } } := h.withHeat _
  dsimp only
  split
  · next lt => exact k.setDrawn (Nat.le_of_lt lt)
  · exact k

theorem Reacted.evalHeat {a s : State} (h : Reacted a s) : Reacted a (Machine.evalHeat s) :=
  (h.updateCalled.enterHeatState _).updateWanted

/-! ### Clearance -/

/-- A move between the states the tests move. -/
theorem Reacted.changeDep {a s : State} (h : Reacted a s) {d : DepState} (hd : d.moves = true)
    (hs : s.dep.state.moves = true) : Reacted a (Machine.changeDep d s) := by
  unfold Machine.changeDep
  split
  · exact h
  · have e : s.dep.state ≠ .holding := by intro e; rw [e] at hs; exact absurd hs (by decide)
    have k : Reacted s { s with dep := { s.dep with
        state := d,
        settleTimer := if s.dep.state = .settling then none else s.dep.settleTimer,
        key := if s.dep.state = .settling then none else s.dep.key,
        releaseTimer := if s.dep.state = .holding then none else s.dep.releaseTimer } } :=
      { Reacted.refl s with
        dep := by simp [e]
        rests := fun r => by rw [hs] at r; cases r
        moves := fun _ => hd }
    exact (h.trans k).makeDepartDue

theorem Reacted.clearanceMove {a s : State} (h : Reacted a s) : Reacted a (Machine.clearanceMove s) := by
  unfold Machine.clearanceMove
  split
  · next e =>
      split
      · exact h.changeDep rfl (by rw [e]; rfl)
      · exact h
  · next e =>
      split
      · exact h.changeDep rfl (by rw [e]; rfl)
      · split
        · split
          · exact h.changeDep rfl (by rw [e]; rfl)
          · exact h
        · exact h
  · next e =>
      split
      · exact h.changeDep rfl (by rw [e]; rfl)
      · split
        · exact h.changeDep rfl (by rw [e]; rfl)
        · exact h
  · exact h

theorem Reacted.clearanceTests {a s : State} (h : Reacted a s) : Reacted a (Machine.clearanceTests s) :=
  h.clearanceMove.clearanceMove.clearanceMove

theorem Reacted.leaveReady {a s : State} (h : Reacted a s) : Reacted a (Machine.leaveReady s) := by
  unfold Machine.leaveReady
  split
  · next e => exact h.changeDep rfl (by rw [e.1]; rfl)
  · exact h

/-! ### The link's arbitration, and the whole -/

theorem Link.beginTransaction_keeps (l : Link) (r : Request) (live : Bool) (now : Nat) :
    (l.beginTransaction r live now).state = l.state ∧ (l.beginTransaction r live now).failureRun = l.failureRun ∧
    (l.beginTransaction r live now).cache = l.cache ∧ (l.beginTransaction r live now).passTimer = l.passTimer := by
  cases r <;> exact ⟨rfl, rfl, rfl, rfl⟩

theorem Reacted.arbitrate {a s : State} (h : Reacted a s) : Reacted a (Machine.arbitrate s) := by
  unfold Machine.arbitrate
  split
  · exact h
  · split
    · exact h
    · next r live _ =>
        have b := Link.beginTransaction_keeps s.link r live s.now
        have k := h.withLink _ b.1 b.2.1 b.2.2.1 b.2.2.2
        dsimp only
        split
        · exact k.withLamps _
        · exact k

theorem Reacted.react {a s : State} (h : Reacted a s) : Reacted a (Machine.react s) :=
  h.startPass.startCheck.readPeers.deriveLatest.evalHeat.clearanceTests

theorem Reacted.driveHead {a s : State} (h : Reacted a s) : Reacted a (Machine.driveHead s) :=
  h.trans { Reacted.refl s with bay := rfl }

/-- The end of an event is reactions only. -/
theorem Reacted.settle {a s : State} (h : Reacted a s) : Reacted a (Machine.settle s) :=
  h.react.react.startPass.arbitrate.giveConditions.driveHead

/-- What an event leaves when its own effect has given `s`. -/
theorem settle_reacted (s : State) : Reacted s (settle s) := (Reacted.refl s).settle

end Sys2Proof.Machine
end

