-- ==== Sys2Proof/Laws/Settle.lean ====
section
/-! SUPPORT. What the end of every event leaves true: the signal head (R18), the heat state (R123), the conditions of the notice sources
(R165) and the conditions of SETTLING (R151, R153). -/

namespace Sys2Proof.Machine

open Sys2Proof

/-! ### Values that reactions cannot move -/

theorem DepState.heats_eq_moves (d : DepState) : d.heats = d.moves := by cases d <;> rfl

theorem Reacted.occupancy {a b : State} (h : Reacted a b) : b.bay.occupancy = a.bay.occupancy := by rw [h.bay]
theorem Reacted.session {a b : State} (h : Reacted a b) : b.bay.session = a.bay.session := by rw [h.bay]
theorem Reacted.identity {a b : State} (h : Reacted a b) : b.identity = a.identity := by
  unfold State.identity; rw [h.session]
theorem Reacted.sessionOpen {a b : State} (h : Reacted a b) : b.sessionOpen = a.sessionOpen := by
  unfold State.sessionOpen; rw [h.identity]
theorem Reacted.figures {a b : State} (h : Reacted a b) : b.figures = a.figures := by
  unfold State.figures; rw [h.identity, h.start]
theorem Reacted.pluggedForHeat {a b : State} (h : Reacted a b) : b.pluggedForHeat = a.pluggedForHeat := by
  unfold State.pluggedForHeat; rw [h.occupancy]
theorem Reacted.configured {a b : State} (h : Reacted a b) : b.configured = a.configured := by
  unfold State.configured; rw [h.start]
theorem Reacted.ownNumber {a b : State} (h : Reacted a b) : b.ownNumber = a.ownNumber := by
  unfold State.ownNumber; rw [h.start]
theorem Reacted.status {a b : State} (h : Reacted a b) : b.line.status = a.line.status := by rw [h.line]
theorem Reacted.conflict {a b : State} (h : Reacted a b) : b.line.conflict = a.line.conflict := by rw [h.line]
theorem Reacted.lineFault {a b : State} (h : Reacted a b) : b.lineFault = a.lineFault := by
  unfold State.lineFault; rw [h.status]
theorem Reacted.lineConditions {a b : State} (h : Reacted a b) : b.lineConditions = a.lineConditions := by
  unfold State.lineConditions; rw [h.lineFault, h.conflict]
theorem Reacted.hold {a b : State} (h : Reacted a b) : b.dep.hold = a.dep.hold := by rw [h.dep]
theorem Reacted.assignment {a b : State} (h : Reacted a b) : b.dep.assignment = a.dep.assignment := by rw [h.dep]
theorem Reacted.countdown {a b : State} (h : Reacted a b) : b.dep.countdown = a.dep.countdown := by rw [h.dep]

/-- Reactions stay among the departure states that count for heat, or outside them. -/
theorem Reacted.heats {a b : State} (h : Reacted a b) : b.dep.state.heats = a.dep.state.heats := by
  rw [DepState.heats_eq_moves, DepState.heats_eq_moves]
  cases m : a.dep.state.moves with
  | true => exact h.moves m
  | false => rw [h.rests m]; exact m

theorem Reacted.offCondition {a b : State} (h : Reacted a b) : b.offCondition = a.offCondition := by
  unfold State.offCondition
  rw [h.start, h.pluggedForHeat, h.sessionOpen, h.heats, h.configured, h.lineFault, h.conflict]

/-- With the heat record as it was, reactions leave the test of R123 as it was. -/
theorem Reacted.heatTest {a b : State} (h : Reacted a b) (e : b.heat = a.heat) : b.heatTest = a.heatTest := by
  unfold State.heatTest
  rw [h.offCondition, h.supply, e]

/-! ### The signal head (R18) -/

theorem driveHead_headRight (s : State) : (driveHead s).headRight := rfl

/-- An event's end, in its last steps over the reactions before them. -/
theorem settle_eq (s : State) : settle s = driveHead (giveConditions (arbitrate (startPass (react (react s))))) := rfl

/-- One round of reactions ends with clearance's tests over the heat state taken afresh. -/
theorem react_eq (s : State) :
    react s = clearanceTests (evalHeat (deriveLatest (readPeers (startCheck (startPass s))))) := rfl

theorem settle_headRight (s : State) : (settle s).headRight := driveHead_headRight _

@[simp] theorem driveHead_heat (s : State) : (driveHead s).heat = s.heat := rfl
@[simp] theorem driveHead_dep (s : State) : (driveHead s).dep = s.dep := rfl
@[simp] theorem driveHead_notices (s : State) : (driveHead s).notices = s.notices := rfl
@[simp] theorem driveHead_link (s : State) : (driveHead s).link = s.link := rfl
@[simp] theorem driveHead_lamps (s : State) : (driveHead s).lamps = s.lamps := rfl
@[simp] theorem driveHead_faults (s : State) : (driveHead s).faults = s.faults := rfl
@[simp] theorem driveHead_peers (s : State) : (driveHead s).peers = s.peers := rfl
@[simp] theorem driveHead_lead (s : State) : (driveHead s).lead = s.lead := rfl
@[simp] theorem driveHead_meter (s : State) : (driveHead s).meter = s.meter := rfl

theorem driveHead_conditionHolds (src : Source) (s : State) : (driveHead s).conditionHolds src = s.conditionHolds src := by
  cases src <;> rfl

/-! ### The heat state (R123) -/

theorem setDrawn_heat (n : Nat) (s : State) : (setDrawn n s).heat = { s.heat with drawn := n } := by
  unfold setDrawn
  split
  · next h => rw [h]
  · rfl

@[simp] theorem raiseTemp_heat (s : State) : (raiseTemp s).heat = s.heat := by unfold raiseTemp; split <;> rfl
@[simp] theorem startPoll_heat (s : State) : (startPoll s).heat = s.heat := by simp [startPoll]
@[simp] theorem stopPoll_heat (s : State) : (stopPoll s).heat = s.heat := rfl
@[simp] theorem makeHeatDue_heat (s : State) : (makeHeatDue s).heat = s.heat := by unfold makeHeatDue; split <;> rfl
@[simp] theorem makeDepartDue_heat (s : State) : (makeDepartDue s).heat = s.heat := by unfold makeDepartDue; split <;> rfl

theorem dropAll_heat (s : State) :
    (dropAll s).heat = { s.heat.overrule 0 with drawn := 0, grant := 0, intended := 0 } := by
  simp [dropAll, setDrawn_heat, Heat.overrule]

/-- What an entry leaves of the record R123 reads: nothing in a state that draws nothing has a grant, OFF forgets the marks, and the
other states keep the whole. -/
theorem enterHeatState_heat (new : HeatState) (s : State) :
    (enterHeatState new s).heat.state = new ∧
    (enterHeatState new s).heat.heaterFault = s.heat.heaterFault ∧
    (new ≠ .off → (enterHeatState new s).heat.called = s.heat.called ∧
      (enterHeatState new s).heat.atTarget = s.heat.atTarget) ∧
    (HeatState.drawsNothing new = false → (enterHeatState new s).heat.grant = s.heat.grant) := by
  unfold enterHeatState
  split
  · next h => exact ⟨h.symm, rfl, fun _ => ⟨rfl, rfl⟩, fun _ => rfl⟩
  · cases new <;> dsimp only <;> split <;>
      simp [dropAll_heat, clearAtTarget, HeatState.drawsNothing, Heat.overrule]

theorem updateWanted_heat (s : State) :
    (updateWanted s).heat = { s.heat with wanted := s.wantedNow, drawn := min s.wantedNow s.heat.drawn } := by
  unfold updateWanted
  dsimp only
  split
  · next h => rw [setDrawn_heat]; simp [Nat.min_eq_left (Nat.le_of_lt h)]
  · next h => simp [Nat.min_eq_right (Nat.le_of_not_lt h)]

/-- The heat state given afresh is the one R123's table gives (R123). -/
theorem evalHeat_state (s : State) : (evalHeat s).heat.state = (evalHeat s).heatTest := by
  have r : Reacted (updateCalled s) (evalHeat s) := ((Reacted.refl _).enterHeatState _).updateWanted
  have e := enterHeatState_heat (updateCalled s).heatTest (updateCalled s)
  have w : (evalHeat s).heat = _ := updateWanted_heat (enterHeatState (updateCalled s).heatTest (updateCalled s))
  have hs : (evalHeat s).heat.state = (updateCalled s).heatTest := by rw [w]; exact e.1
  have hf : (evalHeat s).heat.heaterFault = (updateCalled s).heat.heaterFault := by rw [w]; exact e.2.1
  have hc : (evalHeat s).heat.called = (enterHeatState (updateCalled s).heatTest (updateCalled s)).heat.called := by rw [w]
  have ha : (evalHeat s).heat.atTarget = (enterHeatState (updateCalled s).heatTest (updateCalled s)).heat.atTarget := by rw [w]
  have hg : (evalHeat s).heat.grant = (enterHeatState (updateCalled s).heatTest (updateCalled s)).heat.grant := by rw [w]
  rw [hs]
  generalize hu : updateCalled s = u at *
  have ho : (evalHeat s).offCondition = u.offCondition := r.offCondition
  have hp : (evalHeat s).supply.sag = u.supply.sag := by rw [r.supply]
  unfold State.heatTest at e hc ha hg ⊢
  rw [ho, hp, hf, hc, ha, hg]
  by_cases c1 : u.offCondition = true
  · simp [c1]
  · simp only [c1] at e ⊢
    by_cases c2 : u.heat.heaterFault = true
    · simp [c2]
    · simp only [c2] at e ⊢
      by_cases c3 : u.heat.called = true
      · by_cases c4 : u.supply.sag = true
        · simp_all
        · by_cases c5 : u.heat.atTarget = true
          · simp_all
          · by_cases c6 : 0 < u.heat.grant <;> simp_all [HeatState.drawsNothing]
      · simp_all

theorem changeDep_heat (d : DepState) (s : State) : (changeDep d s).heat = s.heat := by
  unfold changeDep; split <;> simp

theorem clearanceMove_heat (s : State) : (clearanceMove s).heat = s.heat := by
  unfold clearanceMove
  split
  · split <;> simp [changeDep_heat]
  · split
    · simp [changeDep_heat]
    · split
      · split <;> simp [changeDep_heat]
      · rfl
  · split
    · simp [changeDep_heat]
    · split <;> simp [changeDep_heat]
  · rfl

theorem clearanceTests_heat (s : State) : (clearanceTests s).heat = s.heat := by
  simp [clearanceTests, clearanceMove_heat]

theorem raiseFaultNext_heat (cursor : Nat) (s : State) : (raiseFaultNext cursor s).heat = s.heat := by
  unfold raiseFaultNext; split <;> rfl

theorem startPass_heat (s : State) : (startPass s).heat = s.heat := by
  unfold startPass; split
  · rw [raiseFaultNext_heat]
  · rfl

theorem arbitrate_heat (s : State) : (arbitrate s).heat = s.heat := by
  unfold arbitrate
  split
  · rfl
  · split
    · rfl
    · dsimp only; split <;> rfl

theorem giveCondition_heat (src : Source) (s : State) : (giveCondition src s).heat = s.heat := by
  unfold giveCondition
  split
  · rfl
  · split <;> rfl

theorem giveConditions_heat (s : State) : (giveConditions s).heat = s.heat := by
  simp [giveConditions, giveCondition_heat]

/-- After every event that ends in reactions the heat state is the one R123's table gives. -/
theorem settle_heat (s : State) : (settle s).heat.state = (settle s).heatTest := by
  have r : Reacted (evalHeat (deriveLatest (readPeers (startCheck (startPass (react s)))))) (settle s) :=
    (Reacted.refl _).clearanceTests.startPass.arbitrate.giveConditions.driveHead
  have e : (settle s).heat = (evalHeat (deriveLatest (readPeers (startCheck (startPass (react s)))))).heat := by
    rw [settle_eq, driveHead_heat, giveConditions_heat, arbitrate_heat, startPass_heat, react_eq (react s),
      clearanceTests_heat]
  rw [r.heatTest e, e]
  exact evalHeat_state _

/-! ### The conditions of the notice sources (R165) -/

/-- The condition sources in the order in which their owners give them. -/
def conditionSources : List Source :=
  [.linkLost, .identityMismatch, .blockingFault, .addressConflict, .heatStarved, .supplySag]

theorem giveCondition_holds (src src' : Source) (s : State) :
    (giveCondition src s).conditionHolds src' = s.conditionHolds src' := by
  unfold giveCondition
  split
  · rfl
  · split <;> rfl

/-- A condition given is the condition that holds; the others stand as last given. -/
theorem giveCondition_get (src src' : Source) (s : State) :
    ((giveCondition src s).notices.get src').holding =
      if src = src' then s.conditionHolds src else (s.notices.get src').holding := by
  unfold giveCondition
  split
  · next h => split
              · next e => rw [← e, h]
              · rfl
  · next h =>
      split
      · next t => rw [modifySource_get]; split <;> simp_all
      · next t => rw [modifySource_get]; split <;> simp_all

theorem giveConditions_get (src : Source) (s : State) (h : src.isCondition = true) :
    ((giveConditions s).notices.get src).holding = (giveConditions s).conditionHolds src := by
  cases src <;> first
    | exact absurd h (by decide)
    | simp [giveConditions, giveCondition_get, giveCondition_holds]

/-- After every event that ends in reactions each condition source holds exactly what its owner gives (R165). -/
theorem settle_conditions (s : State) (src : Source) (h : src.isCondition = true) :
    ((settle s).notices.get src).holding = (settle s).conditionHolds src := by
  rw [settle_eq, driveHead_notices, giveConditions_get src _ h, driveHead_conditionHolds]

/-! ### SETTLING (R151, R153) -/

theorem makeDepartDue_state (s : State) : (makeDepartDue s).dep.state = s.dep.state := by
  unfold makeDepartDue; split <;> rfl

theorem makeDepartDue_parts (s : State) :
    (makeDepartDue s).faults = s.faults ∧ (makeDepartDue s).lamps = s.lamps ∧ (makeDepartDue s).lead = s.lead ∧
    (makeDepartDue s).peers = s.peers ∧ (makeDepartDue s).bay = s.bay ∧ (makeDepartDue s).start = s.start := by
  unfold makeDepartDue; split <;> exact ⟨rfl, rfl, rfl, rfl, rfl, rfl⟩

theorem changeDep_state (d : DepState) (s : State) : (changeDep d s).dep.state = d := by
  unfold changeDep
  split
  · next h => exact h.symm
  · exact makeDepartDue_state _

theorem makeDepartDue_departSlot {s : State} (h : s.configured = true) : (makeDepartDue s).line.departSlot = true := by
  unfold makeDepartDue
  rw [if_pos h]

/-- READY that loses the coach conditions is ASSIGNED, with a DEPART_CLAIM due (R150, R161). -/
theorem leaveReady_claims {s : State} (ready : s.dep.state = .ready) (lost : s.coachConditions = false)
    (configured : s.configured = true) :
    (leaveReady s).dep.state = .assigned ∧ (leaveReady s).line.departSlot = true := by
  unfold leaveReady
  rw [if_pos ⟨ready, lost⟩]
  refine ⟨changeDep_state _ s, ?_⟩
  unfold changeDep
  rw [if_neg (by rw [ready]; decide)]
  exact makeDepartDue_departSlot configured

theorem changeDep_parts (d : DepState) (s : State) :
    (changeDep d s).faults = s.faults ∧ (changeDep d s).lamps = s.lamps ∧ (changeDep d s).lead = s.lead ∧
    (changeDep d s).peers = s.peers ∧ (changeDep d s).bay = s.bay ∧ (changeDep d s).start = s.start := by
  unfold changeDep
  split
  · exact ⟨rfl, rfl, rfl, rfl, rfl, rfl⟩
  · exact makeDepartDue_parts _

theorem clearanceMove_parts (s : State) :
    (clearanceMove s).faults = s.faults ∧ (clearanceMove s).lamps = s.lamps ∧ (clearanceMove s).lead = s.lead ∧
    (clearanceMove s).peers = s.peers := by
  have c := fun d => changeDep_parts d s
  unfold clearanceMove
  split
  · split
    · exact ⟨(c _).1, (c _).2.1, (c _).2.2.1, (c _).2.2.2.1⟩
    · exact ⟨rfl, rfl, rfl, rfl⟩
  · split
    · exact ⟨(c _).1, (c _).2.1, (c _).2.2.1, (c _).2.2.2.1⟩
    · split
      · split
        · exact ⟨(c _).1, (c _).2.1, (c _).2.2.1, (c _).2.2.2.1⟩
        · exact ⟨rfl, rfl, rfl, rfl⟩
      · exact ⟨rfl, rfl, rfl, rfl⟩
  · split
    · exact ⟨(c _).1, (c _).2.1, (c _).2.2.1, (c _).2.2.2.1⟩
    · split
      · exact ⟨(c _).1, (c _).2.1, (c _).2.2.1, (c _).2.2.2.1⟩
      · exact ⟨rfl, rfl, rfl, rfl⟩
  · exact ⟨rfl, rfl, rfl, rfl⟩

/-- The coach conditions read nothing that reactions move but the sheet, the fault condition, the lead and the heat state. -/
theorem Reacted.coachConditions {a b : State} (h : Reacted a b) (sheet : b.lamps.sheet = a.lamps.sheet)
    (faults : b.faults.blocks = a.faults.blocks) (lead : b.lead.lead = a.lead.lead) (heat : b.heat.state = a.heat.state) :
    b.coachConditions = a.coachConditions := by
  unfold State.coachConditions State.identityHolds State.heatHolds
  rw [h.identity, h.dep, sheet, faults, lead, heat, h.start]

theorem clearanceMove_coachConditions (s : State) : (clearanceMove s).coachConditions = s.coachConditions := by
  have p := clearanceMove_parts s
  exact (Reacted.refl s).clearanceMove.coachConditions (by rw [p.2.1]) (by rw [p.1]) (by rw [p.2.2.1])
    (by rw [clearanceMove_heat])

theorem clearanceMove_freshHolding (s : State) : (clearanceMove s).peers = s.peers := (clearanceMove_parts s).2.2.2

/-- What SETTLING asks for (R151, R153). -/
def State.laneOpen (s : State) : Bool :=
  s.coachConditions && s.lineConditions && !s.dep.hold && !s.peers.freshHolding

theorem clearanceMove_laneOpen (s : State) : (clearanceMove s).laneOpen = s.laneOpen := by
  have r : Reacted s (clearanceMove s) := (Reacted.refl s).clearanceMove
  unfold State.laneOpen
  rw [clearanceMove_coachConditions, r.lineConditions, r.hold, clearanceMove_freshHolding]

/-- A move reaches or keeps SETTLING only while the lane is open to it. -/
theorem clearanceMove_settling (s : State) (h : (clearanceMove s).dep.state = .settling) : s.laneOpen = true := by
  unfold clearanceMove at h
  unfold State.laneOpen
  split at h
  · split at h
    · rw [changeDep_state] at h; cases h
    · next e _ => rw [e] at h; cases h
  · split at h
    · rw [changeDep_state] at h; cases h
    · split at h
      · split at h
        · simp_all
        · simp_all
      · simp_all
  · split at h
    · rw [changeDep_state] at h; cases h
    · split at h
      · rw [changeDep_state] at h; cases h
      · simp_all
  · next n => exact absurd h n

theorem clearanceTests_settling (s : State) (h : (clearanceTests s).dep.state = .settling) : s.laneOpen = true := by
  have k := clearanceMove_settling _ h
  rw [clearanceMove_laneOpen, clearanceMove_laneOpen] at k
  exact k

theorem clearanceTests_laneOpen (s : State) : (clearanceTests s).laneOpen = s.laneOpen := by
  simp only [clearanceTests, clearanceMove_laneOpen]

theorem Faults.beginPass_activeOf (f : Faults) (sev : Severity) : f.beginPass.activeOf sev = f.activeOf sev := by
  unfold Faults.activeOf Faults.beginPass
  dsimp only
  rw [List.filter_map, List.length_map]
  congr 1
  apply List.filter_congr
  intro r _
  simp only [Function.comp]
  split <;> rfl

theorem Faults.beginPass_blocks (f : Faults) : f.beginPass.blocks = f.blocks := by
  unfold Faults.blocks
  rw [Faults.beginPass_activeOf]
  rfl

theorem startPass_laneOpen (s : State) : (startPass s).laneOpen = s.laneOpen := by
  have r : Reacted s (startPass s) := (Reacted.refl s).startPass
  have k : (startPass s).lamps = s.lamps ∧ (startPass s).faults.blocks = s.faults.blocks ∧ (startPass s).lead = s.lead ∧
      (startPass s).peers = s.peers := by
    unfold startPass raiseFaultNext
    split
    · split <;> exact ⟨rfl, Faults.beginPass_blocks _, rfl, rfl⟩
    · exact ⟨rfl, rfl, rfl, rfl⟩
  unfold State.laneOpen
  rw [r.coachConditions (by rw [k.1]) k.2.1 (by rw [k.2.2.1]) (by rw [startPass_heat]), r.lineConditions, r.hold, k.2.2.2]

theorem startPass_dep (s : State) : (startPass s).dep = s.dep := by
  unfold startPass raiseFaultNext
  split
  · split <;> rfl
  · rfl

theorem arbitrate_dep (s : State) : (arbitrate s).dep = s.dep := by
  unfold arbitrate
  split
  · rfl
  · split
    · rfl
    · dsimp only; split <;> rfl

theorem arbitrate_laneOpen (s : State) : (arbitrate s).laneOpen = s.laneOpen := by
  have r : Reacted s (arbitrate s) := (Reacted.refl s).arbitrate
  have k : (arbitrate s).lamps.sheet = s.lamps.sheet ∧ (arbitrate s).faults = s.faults ∧ (arbitrate s).lead = s.lead ∧
      (arbitrate s).peers = s.peers := by
    unfold arbitrate
    split
    · exact ⟨rfl, rfl, rfl, rfl⟩
    · split
      · exact ⟨rfl, rfl, rfl, rfl⟩
      · dsimp only; split <;> exact ⟨rfl, rfl, rfl, rfl⟩
  unfold State.laneOpen
  rw [r.coachConditions k.1 (by rw [k.2.1]) (by rw [k.2.2.1]) (by rw [arbitrate_heat]), r.lineConditions, r.hold, k.2.2.2]

theorem giveCondition_dep (src : Source) (s : State) : (giveCondition src s).dep = s.dep := by
  unfold giveCondition
  split
  · rfl
  · split <;> rfl

theorem giveConditions_dep (s : State) : (giveConditions s).dep = s.dep := by simp [giveConditions, giveCondition_dep]

theorem giveCondition_laneOpen (src : Source) (s : State) : (giveCondition src s).laneOpen = s.laneOpen := by
  unfold giveCondition
  split
  · rfl
  · split <;> rfl

theorem giveConditions_laneOpen (s : State) : (giveConditions s).laneOpen = s.laneOpen := by
  simp [giveConditions, giveCondition_laneOpen]

theorem driveHead_laneOpen (s : State) : (driveHead s).laneOpen = s.laneOpen := rfl

/-- After every event that ends in reactions, SETTLING stands only with complete clearance, no depot hold and no HOLDING heard. -/
theorem settle_laneSafe (s : State) : (settle s).laneSafe := by
  intro h
  have d : (settle s).dep.state = (react (react s)).dep.state := by
    rw [settle_eq, driveHead_dep, giveConditions_dep, arbitrate_dep, startPass_dep]
  have o : (settle s).laneOpen = (react (react s)).laneOpen := by
    rw [settle_eq, driveHead_laneOpen, giveConditions_laneOpen, arbitrate_laneOpen, startPass_laneOpen]
  have k : (settle s).laneOpen = true := by
    rw [o, react_eq (react s), clearanceTests_laneOpen]
    rw [d, react_eq (react s)] at h
    exact clearanceTests_settling _ h
  unfold State.laneOpen at k
  simp_all

end Sys2Proof.Machine
end

