-- ==== Sys2Proof/Tests/Slice0.lean ====
section
/-! SUPPORT. Tests on fixed values: ill-formed commands refused, the manual's worked figures, one or two small effects for each command,
and for each statement that has hypotheses a state and operands that meet them, clause by clause (witness_<the statement>). -/

namespace Sys2Proof.Tests

open Sys2Proof Sys2Proof.Machine

/-! One theorem is checked at a time: each evaluation by the kernel waits on a thread of its own. -/
set_option Elab.async false

/-! ### Helpers: small states -/

/-- What holds of the state a command answers. -/
def after (c : Instr) (s : State) (p : State → Bool) : Bool :=
  match exec c s with
  | .next u => p u
  | _ => false

/-- A steady blocking lamp on channel 3 and a flashing one on channel 4. -/
def program : List LampStep :=
  [{ channel := 3, flashing := false, blocking := true, onThreshold := 20 },
   { channel := 4, flashing := true, blocking := false, onThreshold := 50 }]

def figures : ClassFigures := { target := 36, demand := 300, loss := 150, program := program }

/-- Band 0 is the short, bands 1 and 2 overlap, the last is turned round. -/
def bands : List Band :=
  [{ lower := 1500, upper := 1999, label := .short }, { lower := 100, upper := 200, label := .ok },
   { lower := 50, upper := 300, label := .low }, { lower := 400, upper := 301, label := .high }]

/-- Bay 7 with four stages of 4.0 kW and a budget of 40.0 kW, 100 s after its reset, its supply good and its floor empty. -/
def depot : State :=
  { State.reset with
    now := 100000,
    start := { phase := .configured, unconfigured := false, readTimer := none,
               image := { Image.default with station := 7, budget := 400, stages := 4, power := 40, bands := bands,
                                             classes := #v[figures, figures, figures, figures] } },
    bay := { State.reset.bay with startInterval := none },
    supply := { State.reset.supply with sag := false, level := 240 } }

/-- A level accepted and held. -/
def steady (level : Bool) : Filter := { raw := level, level := level, since := none }

/-- A candidate change that began at a moment. -/
def turning (level : Bool) (since : Nat) : Filter := { raw := !level, level := level, since := some since }

/-- Coach 1234 of class 1 stands identified, its lamps checked. -/
def stood : State :=
  { depot with
    bay := { depot.bay with occupancy := .connected, presence := steady true, plug := steady true,
                            session := .opened { coach := 1234, cls := 1 } },
    link := { depot.link with state := .up, tag := 6 },
    lamps := { depot.lamps with sheet := { state := .complete, entries := [] } } }

/-- A departure of coach 1234, in 100 s. -/
def leaving (d : DepState) (s : State) : State :=
  { s with dep := { s.dep with state := d, assignment := some 1234, countdown := some 100, nextFall := some 101000 },
           bay := { s.bay with aspect := aspectOf d } }

/-- A request on the wires with tag 5, its 250 ms up at 100250. -/
def asking (r : Request) (s : State) : State :=
  { s with link := { s.link with busy := some { request := r, tag := 5, timer := 100250, live := true } } }

/-- A check stands at a step and stage. -/
def checking (n : Nat) (st : Stage) (s : State) : State :=
  { s with lamps := { s.lamps with running := true, step := some n, stage := some st, program := program,
                                   sheet := { state := .running, entries := entriesOf program } } }

/-- The feed closed, the watch running and the step's channel loose. -/
def feeding (s : State) : State :=
  { s with lamps := { s.lamps with feed := true, watchTimer := some 100020, loose := s.lamps.current.map (·.channel) } }

/-- A frame of the own station on the wires. -/
def sending (c : Content) (s : State) : State :=
  { s with line := { s.line with inFlight := some { content := c, renewed := false } } }

/-- A peer's entry. -/
def peer (n : Nat) (heat : Option HeatPart) (depart : Option DepartPart) (air : Option AirPart) (s : State) : State :=
  { s with peers := { s.peers with entries := s.peers.entries ++ [{ station := n, heat := heat, depart := depart, air := air }] } }

/-- The occupancy a state shows. -/
def standing (o : Occupancy) (s : State) : State := { s with bay := { s.bay with occupancy := o } }

/-! ### Ill-formed commands are refused -/

theorem test_ill_formed_images : (Instr.configCheckWordReceived 0 [] 0).wellFormed = false ∧
    (Instr.configReadTimeout 0 (List.replicate 183 0)).wellFormed = false := by decide +kernel

theorem test_ill_formed_replies : (Instr.identifyResponse 0 16 1 0 0).wellFormed = false ∧
    (Instr.identifyResponse 0 1 65536 0 0).wellFormed = false ∧ (Instr.identifyResponse 0 1 1 4 0).wellFormed = false ∧
    (Instr.identifyResponse 0 1 1 0 256).wellFormed = false ∧ (Instr.lampSetResponse 0 16 1 true).wellFormed = false ∧
    (Instr.lampSetResponse 0 1 32 true).wellFormed = false ∧ (Instr.readTempResponse 0 1 (some (-128))).wellFormed = false ∧
    (Instr.readTempResponse 0 16 none).wellFormed = false ∧
    (Instr.faultNextEntry 0 1 256 1 .info 1 1).wellFormed = false ∧
    (Instr.faultNextEntry 0 1 1 65536 .info 1 1).wellFormed = false ∧
    (Instr.faultNextEntry 0 1 1 1 .info 256 1).wellFormed = false ∧
    (Instr.faultNextEntry 0 1 1 1 .info 1 65536).wellFormed = false ∧
    (Instr.faultNextEntry 0 16 1 1 .info 1 1).wellFormed = false ∧ (Instr.faultNextEndMark 0 16).wellFormed = false ∧
    (Instr.linkResponseMalformed 0 16).wellFormed = false ∧ (Instr.linkResponseOtherTag 0 16).wellFormed = false := by
  decide +kernel

theorem test_ill_formed_currents : (Instr.warmTimerExpiry 0 2001).wellFormed = false ∧
    (Instr.steadyMeasureEnd 0 2001).wellFormed = false ∧ (Instr.shortWatchBlockEnd 0 2001).wellFormed = false ∧
    (Instr.litLevelAccepted 0 true 2001).wellFormed = false ∧ (Instr.captureWindowExpiry 0 2001 0).wellFormed = false ∧
    (Instr.captureWindowExpiry 0 0 2001).wellFormed = false := by decide +kernel

theorem test_ill_formed_inputs : (Instr.rawInputChange 0 .presence 2).wellFormed = false ∧
    (Instr.rawInputChange 0 .plug 2).wellFormed = false ∧ (Instr.rawInputChange 0 .key 2).wellFormed = false ∧
    (Instr.rawInputChange 0 (.flash 0) 2001).wellFormed = false ∧ (Instr.rawInputChange 0 (.flash 2001) 0).wellFormed = false := by
  decide +kernel

theorem test_ill_formed_frames : (Instr.heatClaimReceived 0 0 .off 0 0 0 10 0).wellFormed = false ∧
    (Instr.heatClaimReceived 0 49 .off 0 0 0 10 0).wellFormed = false ∧
    (Instr.heatClaimReceived 0 1 .off 5 0 0 10 0).wellFormed = false ∧
    (Instr.heatClaimReceived 0 1 .off 0 5 0 10 0).wellFormed = false ∧
    (Instr.heatClaimReceived 0 1 .off 0 0 5 10 0).wellFormed = false ∧
    (Instr.heatClaimReceived 0 1 .off 0 0 0 9 0).wellFormed = false ∧
    (Instr.heatClaimReceived 0 1 .off 0 0 0 61 0).wellFormed = false ∧
    (Instr.heatClaimReceived 0 1 .off 0 0 0 10 8388608).wellFormed = false ∧
    (Instr.departClaimReceived 0 0 .none 0).wellFormed = false ∧
    (Instr.departClaimReceived 0 1 .none (-8388609)).wellFormed = false ∧
    (Instr.airTempReceived 0 0 0).wellFormed = false ∧ (Instr.airTempReceived 0 1 128).wellFormed = false ∧
    (Instr.peerPartExpiry 0 0 .heat).wellFormed = false ∧ (Instr.assign 0 65536 0).wellFormed = false ∧
    (Instr.assign 0 0 65536).wellFormed = false ∧ (Instr.noticeRepeatExpiry 0 .start).wellFormed = false := by decide +kernel

/-! ### The manual's worked figures -/

/-- Section 7.5: the ordinary case, the colder night, no credit for gain, the warm cabin, the saturated lead. -/
theorem test_worked_leads :
    computeLead 36 (-11) (-16) 600 250 8000 = (191, .none) ∧ computeLead 36 (-11) (-50) 600 250 8000 = (240, .unreachable) ∧
    computeLead 36 30 44 600 250 8000 = (14, .none) ∧ computeLead 36 38 44 600 250 8000 = (0, .none) ∧
    computeLead 40 (-30) (-30) 1200 120 6000 = (240, .saturated) := by decide +kernel

/-- Section 8.9: bays 3, 7 and 12 share a budget of 400. -/
theorem test_worked_round :
    (allocate 400 [{ station := 3, wanted := 4, power := 40, latest := -120 },
      { station := 7, wanted := 3, power := 50, latest := -30 },
      { station := 12, wanted := 4, power := 40, latest := -9 }]).map (·.2) = [4, 3, 2] := by decide +kernel

/-! ### The step, the two resets and the configuration -/

theorem test_step_takes_the_front :
    (match step { depot with pending := [.maskAllOn 100001, .maskAllOff 100002] } with
     | .next u => decide (u.pending = [.maskAllOff 100002] ∧ u.notices.maskAll = true)
     | _ => false) = true := by decide +kernel

theorem witness_StepRunsTheFrontCommand_empty_queue : State.reset.pending = [] := rfl

theorem test_no_word_spells_a_command : decodeTableWord 8 0 = none ∧ decodeTableWord 32 4294967295 = none := by decide +kernel

/-- R176: START pending with its cause, every timer of the parts stopped but the read's and the start interval's. -/
theorem test_resets_give_start_its_cause :
    after .powerOn stood (fun u => u.notices.tells .start 0 && decide (u.bay.occupancy = .empty)) = true ∧
    after (.resetLine true) stood (fun u => u.notices.tells .start 1 && decide (u.start.readTimer = some 300)) = true ∧
    after (.resetLine false) stood (fun u => u.notices.tells .start 0) = true := by decide +kernel

/-- The commands of the three disjuncts are the two resets themselves. -/
theorem witness_ResetTakesTheResetValues :
    (Instr.powerOn = .powerOn ∧ (0 : Nat) = 0) ∧ (Instr.resetLine true = .resetLine true ∧ (1 : Nat) = 1) ∧
    (Instr.resetLine false = .resetLine false ∧ (0 : Nat) = 0) := by decide

/-- A whole image: every word 0 but the station number and the check word, so its sum is the station number. -/
def plainImage (station : Nat) : List Word16 :=
  BitVec.ofNat 16 station :: (List.replicate 181 0 ++ [BitVec.ofNat 16 station])

theorem witness_PassingImageConfigures : State.reset.start.phase = .reading ∧ imagePasses (plainImage 1) = true ∧
    imagePasses (plainImage 48) = true ∧ State.reset.start.readTimer = some 300 ∧ max State.reset.now 300 ≤ 300 := by
  decide +kernel

theorem witness_FailingImageLeavesUnconfigured : State.reset.start.phase = .reading ∧ imagePasses (plainImage 0) = false ∧
    imagePasses (plainImage 49) = false ∧ imagePasses [] = false ∧ State.reset.start.readTimer = some 300 ∧
    300 ≤ max State.reset.now 300 ∧ max State.reset.now 300 ≤ 300 ∧ 300 < max State.reset.now 301 ∧
    depot.start.phase ≠ .reading := by decide +kernel

/-- R172: the check word at the very end of the 300 ms is in time; one millisecond later the read has timed out without it. -/
theorem test_check_word_late :
    after (.configCheckWordReceived 300 (plainImage 48) 0) State.reset (fun u => decide (u.start.phase = .configured)) = true ∧
    after (.configCheckWordReceived 301 (plainImage 48) 0) State.reset (fun u => decide (u.start.phase = .unconfigured ∧
      u.start.image.station = 48 ∧ u.start.image.checkWord = none ∧ u.now = 301)) = true := by decide +kernel

/-- R172, R174: station 48 passes; R171's defaults and R173's clamping of zero words. -/
theorem test_image_configures :
    after (.configCheckWordReceived 200 (plainImage 48) 0) State.reset (fun u =>
      decide (u.start.phase = .configured ∧ u.ownNumber = 48 ∧ u.heat.claimTimer = some 2200 ∧ u.start.image.budget = 100)) = true ∧
    after (.configCheckWordReceived 200 (plainImage 49) 0) State.reset (fun u =>
      decide (u.start.phase = .unconfigured ∧ u.start.unconfigured = true ∧ u.heat.claimTimer = none)) = true := by
  decide +kernel

/-- The station number as delivered; a word below its range, one in it and one above; none delivered; the last word of the band table and
of a program missing or not. -/
theorem witness_ImageIsClampedIntoRange :
    (imageOf [60000, 99]).station = 60000 ∧ (imageOf [60000, 99]).budget = 100 ∧ (imageOf [7, 5000]).budget = 5000 ∧
    (imageOf [7, 5001]).budget = 5000 ∧ (imageOf [7]).budget = 100 ∧ ([60000, 99] : List Word16)[1]? = some 99 ∧
    ([7] : List Word16)[1]? = none ∧ (plainImage 48).length = 183 ∧ ((plainImage 48).take 37).length < 38 ∧
    38 ≤ ((plainImage 48).take 38).length ∧ ((plainImage 48).take 73).length < 74 + 36 * 0 ∧
    74 + 36 * 0 ≤ ((plainImage 48).take 74).length ∧ (imageOf (plainImage 48)).bands.length = 8 ∧
    (imageOf (plainImage 48)).checkWord = some 48 ∧ (imageOf [7]).checkWord = none := by decide +kernel

/-- Section 12.3: byte pairs, the first in the high byte; a temperature of 0xF0 is -16 half-degrees; code 7 of the Wh table is 10. -/
theorem test_image_fields : (imageOf [7, 400, 0x0328, 0x0107, 0x01F0, 0x0501]).stages = 3 ∧
    (imageOf [7, 400, 0x0328, 0x0107, 0x01F0, 0x0501]).power = 40 ∧
    (imageOf [7, 400, 0x0328, 0x0107, 0x01F0, 0x0501]).whPerPulse = 10 ∧
    (imageOf [7, 400, 0x0328, 0x0107, 0x01F0, 0x0501]).design = -16 ∧
    (imageOf [7, 400, 0x0328, 0x0107, 0x01F0, 0x0501]).sagCode = 3 ∧
    (imageOf [7, 400, 0x0328, 0x0107, 0x01F0, 0x0501]).retention = .first := by decide +kernel

/-- R135: in the sag presumed after reset the level standing at bring-up is the first sensed, and a rise to 240 leaves it the lowest. -/
theorem test_bring_up_takes_the_level :
    after (.configCheckWordReceived 200 (plainImage 48) 0) { State.reset with supply := { State.reset.supply with level := 200 } }
      (fun u => decide (u.supply.lowest = some 200) &&
        after (.supplySenseChange 250 240) u (fun v => decide (v.supply.lowest = some 200 ∧ v.supply.level = 240))) = true := by
  decide +kernel

/-- R172: two words came before the 300 ms ran out; the others take R171's defaults. -/
theorem test_read_timeout_takes_defaults :
    after (.configReadTimeout 300 [7, 300]) State.reset (fun u =>
      decide (u.start.phase = .unconfigured ∧ u.start.image.budget = 300 ∧ u.start.image.transit = 40)) = true ∧
    after (.configReadTimeout 299 []) State.reset (fun u => decide (u = State.reset.advance 299)) = true := by decide +kernel

def lateStart : State :=
  { State.reset with bay := { State.reset.bay with plug := steady true }, link := { State.reset.link with state := .opening } }

theorem witness_StartIntervalEndSetsOccupancy : lateStart.bay.startInterval = some 400 ∧ 400 ≤ max lateStart.now 400 ∧
    lateStart.bay.plug.level = true ∧ lateStart.link.state ≠ .unplugged := by decide +kernel

/-- R2: a plug in with the loop clear is LINKING with presence implied. -/
theorem test_start_interval_end : after (.startIntervalEnd 400) lateStart (fun u =>
    decide (u.bay.occupancy = .linking ∧ u.bay.implied = true ∧ u.bay.startInterval = none) && u.link.asks .identify) = true := by
  decide +kernel

/-! ### The bay -/

def keyTurned : State := { depot with bay := { depot.bay with key := turning false 100000 } }

/-- A candidate of every input that began at 100000, in a state with a capture open. -/
def turned : State :=
  let s := feeding (checking 2 .measure stood)
  let x : Capture :=
    { window := 103300, lit := turning false 100000, litAtOpening := false, fallen := true, rises := [], falls := [] }
  { s with bay := { s.bay with presence := turning true 100000, plug := turning true 100000, key := turning false 100000 },
           lamps := { s.lamps with capture := some x } }

/-- One millisecond before the long limit of each filter and at it, the raw input returning; an acceptance of the key that may come. -/
theorem witness_RawChangesMoveTheirFilter :
    (turned.bay.presence.since = some 100000 ∧ turned.bay.presence.raw ≠ true ∧ turned.bay.presence.raw ≠ turned.bay.presence.level ∧
      max turned.now 100399 < 100000 + 400 ∧ 100000 + 400 ≤ max turned.now 100400) ∧
    (turned.bay.plug.since = some 100000 ∧ turned.bay.plug.raw ≠ true ∧ turned.bay.plug.raw ≠ turned.bay.plug.level ∧
      max turned.now 100039 < 100000 + 40 ∧ 100000 + 40 ≤ max turned.now 100040) ∧
    (turned.bay.key.since = some 100000 ∧ turned.bay.key.raw ≠ false ∧ turned.bay.key.raw ≠ turned.bay.key.level ∧
      max turned.now 100099 < 100000 + 100 ∧ 100000 + 100 ≤ max turned.now 100100) ∧
    (∃ x, turned.lamps.capture = some x ∧ turned.lamps.current.map (·.onThreshold) = some 50 ∧ decide (50 ≤ min 49 2000) = false ∧
      x.lit.since = some 100000 ∧ x.lit.raw ≠ false ∧ x.lit.raw ≠ x.lit.level ∧ max turned.now 100039 < 100000 + 40 ∧
      100000 + 40 ≤ max turned.now 100040) ∧
    stood.lamps.capture = none ∧ keyTurned.bay.key.level ≠ true ∧ keyTurned.bay.key.ripe 50 (max keyTurned.now 100050) :=
  ⟨by decide +kernel, by decide +kernel, by decide +kernel, ⟨_, rfl, by decide +kernel⟩, rfl, by decide +kernel,
    100000, rfl, by decide⟩

theorem test_raw_change_begins_a_candidate : after (.rawInputChange 100007 .plug 1) depot (fun u =>
    decide (u.bay.plug = { raw := true, level := false, since := some 100007 })) = true ∧
    after (.rawInputChange 100007 .key 0) keyTurned (fun u => decide (u.bay.key = steady false)) = true := by decide +kernel

/-- R1: a plug out for 40 ms and more was accepted out at 100040 with its effects, and its return is a candidate; a flash sense held lit
for 40 ms rose at 100040, and falls below its on-threshold of 50. -/
theorem test_overdue_candidates_are_accepted :
    after (.rawInputChange 100090 .plug 1) turned (fun u => decide (u.bay.plug = turning false 100090 ∧
      u.bay.occupancy = .present ∧ u.link.state = .unplugged ∧ u.now = 100090)) = true ∧
    after (.rawInputChange 100090 (.flash 150) 49) turned (fun u => decide (
      u.lamps.capture.map (fun x => (x.rises, x.lit)) = some ([100040], turning true 100090))) = true := by decide +kernel

theorem test_key_accepted : after (.keyAccepted 100050 true) keyTurned (fun u => u.bay.key.level) = true := by decide +kernel

def loopTurning (level : Bool) (s : State) : State := { s with bay := { s.bay with presence := turning level 100000 } }

def starting (s : State) : State := { s with bay := { s.bay with startInterval := some 100900 } }

/-- Each of the seven ways in which an event cannot arise, one short of the moment at which it could. -/
theorem witness_WhatIsNotDueMovesOnlyTheClock :
    (stood.timerOf (.pollTimerExpiry 100001) = some none ∧ fallenDue none 100001 = false) ∧
    ({ stood with bay := { stood.bay with reidentify := some 100002 } } : State).timerOf (.reidentifyTimerExpiry 100001) =
      some (some 100002) ∧ fallenDue (some 100002) 100001 = false ∧
    (loopTurning false depot).bay.presence.mayAccept true 200 100199 = false ∧
    (loopTurning true stood).bay.presence.mayAccept false 200 100199 = false ∧
    ({ depot with bay := { depot.bay with plug := turning false 100000 } } : State).bay.plug.mayAccept true 20 100019 = false ∧
    ({ stood with bay := { stood.bay with plug := turning true 100000 } } : State).bay.plug.mayAccept false 20 100019 = false ∧
    keyTurned.bay.key.mayAccept true 50 100049 = false ∧
    stood.lamps.capture = none := by decide +kernel

theorem loopTurning_ripe (level : Bool) : (loopTurning level depot).bay.presence.ripe 200 (max depot.now 100200) :=
  ⟨100000, rfl, by decide +kernel⟩

theorem witness_LoopAcceptancesFollowTheOccupancyTable :
    (loopTurning false depot).bay.presence.ripe 200 (max depot.now 100200) ∧
    (loopTurning false depot).bay.presence.level = false ∧ (loopTurning false depot).bay.startInterval = none ∧
    (loopTurning true stood).bay.presence.level = true ∧ (loopTurning true stood).bay.startInterval = none ∧
    (loopTurning true stood).bay.occupancy ≠ .present ∧ (starting (loopTurning true stood)).bay.startInterval.isSome = true ∧
    (starting (loopTurning false depot)).bay.presence.level = false := ⟨loopTurning_ripe false, by decide +kernel⟩

/-- R3, R4. -/
theorem test_loop_acceptances :
    after (.presenceAcceptedOccupied 100200) (loopTurning false depot) (fun u => decide (u.bay.occupancy = .present)) = true ∧
    after (.presenceAcceptedClear 100200) (loopTurning true stood) (fun u =>
      decide (u.bay.occupancy = .connected ∧ u.bay.implied = true)) = true := by decide +kernel

/-- A coach unplugged over the loop, about to leave it, in a departure state. -/
def leavingTheLoop (d : DepState) : State := loopTurning true (standing .present (leaving d stood))

/-- A coach that only the plug shows, about to be unplugged. -/
def pulling (d : DepState) : State :=
  let s := leaving d stood
  { s with bay := { s.bay with implied := true, presence := steady false, plug := turning true 100000 } }

def departed (s : State) : State := { s with bay := { s.bay with session := .departing { coach := 1234, cls := 1 } } }

theorem witness_EntryToEmptySettlesTheSession_from_the_loop :
    (leavingTheLoop .holding).bay.startInterval = none ∧ (leavingTheLoop .holding).bay.occupancy = .present ∧
    (leavingTheLoop .holding).bay.presence.level = true ∧
    (leavingTheLoop .holding).bay.presence.ripe 200 (max (leavingTheLoop .holding).now 100200) ∧
    (leavingTheLoop .holding).dep.state = .holding ∧
    (leavingTheLoop .holding).bay.session = .opened { coach := 1234, cls := 1 } ∧ (leavingTheLoop .holding).configured = true :=
  ⟨rfl, rfl, rfl, ⟨100000, rfl, by decide +kernel⟩, rfl, rfl, rfl⟩

theorem witness_EntryToEmptySettlesTheSession_from_the_plug :
    (pulling .ready).bay.startInterval = none ∧ (pulling .ready).bay.occupancy = .connected ∧ (pulling .ready).bay.implied = true ∧
    (pulling .ready).bay.plug.level = true ∧ (pulling .ready).bay.plug.ripe 20 (max (pulling .ready).now 100020) ∧
    (pulling .ready).dep.state ≠ .holding ∧ (pulling .ready).bay.session = .opened { coach := 1234, cls := 1 } ∧
    (pulling .assigned).admits 1234 = true ∧ (pulling .lapsed).dep.state = .lapsed ∧
    (departed (pulling .gone)).dep.state = .gone ∧
    (departed (pulling .gone)).bay.session = .departing { coach := 1234, cls := 1 } :=
  ⟨rfl, rfl, rfl, rfl, ⟨100000, rfl, by decide +kernel⟩, by decide +kernel⟩

/-- R7, R157, R112: the green was taken, and the lead of 60 minutes is that of no coach. -/
theorem test_loop_clear_in_holding : after (.presenceAcceptedClear 100200)
    { leavingTheLoop .holding with lead := { stood.lead with lead := 60, cabin := some (0, .coldSoak) } } (fun u =>
    decide (u.dep.state = .gone ∧ u.dep.transitTimer = some 140200 ∧ u.bay.aspect = .red ∧ u.lead.lead = 0 ∧
      u.lead.cabin = none) && u.notices.tells .released 1234) = true := by decide +kernel

def pluggingIn : State := { depot with bay := { depot.bay with plug := turning false 100000 } }

theorem witness_PlugInOpensTheLinkAndAsksIdentify : pluggingIn.bay.plug.level = false ∧
    pluggingIn.bay.plug.ripe 20 (max pluggingIn.now 100020) ∧ pluggingIn.link.state = .unplugged ∧
    pluggingIn.bay.startInterval = none ∧ pluggingIn.bay.occupancy = .empty ∧ pluggingIn.link.busy = none ∧
    (starting pluggingIn).bay.startInterval.isSome = true :=
  ⟨rfl, ⟨100000, rfl, by decide +kernel⟩, rfl, rfl, rfl, rfl, rfl⟩

/-- R5: the loop had not seen the coach. -/
theorem test_plug_in : after (.plugAcceptedIn 100020) pluggingIn (fun u =>
    decide (u.bay.occupancy = .linking ∧ u.bay.implied = true ∧ u.link.state = .opening ∧
      u.link.busy = some { request := .identify, tag := 0, timer := 100270, live := true })) = true := by decide +kernel

def pluggingOut : State := { stood with bay := { stood.bay with plug := turning true 100000 } }

theorem witness_PlugOutUnplugsTheLink : pluggingOut.bay.plug.level = true ∧
    pluggingOut.bay.plug.ripe 20 (max pluggingOut.now 100020) ∧ pluggingOut.bay.startInterval = none ∧
    pluggingOut.bay.occupancy = .connected ∧ pluggingOut.bay.implied = false ∧ pluggingOut.link.state ≠ .unplugged ∧
    pluggingOut.link.wellKept ∧ (checking 1 .warm pluggingOut).lamps.running = true ∧
    (starting pluggingOut).bay.startInterval.isSome = true :=
  ⟨rfl, ⟨100000, rfl, by decide +kernel⟩, by decide +kernel⟩

theorem test_plug_out : after (.plugAcceptedOut 100020) pluggingOut (fun u =>
    decide (u.bay.occupancy = .present ∧ u.link.state = .unplugged ∧ u.bay.session = stood.bay.session)) = true ∧
    after (.plugAcceptedOut 100020) (pulling .ready) (fun u => decide (u.bay.occupancy = .empty ∧ u.bay.session = .none) &&
      u.notices.tells .unclearedExit 1234) = true := by decide +kernel

/-- R2, R29: in the start interval the link follows and the bay only takes the level. -/
theorem test_plug_out_while_starting : after (.plugAcceptedOut 100020) (starting pluggingOut) (fun u =>
    decide (u.bay.occupancy = .connected ∧ u.bay.plug.level = false ∧ u.link.state = .unplugged)) = true := by decide +kernel

/-! ### The coach link and the fault list -/

def asked (o : Occupancy) (l : LinkState) (r : Request) : State :=
  let s := asking r (standing o depot)
  { s with link := { s.link with state := l } }

theorem witness_IdentifyAnswerOpensTheSession :
    (asked .linking .opening .identify).link.busy = some { request := .identify, tag := 5, timer := 100250, live := true } ∧
    65535 ≤ 65535 ∧ 3 ≤ 3 ∧ 255 ≤ 255 ∧ (asked .linking .opening .identify).bay.occupancy = .linking ∧
    (asked .linking .opening .identify).link.state ≠ .unplugged ∧
    (asked .linking .opening .identify).bay.session ≠ .opened { coach := 65535, cls := 3 } ∧
    ((asked .linking .opening .identify).bay.session = .none → (asked .linking .opening .identify).faults.records = []) ∧
    (departed (asked .unlinked .lost .identify)).bay.session = .departing { coach := 1234, cls := 1 } ∧
    (asking .identify (standing .unlinked stood)).bay.session = .opened { coach := 1234, cls := 1 } ∧
    (asking .identify stood).bay.occupancy = .connected ∧ max depot.now 100250 ≤ 100250 := by decide +kernel

/-- Coach 1234 of a departure in a state, its bay UNLINKED and asking who is there. -/
def unlinked (d : DepState) : State := asking .identify (standing .unlinked (leaving d stood))

def forAny (s : State) : State := { s with dep := { s.dep with assignment := some 0 } }

/-- Each entry of R159's column for an identity replaced, coach 900 behind coach 1234. -/
theorem witness_IdentifyAnswerOpensTheSession_replaced :
    (unlinked .ready).bay.session = .opened { coach := 1234, cls := 1 } ∧ (unlinked .ready).link.state ≠ .unplugged ∧
    (unlinked .ready).bay.session ≠ .opened { coach := 900, cls := 2 } ∧ (unlinked .ready).dep.assignment ≠ some 0 ∧
    (forAny (unlinked .settling)).dep.assignment = some 0 ∧ (unlinked .assigned).admits 1234 = true ∧
    ({ unlinked .assigned with dep := { (unlinked .assigned).dep with assignment := some 900 } } : State).admits 1234 = false ∧
    (unlinked .holding).dep.state = .holding ∧ (unlinked .gone).dep.state = .gone ∧ (unlinked .lapsed).dep.state = .lapsed := by
  decide +kernel

/-- R159: an assignment for the replaced coach is cancelled, one for any coach stands; from HOLDING the coach is gone. -/
theorem test_identity_replaced :
    after (.identifyResponse 100100 5 900 2 3) (unlinked .ready) (fun u => decide (u.dep.state = .none) &&
      u.notices.tells .unclearedExit 1234 && u.notices.tells .coachIdentified 900) = true ∧
    after (.identifyResponse 100100 5 900 2 3) (forAny (unlinked .ready)) (fun u => decide (u.dep.state = .assigned ∧
      u.dep.assignment = some 0) && u.notices.tells .unclearedExit 1234) = true ∧
    after (.identifyResponse 100100 5 900 2 3) (unlinked .holding) (fun u => decide (u.dep.state = .gone) &&
      u.notices.tells .released 1234) = true := by decide +kernel

/-- R10, R11, R12: a first coach, and another coach behind a departing one. -/
theorem test_identify_opens :
    after (.identifyResponse 100100 5 900 2 3) (asked .linking .opening .identify) (fun u =>
      decide (u.bay.occupancy = .connected ∧ u.link.state = .up ∧ u.bay.session = .opened { coach := 900, cls := 2 } ∧
        u.faults.figure = some 3) && u.notices.tells .coachIdentified 900) = true ∧
    after (.identifyResponse 100100 5 900 2 3) (departed (asked .unlinked .lost .identify)) (fun u =>
      u.notices.tells .sessionEnded 1234 && u.notices.tells .coachIdentified 900) = true := by decide +kernel

/-- A called station of an assigned departure draws one stage and has asked for its cabin; whether it has been at target. -/
def warming_up (reached : Bool) : State :=
  let s := asking .readTemp (leaving .assigned stood)
  { s with
    heat := { s.heat with state := if reached then .maintain else .heating, called := true, atTarget := reached, grant := 4,
                          intended := 4, drawn := 1, wanted := if reached then 1 else 4, keepWarm := reached },
    link := { s.link with cache := { content := .reading 30, taken := 90, fresh := true, staleTimer := some 210000 } } }

theorem witness_CabinAnswerFillsTheCache_marks : (warming_up true).figures.map (·.target) = some 36 ∧
    (warming_up true).heat.atTarget = true ∧ (warming_up false).heat.atTarget = false ∧ (warming_up false).heat.called = true ∧
    (36 : Int) ≤ clampInt (-80) 120 36 ∧ max depot.now 100100 ≤ 100250 ∧
    after (.readTempResponse 100100 5 (some 34)) (warming_up true) (fun u => decide (u.heat.state ≠ .off)) = true ∧
    after (.readTempResponse 100100 5 (some 36)) (warming_up false) (fun u => decide (u.heat.state ≠ .off)) = true := by
  decide +kernel

/-- R125: a reading of 36 reaches the target with the call on; at target, 38 ends the call. -/
theorem test_at_target :
    after (.readTempResponse 100100 5 (some 36)) (warming_up false) (fun u => decide (u.heat.atTarget = true ∧
      u.heat.keepWarm = true ∧ u.heat.state = .maintain ∧ u.heat.wanted = 1)) = true ∧
    after (.readTempResponse 100100 5 (some 38)) (warming_up true) (fun u => decide (u.heat.atTarget = true ∧
      u.heat.keepWarm = false ∧ u.heat.drawn = 0)) = true := by decide +kernel

theorem witness_CabinAnswerFillsTheCache :
    (asking .readTemp stood).link.busy = some { request := .readTemp, tag := 5, timer := 100250, live := true } ∧
    (asking .readTemp stood).configured = true ∧ (asking .readTemp stood).sessionOpen = true ∧
    ({ asking .readTemp stood with link := { (asking .readTemp stood).link with
        cache := { content := .reading 4, taken := 1, fresh := true, staleTimer := some 120000 } } } : State).link.cache.fresh = true := by
  decide +kernel

/-- R33: clamped to -80 half-degrees, stale 120 s later; no sensor. -/
theorem test_cabin_answers :
    after (.readTempResponse 100100 5 (some (-127))) (asking .readTemp stood) (fun u =>
      decide (u.link.cache.content = .reading (-80) ∧ u.link.cache.staleTimer = some 220100)) = true ∧
    after (.readTempResponse 100100 5 none) (asking .readTemp stood) (fun u =>
      decide (u.link.cache.content = .noSensor ∧ u.link.cache.fresh = false)) = true := by decide +kernel

def aRecord (o : Origin) (m code : Nat) (stamp : Option Nat) : FaultRecord :=
  { origin := o, module := m, code := code, severity := .info, count := 9, active := true, firstSeen := 1, lastSeen := 2,
    stamp := stamp }

/-- Pass 2 waits for the answer to its third request. -/
def passing (count : Nat) : State :=
  let s := asking (.faultNext 7) stood
  { s with
    link := { s.link with pass := some { cursor := 7, count := count } },
    faults := { s.faults with current := some { number := 2, entries := count }, records := [aRecord .coach 8 9 (some 1)] } }

theorem witness_FaultEntryIsFiledAndTheNextAskedFor :
    (passing 254).link.busy = some { request := .faultNext 7, tag := 5, timer := 100250, live := true } ∧
    (passing 254).link.pass = some { cursor := 7, count := 254 } ∧ (passing 254).link.state = .up ∧
    (passing 254).sessionOpen = true ∧ (passing 254).faults.current = some { number := 2, entries := 254 } ∧
    (passing 254).link.passOwed = false ∧ (passing 254).lamps.sheet.state = .complete ∧ 255 ≤ 254 + 1 ∧ 253 + 1 < 255 ∧
    (passing 253).link.pass = some { cursor := 7, count := 253 } ∧
    (∃ r ∈ (passing 253).faults.records, r.origin = .coach ∧ r.module = 8 ∧ r.code = 9) ∧
    (∀ r ∈ (passing 253).faults.records, ¬(r.origin = .coach ∧ r.module = 255 ∧ r.code = 65535)) ∧
    (passing 253).faults.records.length < 24 ∧ (checking 1 .warm (passing 253)).lamps.running = true ∧
    max depot.now 100250 ≤ 100250 := by decide +kernel

/-- A full list of 24 records, blocking those of an even code, all active but those at two places. -/
def full (mode : Retention) (inactive : List Nat) : State :=
  { passing 2 with faults := { (passing 2).faults with
      retention := mode,
      records := (List.range 24).map fun i =>
        { aRecord .coach i i none with severity := if i % 2 = 0 then .blocking else .info, active := !inactive.contains i } } }

/-- Two inactive records of one last-seen and one first-seen, at places 4 and 9: the nearer the front is the oldest. -/
theorem witness_FaultEntryIsFiledAndTheNextAskedFor_full : 24 ≤ (full .newest [4, 9]).faults.records.length ∧
    (∀ r ∈ (full .newest [4, 9]).faults.records, ¬(r.origin = .coach ∧ r.module = 255 ∧ r.code = 65535)) ∧
    ((full .newest [4, 9]).faults.records[4]?).map (fun r => (r.active, r.lastSeen, r.firstSeen)) = some (false, 2, 1) ∧
    ((full .newest [4, 9]).faults.records[9]?).map (fun r => (r.active, r.lastSeen, r.firstSeen)) = some (false, 2, 1) ∧
    (∀ r ∈ (full .newest []).faults.records, r.active = true) ∧ (full .newest []).faults.retention = .newest ∧
    ((full .newest []).faults.records.head?).map (·.severity) = some .blocking ∧ (full .first []).faults.retention = .first := by
  decide +kernel

/-- R45, R46, R47. -/
theorem test_full_list :
    after (.faultNextEntry 100100 5 255 77 .info 1 9) (full .first [4, 9]) (fun u => decide (
      u.faults.records.map (·.module) = [0, 1, 2, 3, 5, 6, 7, 8, 9, 10, 11, 12, 13, 14, 15, 16, 17, 18, 19, 20, 21, 22, 23, 255] ∧
      u.faults.blockingLost = false)) = true ∧
    after (.faultNextEntry 100100 5 255 77 .info 1 9) (full .newest []) (fun u => decide (
      u.faults.records.map (·.module) = (List.range 23).map (· + 1) ++ [255]) && u.notices.tells .blockingLost 0) = true ∧
    after (.faultNextEntry 100100 5 255 77 .blocking 1 9) (full .first []) (fun u => decide (
      u.faults.records = (full .first []).faults.records) && u.notices.tells .blockingLost 77) = true := by decide +kernel

/-- R44, R49: a count of 0 is taken as 1, a merge keeps the greater count and takes the pass's stamp. -/
theorem test_fault_entries :
    after (.faultNextEntry 100100 5 1 2 .blocking 0 33) (passing 2) (fun u => decide (u.link.pass = some { cursor := 33, count := 3 } ∧
      (u.faults.records[1]?).map (fun r => (r.module, r.code, r.count, r.stamp)) = some (1, 2, 1, some 2))) = true ∧
    after (.faultNextEntry 100100 5 8 9 .blocking 4 33) (passing 2) (fun u => decide (
      u.faults.records.map (fun r => (r.count, r.severity, r.lastSeen, r.stamp)) = [(9, .blocking, 100, some 2)])) = true := by
  decide +kernel

theorem witness_EndMarkCompletesThePass :
    (passing 2).link.busy = some { request := .faultNext 7, tag := 5, timer := 100250, live := true } ∧
    (passing 2).link.pass.isSome = true ∧ (passing 2).faults.current = some { number := 2, entries := 2 } ∧
    (passing 2).link.passOwed = false ∧ (passing 2).lamps.sheet.state = .complete ∧
    (checking 1 .warm (passing 2)).lamps.running = true ∧ max depot.now 100250 ≤ 100250 := by decide +kernel

/-- R50. -/
theorem test_end_mark : after (.faultNextEndMark 100100 5) (passing 2) (fun u =>
    decide (u.faults.records.map (·.active) = [false] ∧ u.faults.figure = some 2 ∧ u.link.pass = none)) = true := by decide +kernel

def failing (run : Nat) (s : State) : State := { s with link := { s.link with failureRun := run } }

theorem witness_FailuresCountAndTheThirdLosesTheLink :
    (failing 1 (asking .identify (standing .linking stood))).link.busy =
      some { request := .identify, tag := 5, timer := 100250, live := true } ∧ 100250 ≤ max depot.now 100250 ∧
    (failing 1 (asking .identify (standing .linking stood))).link.failureRun + 1 < 3 ∧
    (asking (.lampSet 31 true) stood).link.busy =
      some { request := .lampSet 31 true, tag := 5, timer := 100250, live := true } ∧
    Request.lampSet 31 true ≠ .lampSet 31 false ∧
    (failing 1 (passing 2)).link.pass = some { cursor := 7, count := 2 } ∧ (failing 1 (passing 2)).link.state = .up ∧
    (failing 2 (asked .unlinked .lost .identify)).link.failureRun = 2 ∧
    (failing 2 (asked .unlinked .lost .identify)).link.state = .lost ∧
    (failing 2 (asked .unlinked .lost .identify)).bay.occupancy = .unlinked ∧
    (failing 2 (checking 1 .switchOff (asking (.lampSet 3 false) stood))).link.failureRun = 2 ∧
    (failing 2 (checking 1 .switchOff (asking (.lampSet 3 false) stood))).link.state ≠ .lost ∧
    (failing 2 (checking 1 .switchOff (asking (.lampSet 3 false) stood))).bay.occupancy = .connected ∧
    (failing 2 (checking 1 .switchOff (asking (.lampSet 3 false) stood))).lamps.running = true ∧
    max depot.now 100250 ≤ 100250 ∧ Instr.replyTag (.readTempResponse 100251 5 none) = some 5 ∧
    100250 < max depot.now (Instr.moment (.readTempResponse 100251 5 none)) := by decide +kernel

/-- R24: at 100250 the answer stands; a millisecond later the request had timed out, at the end of its 250 ms. -/
theorem test_late_response :
    after (.readTempResponse 100250 5 (some 20)) (asking .readTemp stood) (fun u => decide (u.link.cache.content = .reading 20)) =
      true ∧
    after (.readTempResponse 100251 5 (some 20)) (asking .readTemp stood) (fun u => decide (u.link.cache.content = .none ∧
      u.link.failureRun = 1 ∧ u.link.busy = none ∧ u.now = 100251)) = true := by decide +kernel

/-- R26, R27: the first failure counts, the third loses the link. -/
theorem test_timeouts :
    after (.linkTimeout 100250) (asking .readTemp stood) (fun u => decide (u.link.failureRun = 1 ∧ u.link.state = .up)) = true ∧
    after (.linkTimeout 100250) (failing 2 (asking .readTemp stood)) (fun u => decide (u.link.failureRun = 0 ∧
      u.link.state = .lost ∧ u.bay.occupancy = .unlinked ∧ u.bay.reidentify = some 110250)) = true := by decide +kernel

theorem test_malformed_counts : after (.linkResponseMalformed 100100 5) (asking .readTemp stood) (fun u =>
    decide (u.link.failureRun = 1)) = true ∧
    after (.linkResponseMalformed 100100 4) (asking .readTemp stood) (fun u => decide (u.link.failureRun = 0)) = true := by
  decide +kernel

theorem witness_OtherTagsAreDiscarded : Instr.replyTag (.faultNextEndMark 100100 4) = some 4 ∧
    (passing 2).link.busy.all (fun x => decide (x.tag ≠ 4)) = true ∧ depot.link.busy.all (fun x => decide (x.tag ≠ 4)) = true := by
  decide +kernel

theorem test_other_tag : after (.linkResponseOtherTag 100100 4) (asking .readTemp stood) (fun u =>
    decide (u = (asking .readTemp stood).advance 100100)) = true := by decide +kernel

/-- The four timers of the link and the bay run out at 100500; an ASSIGN has heat called for. -/
def paced : State :=
  let s := leaving .assigned stood
  { s with
    link := { s.link with pollTimer := some 100500, passTimer := some 100500,
                          cache := { content := .reading 4, taken := 1, fresh := true, staleTimer := some 100500 } },
    bay := { s.bay with reidentify := some 100500 } }

theorem witness_LinkTimersAskAgain : paced.link.pollTimer = some 100500 ∧ 100500 ≤ max paced.now 100500 ∧
    paced.link.state = .up ∧ paced.offCondition = false ∧ paced.link.cache.staleTimer = some 100500 ∧
    paced.link.cache.fresh = true ∧ paced.link.passTimer = some 100500 ∧ paced.bay.reidentify = some 100500 ∧
    (standing .unlinked paced).bay.occupancy = .unlinked ∧ (standing .unlinked paced).link.state ≠ .unplugged := by decide +kernel

theorem test_poll_timer : after (.pollTimerExpiry 100500) paced (fun u =>
    decide (u.link.pollTimer = some 130500) && u.link.asks .readTemp) = true := by decide +kernel

theorem test_stale_timer : after (.cacheStaleTimerExpiry 100500) paced (fun u =>
    decide (u.link.cache.fresh = false ∧ u.link.cache.content = .reading 4)) = true := by decide +kernel

theorem test_pass_timer : after (.passTimerExpiry 100500) paced (fun u =>
    decide (u.link.passTimer = some 700500) && u.link.asks (.faultNext 0)) = true := by decide +kernel

theorem test_reidentify_timer : after (.reidentifyTimerExpiry 100500) (standing .unlinked paced) (fun u =>
    u.link.asks .identify) = true := by decide +kernel

/-! ### The lamp check -/

def acked (n : Nat) (st : Stage) (channel : Nat) (on : Bool) : State := asking (.lampSet channel on) (checking n st stood)

/-- The step's short has been taken: its feed is open and the verdict kept. -/
def shorted (s : State) : State :=
  { s with lamps := { s.lamps with shortTaken := true, measured := some (.short, 1600), feed := false, watchTimer := none } }

/-- A LAMP_SET of a step that sag has caught runs to its end, the off for the loose channel owed. -/
def disowned (s : State) : State :=
  { s with link := { s.link with busy := s.link.busy.map (·.disownLamp) },
           lamps := { s.lamps with offOwed := true, feed := false, watchTimer := none, sagRetry := true } }

/-- The LAMP_SET on the wires is the off itself. -/
def paid (s : State) : State := { s with lamps := { s.lamps with offOwed := false } }

theorem witness_AcknowledgementsMoveTheStepOn :
    (feeding (acked 1 .feedOn 3 true)).link.busy =
      some { request := .lampSet 3 true, tag := 5, timer := 100250, live := true } ∧
    (feeding (acked 1 .feedOn 3 true)).lamps.running = true ∧ (feeding (acked 1 .feedOn 3 true)).link.state = .up ∧
    (feeding (acked 1 .feedOn 3 true)).link.lampReq = none ∧
    (feeding (acked 1 .feedOn 3 true)).lamps.stage = some .feedOn ∧
    (feeding (acked 1 .feedOn 3 true)).lamps.shortTaken = false ∧
    (feeding (acked 1 .clearOff 3 false)).lamps.stage = some .clearOff ∧
    (feeding (acked 1 .clearOff 3 false)).lamps.loose = some 3 ∧
    (feeding (acked 1 .clearOff 3 false)).lamps.current =
      some { channel := 3, flashing := false, blocking := true, onThreshold := 20 } ∧
    max depot.now 100250 ≤ 100250 ∧
    (shorted (feeding (acked 1 .feedOn 3 true))).lamps.shortTaken = true ∧
    (shorted (feeding (acked 1 .feedOn 3 true))).lamps.stage = some .feedOn ∧
    (shorted (feeding (acked 1 .feedOn 3 true))).lamps.current.isSome = true ∧
    (disowned (feeding (acked 1 .sagWait 3 true))).link.busy =
      some { request := .lampSet 3 true, tag := 5, timer := 100250, live := false } ∧
    (disowned (feeding (acked 1 .sagWait 3 true))).lamps.offOwed = true ∧
    (disowned (feeding (acked 1 .sagWait 3 true))).lamps.loose = some 3 ∧
    (disowned (feeding (acked 1 .sagWait 3 true))).lamps.running = true ∧
    (disowned (feeding (acked 1 .sagWait 3 false))).lamps.loose = some 3 ∧
    (disowned (feeding (acked 1 .sagWait 4 false))).lamps.loose = some 3 ∧
    (disowned (feeding (acked 1 .sagWait 4 false))).link.lampReq = none ∧
    (paid (disowned (feeding (acked 1 .sagWait 3 false)))).lamps.offOwed = false := by decide +kernel

theorem test_lamp_on_acknowledged : after (.lampSetResponse 100100 5 3 true) (feeding (acked 1 .feedOn 3 true)) (fun u =>
    decide (u.lamps.stage = some .warm ∧ u.lamps.warmTimer = some 100400)) = true := by decide +kernel

/-- R66, R77: an acknowledged on goes to SWITCH_OFF once the short is taken, and lets the off owed follow once sag has caught the step. -/
theorem test_lamp_on_acknowledged_late :
    after (.lampSetResponse 100100 5 3 true) (shorted (feeding (acked 1 .feedOn 3 true))) (fun u =>
      decide (u.lamps.stage = some .switchOff ∧ u.lamps.feed = false) && u.link.asks (.lampSet 3 false)) = true ∧
    after (.lampSetResponse 100100 5 3 true) (disowned (feeding (acked 1 .sagWait 3 true))) (fun u =>
      decide (u.lamps.stage = some .sagWait ∧ u.lamps.loose = some 3) && u.link.asks (.lampSet 3 false)) = true := by
  decide +kernel

def measuredAs (v : Verdict) (s : State) : State := { s with lamps := { s.lamps with measured := some (v, 150) } }

def sagging (s : State) : State := { s with supply := { s.supply with sag := true } }

theorem witness_SwitchOffRecordsTheStep :
    (measuredAs .high (feeding (acked 1 .switchOff 3 false))).link.busy =
      some { request := .lampSet 3 false, tag := 5, timer := 100250, live := true } ∧
    (measuredAs .high (feeding (acked 1 .switchOff 3 false))).lamps.running = true ∧
    (measuredAs .high (feeding (acked 1 .switchOff 3 false))).link.state = .up ∧
    (measuredAs .high (feeding (acked 1 .switchOff 3 false))).link.lampReq = none ∧
    (measuredAs .high (feeding (acked 1 .switchOff 3 false))).lamps.stage = some .switchOff ∧
    (measuredAs .high (feeding (acked 1 .switchOff 3 false))).lamps.step = some 1 ∧ 1 ≤ 1 ∧
    (measuredAs .high (feeding (acked 1 .switchOff 3 false))).lamps.program[1 - 1]? =
      some { channel := 3, flashing := false, blocking := true, onThreshold := 20 } ∧
    (measuredAs .high (feeding (acked 1 .switchOff 3 false))).lamps.measured = some (.high, 150) ∧
    (measuredAs .high (feeding (acked 1 .switchOff 3 false))).lamps.loose = some 3 ∧ Verdict.high ≠ .ok ∧
    (measuredAs .high (feeding (acked 1 .switchOff 3 false))).sessionOpen = true ∧
    (measuredAs .high (feeding (acked 1 .switchOff 3 false))).faults.records.length < 24 ∧
    1 < (measuredAs .high (feeding (acked 1 .switchOff 3 false))).lamps.program.length ∧
    (measuredAs .high (feeding (acked 1 .switchOff 3 false))).supply.sag = false ∧
    (sagging (measuredAs .short (acked 1 .switchOff 3 false))).supply.sag = true ∧
    2 = (measuredAs .ok (feeding (acked 2 .switchOff 4 false))).lamps.program.length ∧ max depot.now 100250 ≤ 100250 := by
  decide +kernel

/-- Step 1 has been recorded as HIGH. -/
def lastStep (s : State) : State :=
  { s with lamps := { s.lamps with sheet := { s.lamps.sheet with entries :=
      [{ step := 1, channel := 3, blocking := true, result := some (.high, 250) },
       { step := 2, channel := 4, blocking := false, result := none }] } } }

/-- R72, R73: step 1 is recorded and step 2 begins; the last step completes the sheet, two steps at fault and one of them blocking. -/
theorem test_lamp_off_acknowledged :
    after (.lampSetResponse 100100 5 3 false) (measuredAs .high (feeding (acked 1 .switchOff 3 false))) (fun u =>
      decide (u.lamps.step = some 2 ∧ u.lamps.stage = some .feedOn ∧
        u.faults.records.map (fun r => (r.origin, r.module, r.code, r.severity)) = [(.lamp, 3, 2, .blocking)])) = true ∧
    after (.lampSetResponse 100100 5 4 false) (measuredAs .low (lastStep (feeding (acked 2 .switchOff 4 false)))) (fun u =>
      decide (u.lamps.sheet.state = .complete ∧ u.lamps.running = false) && u.notices.tells .lampSheetDone 258) = true := by
  decide +kernel

def failed (n : Nat) (s : State) : State := { s with lamps := { s.lamps with failures := n } }

theorem witness_LampFailuresRetryOnceThenWait :
    (feeding (acked 1 .feedOn 3 true)).link.busy =
      some { request := .lampSet 3 true, tag := 5, timer := 100250, live := true } ∧ 100250 ≤ max depot.now 100250 ∧
    (failing 1 (feeding (acked 1 .feedOn 3 true))).link.failureRun + 1 < 3 ∧
    (feeding (acked 1 .feedOn 3 true)).link.state = .up ∧ (feeding (acked 1 .feedOn 3 true)).link.lampReq = none ∧
    (feeding (acked 1 .feedOn 3 true)).lamps.running = true ∧
    (feeding (acked 1 .feedOn 3 true)).lamps.stage = some .feedOn ∧
    (feeding (acked 1 .feedOn 3 true)).lamps.shortTaken = false ∧ (feeding (acked 1 .feedOn 3 true)).lamps.failures = 0 ∧
    (failed 1 (feeding (acked 1 .switchOff 3 false))).lamps.failures = 1 ∧
    (failed 1 (acked 1 .clearOff 4 false)).lamps.stage = some .clearOff ∧
    (failed 1 (shorted (feeding (acked 1 .feedOn 3 true)))).lamps.shortTaken = true ∧
    (shorted (feeding (acked 1 .feedOn 3 true))).lamps.failures = 0 ∧
    (shorted (feeding (acked 1 .feedOn 3 true))).lamps.current.isSome = true ∧
    (acked 1 .paused 4 false).lamps.stage = some .paused ∧ (acked 1 .paused 4 false).lamps.failures = 0 ∧
    (disowned (feeding (acked 1 .sagWait 3 true))).link.busy =
      some { request := .lampSet 3 true, tag := 5, timer := 100250, live := false } ∧
    (disowned (feeding (acked 1 .sagWait 3 true))).lamps.offOwed = true ∧
    (disowned (feeding (acked 1 .sagWait 3 true))).lamps.loose = some 3 ∧
    (paid (disowned (feeding (acked 1 .sagWait 3 false)))).lamps.offOwed = false := by decide +kernel

theorem test_lamp_set_fails_twice :
    after (.linkTimeout 100250) (failed 1 (feeding (acked 1 .feedOn 3 true))) (fun u => decide (
      u.lamps.stage = some .linkWait ∧ u.lamps.linkWaitTimer = some 102250 ∧ u.lamps.feed = false)) = true := by decide +kernel

/-- R66: after a short reading a failed on is not raised again. -/
theorem test_shorted_on_fails : after (.linkTimeout 100250) (shorted (feeding (acked 1 .feedOn 3 true))) (fun u =>
    decide (u.lamps.stage = some .switchOff ∧ u.lamps.failures = 1) && u.link.asks (.lampSet 3 false) &&
    !u.link.asks (.lampSet 3 true)) = true := by decide +kernel

def warming (n : Nat) : State :=
  let s := feeding (checking n .warm stood)
  { s with lamps := { s.lamps with warmTimer := some 100300 } }

/-- Step 2 in its capture: lit accepted and left three times, a fourth rise ripe at 101420. -/
def capturing (window : Nat) (rises : List Nat) : State :=
  let s := feeding (checking 2 .measure stood)
  let x : Capture :=
    { window := window, lit := turning false 101400, litAtOpening := false, fallen := true, rises := rises, falls := [] }
  { s with lamps := { s.lamps with capture := some x } }

theorem witness_WarmTimeEndsInMeasuring : (warming 1).lamps.warmTimer = some 100300 ∧ 100300 ≤ max (warming 1).now 100300 ∧
    (warming 1).lamps.current.isSome = true ∧ (warming 2).lamps.current.map (·.flashing) = some true ∧
    (∃ x, (capturing 103300 [100400, 100900]).lamps.capture = some x ∧ x.lit.level ≠ true ∧
      x.lit.ripe 20 (max (capturing 103300 [100400, 100900]).now 101420) ∧ (true = true → x.rises.length < 3) ∧
      x.rises.length ≤ 3) :=
  ⟨rfl, by decide +kernel, rfl, rfl, _, rfl, by decide, ⟨101400, rfl, by decide +kernel⟩, fun _ => by decide, by decide⟩

theorem test_warm_ends : after (.warmTimerExpiry 100300 60) (warming 1) (fun u => decide (u.lamps.meanTimer = some 100500)) = true ∧
    after (.warmTimerExpiry 100300 60) (warming 2) (fun u => decide (
      u.lamps.capture.map (fun x => (x.window, x.litAtOpening)) = some (103300, true))) = true := by decide +kernel

def measuring : State :=
  let s := feeding (checking 1 .measure stood)
  { s with lamps := { s.lamps with meanTimer := some 100500 } }

theorem witness_MeasurementsEndInSwitchOff : measuring.lamps.running = true ∧ measuring.lamps.current.isSome = true ∧
    measuring.link.state = .up ∧ measuring.link.lampReq = none ∧ measuring.lamps.meanTimer = some 100500 ∧
    100500 ≤ max measuring.now 100500 ∧
    (∃ x, (capturing 103300 [100400]).lamps.capture = some x ∧ x.window ≤ max (capturing 103300 [100400]).now 103300) ∧
    (∃ x, (capturing 103300 [100400, 100900, 101000]).lamps.capture = some x ∧ x.lit.level = false ∧
      x.lit.ripe 20 (max (capturing 103300 [100400, 100900, 101000]).now 101420) ∧ x.rises.length = 3) :=
  ⟨rfl, rfl, rfl, rfl, rfl, by decide +kernel, ⟨_, rfl, by decide +kernel⟩,
    ⟨_, rfl, rfl, ⟨101400, rfl, by decide +kernel⟩, rfl⟩⟩

/-- R61: 150 lies in bands 1 and 2, and band 1 decides. -/
theorem test_steady_measured : after (.steadyMeasureEnd 100500 150) measuring (fun u =>
    decide (u.lamps.measured = some (.ok, 150)) && u.link.asks (.lampSet 3 false)) = true := by decide +kernel

/-- R70: one rising edge is NO_FLASH; a capture that ends on its fourth edge measures its periods. -/
theorem test_captures_end :
    after (.captureWindowExpiry 103300 7 150) (capturing 103300 [100400]) (fun u => decide (
      u.lamps.measured = some (.noFlash, 150) ∧ u.lamps.stage = some .switchOff)) = true ∧
    after (.litLevelAccepted 101420 true 150) (capturing 103300 [100400, 100900]) (fun u => decide (
      u.lamps.capture.map (·.rises) = some [100400, 100900, 101420])) = true := by decide +kernel

theorem witness_ShortWatchOpensTheFeed : measuring.lamps.watchTimer = some 100020 ∧ 100020 ≤ max measuring.now 100020 ∧
    resolve measuring.start.image.bands 1499 ≠ .short ∧ resolve measuring.start.image.bands 1500 = .short ∧
    measuring.lamps.running = true ∧ measuring.lamps.current.isSome = true ∧ measuring.link.state = .up ∧
    measuring.link.lampReq = none ∧ measuring.lamps.stage = some .measure ∧ measuring.link.liveLampSet = false ∧
    (feeding (acked 1 .feedOn 3 true)).lamps.stage = some .feedOn ∧
    (feeding (acked 1 .feedOn 3 true)).link.liveLampSet = true := by decide +kernel

theorem test_short_watch :
    after (.shortWatchBlockEnd 100020 1499) measuring (fun u => decide (u.lamps.watchTimer = some 100040)) = true ∧
    after (.shortWatchBlockEnd 100020 1500) measuring (fun u => decide (u.lamps.feed = false ∧ u.lamps.stage = some .switchOff ∧
      u.lamps.measured = some (.short, 1500))) = true := by decide +kernel

def waiting (begun : Bool) : State :=
  let s := checking 1 .linkWait stood
  { s with lamps := { s.lamps with failures := 2, begunAgain := begun, linkWaitTimer := some 102250, loose := some 3 } }

theorem witness_LinkWaitBeginsAgainOrEndsTheCheck : (waiting false).lamps.linkWaitTimer = some 102250 ∧
    102250 ≤ max (waiting false).now 102250 ∧ (waiting false).lamps.running = true ∧ (waiting false).lamps.step = some 1 ∧
    (waiting false).lamps.current.isSome = true ∧ (waiting false).link.state = .up ∧
    (waiting false).lamps.stage = some .linkWait ∧ (waiting false).lamps.begunAgain = false ∧
    (waiting false).supply.sag = false ∧ (waiting false).lamps.shortTaken = false ∧ (waiting false).lamps.loose = some 3 ∧
    (sagging (waiting false)).supply.sag = true ∧ (waiting true).lamps.begunAgain = true ∧
    ({ waiting false with lamps := { (waiting false).lamps with loose := none } } : State).lamps.loose = none ∧
    ({ waiting false with lamps := { (waiting false).lamps with shortTaken := true } } : State).lamps.shortTaken = true := by
  decide +kernel

/-- R75: begun again with the loose channel first; the second wait ends the check, two steps INCOMPLETE, one blocking. -/
theorem test_link_wait :
    after (.linkWaitExpiry 102250) (waiting false) (fun u => decide (u.lamps.stage = some .clearOff) &&
      u.link.asks (.lampSet 3 false)) = true ∧
    after (.linkWaitExpiry 102250) (waiting true) (fun u => decide (u.lamps.sheet.state = .complete) &&
      u.notices.tells .lampSheetDone 258) = true := by decide +kernel

/-- Coach 1234 of a class with no steps. -/
def stepless (s : State) : State :=
  { s with start := { s.start with image := { s.start.image with classes := #v[figures, { figures with program := [] }, figures, figures] } } }

theorem witness_RecheckEmptiesTheSheetAndOwesAPass : stood.configured = true ∧
    stood.bay.session = .opened { coach := 1234, cls := 1 } ∧ (leaving .ready stood).dep.state.early = true ∧
    stood.lamps.running = false ∧ (standing .present stood).bay.occupancy ≠ .connected ∧ (sagging stood).supply.sag = true ∧
    stood.bay.occupancy = .connected ∧ stood.supply.sag = false ∧ stood.link.state = .up ∧
    stood.figures.map (·.program) = some program ∧ program ≠ [] ∧ depot.sessionOpen = false ∧
    (leaving .settling stood).dep.state.early = false ∧ (checking 1 .warm stood).lamps.running = true ∧
    (leaving .ready (stepless stood)).dep.waiveLamp = false ∧ (leaving .ready (stepless stood)).configured = true ∧
    (leaving .ready (stepless stood)).figures.map (·.program) = some [] ∧ (leaving .ready (stepless stood)).dep.state = .ready ∧
    (leaving .ready (stepless stood)).bay.occupancy = .connected ∧ (leaving .ready (stepless stood)).supply.sag = false := by
  decide +kernel

/-- R65, R73, R150, R161: a check of no steps takes READY over ASSIGNED, with a claim due; under a depot hold it is READY again. -/
theorem test_recheck_of_no_steps : after (.recheckLamps 100100)
    (leaving .ready { stepless stood with dep := { stood.dep with hold := true } }) (fun u =>
    decide (u.dep.state = .ready ∧ u.line.departSlot = true ∧ u.lamps.sheet.state = .complete)) = true := by decide +kernel

theorem test_recheck :
    after (.recheckLamps 100100) stood (fun u => decide (u.lamps.step = some 1 ∧ u.lamps.stage = some .feedOn) &&
      u.link.asks (.lampSet 3 true)) = true ∧
    after (.recheckFaults 100100) stood (fun u => u.link.asks (.faultNext 0)) = true := by decide +kernel

/-- Lowest-numbered match, no match, a band turned round, the top of the range. -/
theorem witness_TheLowestNumberedMatchingBandDecides :
    (bands[1]? = some { lower := 100, upper := 200, label := .ok } ∧ 100 ≤ 200 ∧
      (∀ (j : Nat) (b' : Band), j < 1 → bands[j]? = some b' → 200 < b'.lower ∨ b'.upper < 200)) ∧
    (∀ b ∈ bands, 301 < b.lower ∨ b.upper < 301) ∧ 1999 < 2000 :=
  ⟨⟨rfl, by decide, fun j b' hj hb => by
    obtain rfl : j = 0 := by omega
    cases hb
    exact .inl (by decide)⟩, by decide +kernel, by decide⟩

theorem test_bands : resolve bands 200 = .ok ∧ resolve bands 201 = .low ∧ resolve bands 301 = .unclassified ∧
    resolve bands 1500 = .short ∧ resolve [] 2000 = .short ∧ resolve [] 1999 = .unclassified := by decide +kernel

/-- Two edges 300 ms apart; the shortest period above the longest, and the least duty above the greatest. -/
def twoEdges : Capture :=
  { window := 3000, lit := steady true, litAtOpening := false, fallen := true, rises := [100, 400], falls := [250] }

theorem witness_ReversedFlashLimitsFailEveryLamp : 2 ≤ twoEdges.rises.length ∧
    ({ twoEdges with litAtOpening := true, fallen := false } : Capture).litAtOpening = true ∧
    ¬(twoEdges.litAtOpening = true ∧ twoEdges.fallen = false) ∧ ({ twoEdges with rises := [100] } : Capture).rises.length < 2 ∧
    twoEdges.rises.length ≤ twoEdges.falls.length + 1 ∧ twoEdges.rises.head? = some 100 ∧ twoEdges.rises.getLast? = some 400 ∧
    300 = (400 - 100) / (twoEdges.rises.length - 1) ∧
    150 = ((List.range (twoEdges.rises.length - 1)).map fun n => twoEdges.falls.getD n 0 - twoEdges.rises.getD n 0).sum ∧
    50 = 100 * 150 / (400 - 100) ∧
    ({ Image.default with shortestPeriod := 2000, longestPeriod := 250 } : Image).longestPeriod <
      ({ Image.default with shortestPeriod := 2000, longestPeriod := 250 } : Image).shortestPeriod ∧
    ({ Image.default with leastDuty := 80, greatestDuty := 20 } : Image).greatestDuty <
      ({ Image.default with leastDuty := 80, greatestDuty := 20 } : Image).leastDuty := by decide +kernel

theorem test_flash_verdicts : flashVerdict Image.default twoEdges = .ok ∧
    flashVerdict { Image.default with shortestPeriod := 301 } twoEdges = .fast ∧
    flashVerdict { Image.default with leastDuty := 51 } twoEdges = .duty ∧
    flashVerdict Image.default { twoEdges with litAtOpening := true, fallen := false } = .stuckOn ∧
    flashVerdict Image.default { twoEdges with rises := [100] } = .noFlash := by decide +kernel

/-! ### Heat and supply -/

theorem witness_LeadIsZeroExactlyWhenWarmAndAtMost240 : (100 : Nat) ≤ 600 ∧ (36 : Int) ≤ 36 ∧ ((-11 : Int) < 36) ∧
    ((57 : Int) = -11 + 36 - 2 * (-16) ∧ (0 : Int) < 57 ∧ (4 * 3562 : Int) ≤ 250 * 57 ∧ (250 * 57 : Int) < 4 * 3562 + 4) ∧
    ((0 : Nat) < 8000 ∧ (8000 : Int) ≤ 8 * 4438 ∧ (30 * 600 * (36 - (-11)) : Int) ≤ 191 * 4438 ∧
      ((191 : Int) - 1) * 4438 < 30 * 600 * (36 - (-11))) ∧
    ((-22 : Int) = 30 + 36 - 2 * 44 ∧ (-22 : Int) ≤ 0 ∧ (0 : Int) = 0) ∧ ((8 : Int) * 188 < 8000) ∧ ((0 : Nat) = 0) := by
  decide +kernel

/-- Bay 7 is starved beside bay 3, which ranks before it. -/
def sharing : State :=
  let s := leaving .assigned stood
  let s := peer 3 (some { state := .heating, wanted := 4, power := 40, latest := -120, heard := 99000 }) none none s
  { s with
    heat := { s.heat with state := .starved, called := true, wanted := 4, claimTimer := some 102000 },
    link := { s.link with pollTimer := some 130000, cache :=
      { content := .reading 0, taken := 99, fresh := true, staleTimer := some 219000 } },
    lead := { s.lead with lead := 60, cabin := some (0, .cabin), latest := some (-3500) } }

theorem witness_RoundServesTheRankWithinTheBudget : sharing.tableRight ∧ HeatState.contends sharing.heat.state = true ∧
    sharing.lead.latest = some (-3500) ∧ HeatState.contends stood.heat.state = false ∧ stood.tableRight ∧
    (allocate 400 sharing.roundCandidates).map (fun g => (g.1.station, g.2)) = [(7, 4), (3, 4)] ∧
    stood.ownCandidate = none := by decide +kernel

/-- R102, R105: a part heard 1.999 s ago is one whole second older; a peer in SHED and one that wants nothing are no candidates. -/
theorem test_round_candidates :
    ({ sharing with now := 100999 } : State).roundCandidates.map (fun c => (c.station, c.latest)) = [(7, -3500), (3, -121)] ∧
    (peer 5 (some { state := .shed, wanted := 4, power := 40, latest := 0, heard := 99000 }) none none
      (peer 4 (some { state := .maintain, wanted := 0, power := 40, latest := 0, heard := 99000 }) none none
        sharing)).roundCandidates.map (·.station) = [7, 3] := by decide +kernel

theorem witness_ClaimPeriodTakesTheRound : sharing.heat.claimTimer = some 102000 ∧ 102000 ≤ max sharing.now 102000 ∧
    sharing.configured = true := by decide +kernel

/-- R129, R131: the own latest start is the earlier; four stages are granted, none drawn before the hold-off. -/
theorem test_claim_period : after (.claimPeriodExpiry 102000) sharing (fun u => decide (u.heat.grant = 4 ∧ u.heat.intended = 4 ∧
    u.heat.drawn = 0 ∧ u.heat.state = .heating ∧ u.line.heatSlot = true ∧ u.heat.claimTimer = some 104000)) = true := by
  decide +kernel

/-- The same bay four seconds after its claim announced two stages. -/
def announced : State :=
  { sharing with heat := { sharing.heat with state := .heating, grant := 4, intended := 4,
                                             announced := #v[some 98000, some 98001, none, none] } }

theorem witness_ClaimPeriodTakesTheRound_rises : announced.heat.claimTimer = some 102000 ∧ announced.configured = true ∧
    (evalHeat (readPeers (announced.advance 102000))).heat.state = .heating ∧
    (evalHeat (readPeers (announced.advance 102000))).heat.drawn < (evalHeat (readPeers (announced.advance 102000))).ownGrant ∧
    (evalHeat (readPeers (announced.advance 102000))).heat.drawn < (evalHeat (readPeers (announced.advance 102000))).heat.wanted ∧
    announced.heat.announcement (0 + 1) = some 98000 ∧ 98000 + 4000 ≤ max announced.now 102000 := by decide +kernel

theorem witness_DrawnRisesOnlyToAnAnnouncedLevel : after (.claimPeriodExpiry 102000) announced (fun u =>
    decide (announced.heat.drawn < u.heat.drawn ∧ u.heat.drawn = 1)) = true := by decide +kernel

def dipping : State := { stood with supply := { stood.supply with level := 200, dip := some 100020 } }

def recovering : State := { stood with supply := { stood.supply with sag := true, recovery := some 110000 } }

/-- A called bay whose claim to draw a sag would shed. -/
def dippingWarm : State := { announced with supply := dipping.supply }

theorem witness_SupplyMonitorDetectsAndRecovers : State.reset.start.phase = .reading ∧ stood.start.phase ≠ .reading ∧
    recovering.supply.sag = true ∧ stood.supply.sag = false ∧ dipping.supply.dip = some 100020 ∧
    100020 ≤ max dipping.now 100020 ∧ dipping.supply.sag = false ∧ dipping.feedSafe ∧ dippingWarm.heat.called = true ∧
    dippingWarm.offCondition = false ∧ dippingWarm.heat.heaterFault = false ∧ recovering.supply.recovery = some 110000 ∧
    110000 ≤ max recovering.now 110000 ∧ (checking 1 .paused recovering).lamps.running = true ∧
    (checking 1 .paused recovering).lamps.stage = some .paused ∧ (checking 1 .paused recovering).lamps.current.isSome = true ∧
    (checking 1 .paused recovering).link.state = .up ∧ (checking 1 .paused recovering).lamps.shortTaken = false ∧
    (checking 1 .paused recovering).lamps.loose = none ∧ (checking 1 .sagWait recovering).lamps.stage = some .sagWait := by
  decide +kernel

/-- The same step caught once before. -/
def caughtBefore (s : State) : State := { s with lamps := { s.lamps with sagRetry := true } }

/-- The clauses on a step that the sag catches: with nothing, and with a LAMP_SET on the wires; first and second sag, before and at the
last step, its short taken or not. Then those on the recovery, with a loose channel and with a short taken. -/
theorem witness_SupplyMonitorMeetsARunningCheck : (checking 1 .clearOff dipping).lamps.running = true ∧
    (asking (.lampSet 4 false) (checking 1 .clearOff dipping)).link.busy.isSome = true ∧
    (checking 1 .clearOff dipping).lamps.stage = some .clearOff ∧ (checking 1 .clearOff dipping).supply.dip = some 100020 ∧
    (checking 1 .linkWait dipping).lamps.stage = some .linkWait ∧ (checking 1 .clearOff dipping).link.lampReq = none ∧
    (feeding (checking 1 .warm dipping)).lamps.step = some 1 ∧
    (feeding (checking 1 .warm dipping)).lamps.program[1 - 1]?.isSome = true ∧
    (feeding (checking 1 .warm dipping)).lamps.stage = some .warm ∧ (feeding (checking 1 .warm dipping)).lamps.shortTaken = false ∧
    (feeding (checking 1 .warm dipping)).lamps.sagRetry = false ∧ (feeding (checking 1 .warm dipping)).lamps.loose = some 3 ∧
    (feeding (checking 1 .warm dipping)).link.state = .up ∧ (feeding (checking 1 .warm dipping)).link.busyLampSet = false ∧
    (checking 1 .feedOn dipping).lamps.loose = none ∧ (asking (.lampSet 3 true) (checking 1 .feedOn dipping)).link.busyLampSet = true ∧
    (shorted (checking 1 .switchOff dipping)).lamps.measured = some (.short, 1600) ∧
    (caughtBefore (checking 1 .measure dipping)).lamps.sagRetry = true ∧ 1 < (checking 1 .measure dipping).lamps.program.length ∧
    2 = (caughtBefore (checking 2 .measure dipping)).lamps.program.length ∧
    (caughtBefore (checking 2 .measure dipping)).lamps.step = some 2 ∧
    (caughtBefore (checking 2 .measure dipping)).lamps.program[2 - 1]?.isSome = true ∧ Verdict.incomplete ≠ .ok ∧
    (checking 1 .measure dipping).sessionOpen = true ∧ (checking 1 .measure dipping).faults.records.length < 24 ∧
    (feeding (checking 1 .sagWait recovering)).lamps.loose = some 3 ∧
    (shorted (checking 1 .sagWait recovering)).lamps.shortTaken = true ∧
    (shorted (checking 1 .sagWait recovering)).lamps.current.isSome = true := by decide +kernel

/-- R135: 21.0 V is the threshold of code 2; below it the 20 ms run, at 21.5 V the recovery does not. -/
theorem test_supply_levels :
    after (.supplySenseChange 100100 209) stood (fun u => decide (u.supply.dip = some 100120)) = true ∧
    after (.supplySenseChange 100100 215) recovering (fun u => decide (u.supply.recovery = none)) = true := by decide +kernel

theorem test_sag_detected : after (.sagDetected 100020) dippingWarm (fun u => decide (u.heat.state = .shed ∧ u.supply.sag = true) &&
    (u.notices.get .supplySag).pending) = true := by decide +kernel

/-- R77, R78: the first sag waits with the off asked for, the second is recorded and the next step PAUSED. -/
theorem test_sag_catches :
    after (.sagDetected 100020) (feeding (checking 1 .warm dipping)) (fun u =>
      decide (u.lamps.stage = some .sagWait ∧ u.lamps.measured = some (.incomplete, 0) ∧ u.lamps.feed = false) &&
      u.link.asks (.lampSet 3 false)) = true ∧
    after (.sagDetected 100020) (shorted (caughtBefore (checking 1 .switchOff dipping))) (fun u =>
      decide (u.lamps.stage = some .paused ∧ u.lamps.step = some 2 ∧
        u.lamps.sheet.entries.map (·.result) = [some (.short, 1600), none])) = true := by decide +kernel

/-- R78: the recovery clears a loose channel first, and after a short only switches off. -/
theorem test_recovered_step :
    after (.supplyRecovered 110000) (checking 2 .sagWait { recovering with lamps := { recovering.lamps with loose := some 3 } }) (fun u =>
      decide (u.lamps.stage = some .clearOff ∧ u.lamps.feed = false) && u.link.asks (.lampSet 3 false)) = true ∧
    after (.supplyRecovered 110000) (shorted (checking 1 .sagWait recovering)) (fun u =>
      decide (u.lamps.stage = some .switchOff ∧ u.lamps.feed = false) && u.link.asks (.lampSet 3 false)) = true := by
  decide +kernel

theorem test_supply_recovered : after (.supplyRecovered 110000) (checking 1 .paused recovering) (fun u =>
    decide (u.supply.sag = false ∧ u.lamps.stage = some .feedOn ∧ u.lamps.feed = true)) = true := by decide +kernel

/-- A probe and a meter whose times run out at 101000, with one stage drawn: 4000 W expected. -/
def metering (count : Nat) : State :=
  { sharing with
    lead := { sharing.lead with probe := some (-16), probeTimer := some 101000 },
    heat := { sharing.heat with state := .heating, grant := 4, intended := 4, drawn := 1 },
    meter := { count := count, window := some 101000, overdrawRun := 0 } }

def overdrawnOnce (s : State) : State := { s with meter := { s.meter with overdrawRun := 1 } }

def undrawn (s : State) : State := { s with heat := { s.heat with drawn := 0 } }

def foundWeak (s : State) : State := { s with heat := { s.heat with weakFound := true } }

/-- Of a meter of 1 Wh a pulse, 92 pulses are 5520 W and 91 are 5460 W; 5500 W are 5/4 of 4000 W and 500 W more. -/
theorem witness_ProbeAndMeterTakeTheirTimes : (metering 92).lead.probeTimer = some 101000 ∧ 101000 ≤ max (metering 92).now 101000 ∧
    (metering 92).configured = true ∧ (metering 92).meter.window = some 101000 ∧ (metering 92).heat.drawn = 1 ∧
    (metering 92).meter.count * (metering 92).start.image.whPerPulse * 60 = 5520 ∧
    1 * (metering 92).start.image.power * 100 = 4000 ∧ 5 * 4000 + 2000 < 4 * 5520 ∧ 4 * 5460 ≤ 5 * 4000 + 2000 ∧
    (metering 92).meter.overdrawRun = 0 ∧ (overdrawnOnce (metering 92)).meter.overdrawRun ≠ 0 ∧
    (metering 92).sessionOpen = true ∧ (metering 92).faults.records.length < 24 ∧ 2 * (33 * 60) < 4000 ∧ 4000 ≤ 2 * (34 * 60) ∧
    (metering 33).heat.weakFound = false ∧ (undrawn (metering 2)).heat.drawn = 0 ∧ 2 ≤ (undrawn (metering 2)).meter.count ∧
    (undrawn (metering 1)).meter.count < 2 ∧ (foundWeak (metering 33)).heat.weakFound = true ∧
    (metering 92).bay.occupancy = .connected ∧ (metering 92).link.state = .up := by decide +kernel

theorem test_probe : after (.probeTimerExpiry 101000 (-90)) (metering 0) (fun u => decide (u.lead.probe = some (-80) ∧
    u.lead.probeTimer = some 111000 ∧ u.line.airSlot = true)) = true := by decide +kernel

theorem test_meter_pulse : after (.meterPulse 100100) (metering 65535) (fun u => decide (u.meter.count = 65535)) = true ∧
    after (.meterPulse 100100) (metering 3) (fun u => decide (u.meter.count = 4)) = true := by decide +kernel

/-- R138, R139: the second overdraw is a heater fault, a weak heater is recorded. -/
theorem test_meter_windows :
    after (.meterWindowExpiry 101000) (overdrawnOnce (metering 92)) (fun u => decide (u.heat.state = .fault ∧ u.heat.drawn = 0) &&
      u.notices.tells .heaterOverdraw 5520) = true ∧
    after (.meterWindowExpiry 101000) (metering 33) (fun u => decide (u.heat.weakFound = true ∧
      u.faults.records.map (fun r => (r.origin, r.module)) = [(.station, 3)])) = true ∧
    after (.meterWindowExpiry 101000) (foundWeak (metering 33)) (fun u => decide (u.faults.records = [])) = true := by
  decide +kernel

/-! ### The depot line -/

def dueOf (d h a : Bool) (s : State) : State := { s with line := { s.line with departSlot := d, heatSlot := h, airSlot := a } }

def streaming (k : ReportKind) (next : Nat) (s : State) : State :=
  { s with notices := { s.notices with stream := some { kind := k, next := next, first := decide (next = 1) } } }

def silent (s : State) : State := { s with notices := { s.notices with maskAll := true } }

def conditionWaits (src : Source) (s : State) : State :=
  { s with notices := s.notices.set src { s.notices.get src with pending := true, holding := true } }

/-- An active blocking record, in a list that has lost another. -/
def recorded : FaultRecord :=
  { origin := .coach, module := 2, code := 3, severity := .blocking, count := 1, active := true, firstSeen := 1, lastSeen := 2,
    stamp := none }

def reported (s : State) : State := { s with faults := { s.faults with records := [recorded], blockingLost := true } }

theorem witness_IdleBeginsTheFirstWaitingFrame :
    (State.reset.configured = false) ∧ (sending (.air 0) stood).line.inFlight.isSome = true ∧ stood.configured = true ∧
    stood.line.status ≠ .quiet ∧ stood.line.inFlight = none ∧ (dueOf true true true stood).line.departSlot = true ∧
    (dueOf false true true stood).line.departSlot = false ∧ (dueOf false true true stood).line.heatSlot = true ∧
    (dueOf false false true stood).line.heatSlot = false ∧ (dueOf false false true stood).line.airSlot = true ∧
    stood.line.airSlot = false ∧ stood.notices.best = some .start ∧ Source.start.isCondition = false ∧
    (conditionWaits .supplySag (dueOf false false false (silent stood))).notices.best = none ∧
    ({ conditionWaits .supplySag stood with notices :=
        { (conditionWaits .supplySag stood).notices with order := 6 } } : State).notices.best = some .supplySag ∧
    Source.supplySag.isCondition = true ∧ (silent stood).notices.best = none ∧ (silent stood).notices.stream = none ∧
    (streaming .bayStatus 1 (silent stood)).notices.stream = some { kind := .bayStatus, next := 1, first := true } ∧
    ((streaming .bayStatus 1 (silent stood)).reportFrame { kind := .bayStatus, next := 1, first := true }).isSome = true ∧
    (streaming .faults 2 (silent stood)).reportFrame { kind := .faults, next := 2, first := false } = none ∧
    (reported stood).faults.records[0]? = some recorded ∧ (reported stood).faults.records.length ≤ 1 ∧
    (checking 1 .warm stood).lamps.sheet.entries[1]?.isSome = true ∧ (checking 1 .warm stood).lamps.sheet.entries.length ≤ 2 ∧
    sharing.lead.latest = some (-3500) ∧ -18000 ≤ (-18000 : Int) ∧
    after (.supplySenseChange 100100 215) recovering (fun u => decide (u.supply.lowest = some 215)) = true := by decide +kernel

/-- R9, R56, R95, R140: the arguments of four conditions; 3500 s below 0 are 58 whole minutes. -/
theorem test_condition_arguments : stood.conditionArg .linkLost = 1234 ∧ depot.conditionArg .linkLost = 0 ∧
    (reported stood).conditionArg .blockingFault = 257 ∧ stood.conditionArg .addressConflict = 7 ∧
    sharing.conditionArg .heatStarved = 58 := by decide +kernel

/-- R169: the record at its place, the mark of an empty report, and nothing past the end; a pending source is listed while masked. -/
theorem test_report_frames :
    (reported stood).reportFrame { kind := .faults, next := 1, first := true } = some (.faultEntry 1 (some recorded)) ∧
    stood.reportFrame { kind := .faults, next := 1, first := true } = some (.faultEntry 0 none) ∧
    (reported stood).reportFrame { kind := .faults, next := 2, first := false } = none ∧
    (silent stood).bayStatus.maskedPending = 1#16 ∧ stood.bayStatus.maskedPending = 0#16 := by decide +kernel

/-- R87: the departure claim goes first; with no claim due, START takes its instance along. -/
theorem test_idle : after (.lineIdle 100100) (dueOf true true true (leaving .ready stood)) (fun u =>
      decide (u.line.inFlight.map (·.content) = some (.depart .ready 100))) = true ∧
    after (.lineIdle 100100) stood (fun u => decide (u.line.inFlight.map (·.content) = some (.notice .start 0 false) ∧
      (u.notices.get .start).pending = false ∧ (u.notices.get .start).taken = some { arg := 0, more := false })) = true := by
  decide +kernel

/-- START on the wires with cause 1, and raised again since with cause 0 or not. -/
def telling (again : Bool) : State :=
  let s := sending (.notice .start 1 false) stood
  let r := { s.notices.get .start with pending := again, taken := some { arg := 1, more := false } }
  { s with notices := s.notices.set .start r }

def replacing (k : ReportKind) (s : State) : State := { s with notices := { s.notices with replacement := some k } }

def errors (n : Nat) (st : LineStatus) (s : State) : State := { s with line := { s.line with errorRun := n, status := st } }

theorem witness_UnsentFramesKeepWaiting :
    (sending (.air 0) stood).line.inFlight = some { content := .air 0, renewed := false } ∧ Content.kind (.air 0) = 8 ∧
    Content.kind (.depart .none 0) = 1 ∧ Content.kind (.heat .off 0 0 0 40 0) = 2 ∧
    (telling true).line.inFlight = some { content := .notice .start 1 false, renewed := false } ∧
    ((telling true).notices.get .start).taken = some { arg := 1, more := false } ∧ Source.start.isCondition = false ∧
    (sending (.notice .supplySag 0 false) (conditionWaits .supplySag stood)).line.inFlight.isSome = true ∧
    15 ≤ (errors 15 .normal (sending (.air 0) stood)).line.errorRun ∧
    (errors 0 .probing (sending (.air 0) stood)).line.status = .probing ∧
    (dueOf true true false (sending (.air 0) stood)).line.departSlot = true ∧
    (replacing .lamps (streaming .faults 2 (sending (.faultEntry 1 none) stood))).notices.replacement = some .lamps := by
  decide +kernel

/-- R168, R169: the frame that failed is of the old stream, or keeps its place. -/
theorem test_report_frame_unsent :
    after (.arbitrationLost 100100) (replacing .lamps (streaming .faults 2 (sending (.faultEntry 1 none) stood))) (fun u => decide (
      u.notices.stream = some { kind := .lamps, next := 1, first := true } ∧ u.notices.replacement = none)) = true ∧
    after (.transmitError 100100) (streaming .faults 2 (sending (.faultEntry 1 none) stood)) (fun u => decide (
      u.notices.stream = some { kind := .faults, next := 2, first := false } ∧ u.line.errorRun = 1)) = true := by decide +kernel

/-- R89: a claim waits on after an error, and an edge's instance is back. -/
theorem test_unsent_claims_and_edges :
    after (.transmitError 100100) (dueOf true false false (sending (.depart .none 0) stood)) (fun u =>
      decide (u.line.departSlot = true ∧ u.line.inFlight = none)) = true ∧
    after (.transmitError 100100) (telling false) (fun u => decide ((u.notices.get .start).pending = true ∧
      (u.notices.get .start).inst = { arg := 1, more := false })) = true := by decide +kernel

/-- R164: the taken instance joins the newer one. -/
theorem test_arbitration_lost :
    after (.arbitrationLost 100100) (telling true) (fun u => decide (u.line.inFlight = none ∧
      (u.notices.get .start).inst = { arg := 0, more := true })) = true ∧
    after (.arbitrationLost 100100) (telling false) (fun u => decide ((u.notices.get .start).pending = true ∧
      (u.notices.get .start).inst = { arg := 1, more := false })) = true := by decide +kernel

/-- R89, R90: the fifteenth error only counts, the sixteenth makes the line quiet. -/
theorem test_transmit_errors :
    after (.transmitError 100100) (errors 14 .normal (sending (.air 0) stood)) (fun u =>
      decide (u.line.errorRun = 15 ∧ u.line.status = .normal)) = true ∧
    after (.transmitError 100100) (errors 15 .normal (sending (.air 0) stood)) (fun u =>
      decide (u.line.errorRun = 0 ∧ u.line.status = .quiet ∧ u.line.quietTimer = some 110100)) = true := by decide +kernel

/-- Fit to settle: assigned, warm, in order and with the lane free. -/
def settling : State := leaving .settling stood

theorem witness_FinishedClaimsReachTheirOwners :
    (sending (.depart .settling 100) settling).line.inFlight = some { content := .depart .settling 100, renewed := false } ∧
    (Content.depart .settling 100).isReport = false ∧ (sending (.depart .settling 100) settling).dep.state = .settling ∧
    (sending (.depart .settling 100) settling).dep.key = none ∧ (sending (.depart .settling 100) settling).laneSafe ∧
    after (.frameFinished 100100) (sending (.depart .settling 100) settling) (fun u => decide (u.dep.state = .settling)) = true ∧
    after (.frameFinished 100100) (sending (.depart .ready 100) settling) (fun u => decide (u.dep.state = .settling)) = true ∧
    ClaimState.ready ≠ .settling ∧ (1 : Nat) ≤ 1 ∧ (4 : Nat) ≤ 4 ∧ (Content.heat .heating 4 2 0 40 0).isReport = false ∧
    ({ content := .heat .off 0 0 0 40 0, renewed := true } : Flight).renewed = true ∧
    settling.lamps.sheet.state = .complete ∧ depot.bay.occupancy ≠ .connected ∧ depot.sessionOpen = false ∧
    recovering.supply.sag = true ∧ stood.dep.state.moves = false ∧
    after (.frameFinished 100100) (sending (.depart .none 0) depot) (fun u => decide (u.dep.state = depot.dep.state)) = true ∧
    after (.frameFinished 100100) (sending (.heat .starved 4 0 0 40 0) sharing) (fun u =>
      decide (u.heat.state = sharing.heat.state)) = true := by decide +kernel

/-- R88: the slots of the two claims empty, in an empty bay too. -/
theorem test_claims_empty_their_slots :
    after (.frameFinished 100100) (dueOf true false false (sending (.depart .none 0) depot)) (fun u =>
      decide (u.line.departSlot = false)) = true ∧
    after (.frameFinished 100100) (dueOf true false false (sending (.depart .settling 100) settling)) (fun u =>
      decide (u.line.departSlot = false)) = true ∧
    after (.frameFinished 100100) (dueOf false true false (sending (.heat .starved 4 0 0 40 0) sharing)) (fun u =>
      decide (u.line.heatSlot = false)) = true := by decide +kernel

/-- R132, R152: levels 1 and 2 take the moment; the settle runs 3 s from the finish. -/
theorem test_claims_finish :
    after (.frameFinished 100100) (sending (.heat .starved 4 2 0 40 0) sharing) (fun u => decide (u.heat.announced.toList =
      [some 100100, some 100100, none, none])) = true ∧
    after (.frameFinished 100100) (sending (.depart .settling 100) settling) (fun u => decide (
      u.dep.settleTimer = some 103100 ∧ u.dep.key = some (100, 100100))) = true := by decide +kernel

theorem witness_FinishedNoticesAndReportsMoveOn :
    (telling false).line.inFlight = some { content := .notice .start 1 false, renewed := false } ∧
    Source.start.isCondition = false ∧ Source.start ≠ .lampSheetDone ∧ Source.start ≠ .blockingLost ∧
    (sending (.notice .supplySag 0 false) (conditionWaits .supplySag stood)).line.inFlight =
      some { content := .notice .supplySag 0 false, renewed := false } ∧ Source.supplySag.isCondition = true ∧
    ((conditionWaits .supplySag stood).notices.get .supplySag).holding = true ∧
    (Content.faultEntry 0 none).isReport = true ∧
    (streaming .faults 1 (sending (.faultEntry 0 none) stood)).line.inFlight =
      some { content := .faultEntry 0 none, renewed := false } ∧
    (streaming .faults 1 (sending (.faultEntry 0 none) stood)).notices.replacement = none ∧
    (streaming .faults 1 (sending (.faultEntry 0 none) stood)).notices.stream =
      some { kind := .faults, next := 1, first := true } ∧
    (replacing .lamps stood).notices.replacement = some .lamps ∧ (stood.notices.get .supplySag).holding = false ∧
    after (.frameFinished 100100) (sending (.notice .supplySag 0 false) stood) (fun u =>
      decide ((u.notices.get .supplySag).holding = false)) = true := by decide +kernel

def quietened (s : State) : State := { s with line := { s.line with status := .quiet, quietTimer := some 110000 } }

def contested (s : State) : State := { s with line := { s.line with conflict := true, conflictTimer := some 160000 } }

theorem witness_QuietAndConflictRunTheirTimes : (quietened stood).line.quietTimer = some 110000 ∧
    110000 ≤ max (quietened stood).now 110000 ∧ (quietened stood).line.status = .quiet ∧ stood.configured = true ∧
    (contested stood).line.conflictTimer = some 160000 ∧ 160000 ≤ max (contested stood).now 160000 := by decide +kernel

theorem test_quiet_ends : after (.quietTimerExpiry 110000) (quietened stood) (fun u => decide (u.line.status = .probing)) = true := by
  decide +kernel

theorem test_conflict : after (.ownNumberHeard 100100) settling (fun u => decide (u.line.conflictTimer = some 160100 ∧
      u.dep.state = .ready) && (u.notices.get .addressConflict).pending) = true ∧
    after (.conflictTimerExpiry 160000) (contested stood) (fun u => decide (u.line.conflict = false)) = true := by decide +kernel

theorem witness_DiscardedFramesEarnOnlyTheirReceiptMark : Instr.isReceived (.cancel 100100) = true ∧
    State.reset.configured = false := by decide +kernel

theorem test_receipt_marks :
    after (.frameMalformed 100100 false) stood (fun u => decide (u.line.receiptMark = false)) = true ∧
    after (.frameSenderRefused 100100) stood (fun u => decide (u.line.receiptMark = true)) = true ∧
    after (.frameNotForBay 100100) (quietened stood) (fun u => decide (u.line.receiptMark = false)) = true ∧
    after (.unconfiguredFrameReceived 5) State.reset (fun u => decide (u.line.receiptMark = false)) = true := by decide +kernel

theorem witness_OwnFramesAreHeardAsTheyWereSent : bayNumber 1 = true ∧ bayNumber 48 = true ∧ (1 : Nat) ≠ 48 ∧
    fitsSigned24 8388607 = true ∧ fitsSigned24 (-8388608) = true ∧ heatClaimForm 4 4 4 60 = true ∧ heatClaimForm 0 0 0 10 = true ∧
    fitsSigned8 (-128) = true ∧ fitsSigned8 127 = true ∧ (Content.faultEntry 0 none).isReport = true ∧
    Content.air 0 ≠ .heat .off 0 0 0 10 0 ∧ Content.heat .off 0 0 0 10 0 = .heat .off 0 0 0 10 0 := by decide +kernel

/-- The greatest values of every field together, and those of a fresh reset. -/
def largestStatus : BayStatus :=
  { occupancy := .unlinked, heat := .maintain, dep := .settling, drawn := 1, lead := 240, mark := .unreachable, records := 24,
    activeBlocking := 24, activeAdvisory := 0, blockingLost := true, figure := some 255, sheet := .complete, notOk := 16,
    blockingNotOk := 16, maskedPending := 0xFFFF#16 }

theorem witness_OwnFramesAreHeardAsTheyWereSent_status : largestStatus.related ∧ State.reset.bayStatus.related ∧
    largestStatus.sheet = .complete ∧ 459 = 1 + 153 * 2 + largestStatus.notOk * (largestStatus.notOk + 1) / 2 +
      largestStatus.blockingNotOk ∧ 15600 = 625 * largestStatus.records + 25 * largestStatus.activeBlocking +
      largestStatus.activeAdvisory ∧ State.reset.bayStatus.sheet = .empty ∧ State.reset.bayStatus.figure = none :=
  ⟨by decide +kernel, by decide +kernel, by decide +kernel⟩

/-- R178, by hand: 1 1 10 1011; sheet 459, blocking-lost, fault number 625 x 24 + 25 x 24; 242; 255; and of the reset all 0 but 16383. -/
theorem test_status_layout :
    (Content.payload (.bayStatus largestStatus)).map (·.toNat) = [235, 229, 252, 240, 242, 255, 255, 255] ∧
    (Content.payload (.bayStatus State.reset.bayStatus)).map (·.toNat) = [0, 0, 63, 255, 0, 0, 0, 0] := by decide +kernel

/-- Section 12.1: a departure claim of bay 21, READY at -2 s, byte by byte, its check field apart. -/
theorem test_departure_claim_layout :
    (wireFrame 21 (.depart .ready (-2))).payload.map (·.toNat) = [2, 255, 255, 254] ∧
    sortFrame (some 7) 5 (wireFrame 21 (.depart .ready (-2))) = [.departClaimReceived 5 21 .ready (-2)] ∧
    sortFrame (some 21) 5 (wireFrame 21 (.depart .ready (-2))) = [.ownNumberHeard 5] ∧
    sortFrame (some 21) 5 (wireFrame 21 (.heat .starved 4 4 4 60 (-2))) = [.ownNumberHeard 5] := by decide +kernel

/-! ### The peer table -/

def neighbour : State := peer 3 (some { state := .heating, wanted := 4, power := 40, latest := 50, heard := 95000 })
  (some { state := .ready, countdown := 60, heard := 95000 }) (some { temp := 3, heard := 94000 }) stood

theorem witness_PeerClaimsReplaceTheirPart : neighbour.configured = true ∧ neighbour.tableRight ∧ 1 ≤ 1 ∧ 48 ≤ 48 ∧
    48 ≠ neighbour.ownNumber ∧ heatClaimForm 4 4 4 60 = true ∧ 48 < 49 ∧ 7 = neighbour.ownNumber := by decide +kernel

theorem test_peer_claims :
    after (.heatClaimReceived 100100 3 .off 0 0 0 40 9) neighbour (fun u => decide ((u.peers.entry 3).bind (·.heat) =
      some { state := .off, wanted := 0, power := 40, latest := 9, heard := 100100 })) = true ∧
    after (.airTempReceived 100100 48 (-100)) neighbour (fun u => decide (u.peers.lowestGiven = some (-80) ∧
      u.peers.entries.length = 2)) = true ∧
    after (.departClaimReceived 101500 3 .none 0) neighbour (fun u => decide ((u.peers.entry 3).map (fun e =>
      (e.heat.map (·.heard), e.depart.map (·.heard), e.air)) = some (some 95000, some 101500, none))) = true := by decide +kernel

theorem test_departure_claim_received : after (.departClaimReceived 100100 3 .holding 5) settling (fun u =>
    decide (u.dep.state = .ready)) = true := by decide +kernel

theorem witness_PartsExpireAfterSevenSeconds : neighbour.tableRight ∧
    (neighbour.peers.entry 3).bind (PeerEntry.heard .heat) = some 95000 ∧ max neighbour.now 101999 < 95000 + 7000 ∧
    neighbour.peers.entry 4 = none := by decide +kernel

/-- R103: the air part goes 7 s after it was heard, the others stay. -/
theorem test_part_expires : after (.peerPartExpiry 101000 3 .air) neighbour (fun u => decide (
    (u.peers.entry 3).bind (·.air) = none ∧ ((u.peers.entry 3).bind (·.heat)).isSome = true)) = true := by decide +kernel

/-! ### Departure clearance -/

/-- The own settling key: a claim that finished at 99000 with 100 s to go. -/
def keyed : State := { settling with dep := { settling.dep with key := some (100, 99000), settleTimer := some 102000 } }

/-- A peer's claim heard at 100000 is due at 199000 with 99 s to go, the own at 199000: equal, so the number decides. -/
theorem witness_EarlierDueMomentTakesTheLane : keyed.configured = true ∧ keyed.dep.state = .settling ∧ 1 ≤ 1 ∧ 48 ≤ 48 ∧
    1 ≠ keyed.ownNumber ∧ 48 ≠ keyed.ownNumber ∧ settling.dep.key = none ∧ keyed.dep.key = some (100, 99000) ∧ keyed.laneSafe ∧
    after (.departClaimReceived 100000 48 .settling 99) keyed (fun u => decide (u.dep.state = .settling)) = true ∧
    ((max keyed.now 100000 : Nat) : Int) + 1000 * 99 = (99000 : Nat) + 1000 * 100 ∧
    ((max keyed.now 100000 : Nat) : Int) + 1000 * 98 < (99000 : Nat) + 1000 * 100 := by decide +kernel

/-- R154: at equal moments bay 1 wins over bay 7, and bay 7 over bay 48. -/
theorem test_settling_heard :
    after (.departClaimReceived 100000 1 .settling 99) keyed (fun u => decide (u.dep.settleTimer = none ∧ u.dep.state = .ready)) =
      true ∧
    after (.departClaimReceived 100000 48 .settling 99) keyed (fun u => decide (u.dep.settleTimer = some 102000)) = true := by
  decide +kernel

def held (s : State) : State := { s with dep := { s.dep with hold := true, holdTimer := some 130000 } }

theorem witness_DepotHoldStopsLaneEntries : settling.configured = true ∧ (held stood).dep.holdTimer = some 130000 ∧
    130000 ≤ max (held stood).now 130000 := by decide +kernel

theorem test_depot_hold :
    after (.holdSet 100100) settling (fun u => decide (u.dep.state = .ready ∧ u.dep.holdTimer = some 130100)) = true ∧
    after (.holdClear 100100) (held stood) (fun u => decide (u.dep.hold = false ∧ u.dep.holdTimer = none)) = true ∧
    after (.holdTimerExpiry 130000) (held stood) (fun u => decide (u.dep.hold = false)) = true := by decide +kernel

theorem witness_AssignAndCancelSetTheDeparture : stood.configured = true ∧ 65535 ≤ 65535 ∧ stood.dep.wellKept ∧
    settling.dep.wellKept ∧ (leaving .holding stood).dep.wellKept ∧ settling.dep.state ≠ .holding ∧ settling.dep.state ≠ .gone ∧
    (leaving .holding stood).dep.state = .holding ∧ settling.dep.state = .settling ∧ stood.dep.state = .none := by decide +kernel

/-- R164: a second refusal while the first waits leaves one instance, the newer, with the mark. -/
theorem test_refused_more_than_once :
    after (.assign 100100 77 60) (leaving .holding stood) (fun u => after (.assign 100200 78 60) u (fun v =>
      decide ((u.notices.get .assignRefused).inst = { arg := 77, more := false } ∧
        (v.notices.get .assignRefused).inst = { arg := 78, more := true }))) = true := by decide +kernel

/-- R144: an assignment far ahead; one refused in HOLDING. -/
theorem test_assign :
    after (.assign 100100 65535 65535) stood (fun u => decide (u.dep.state = .assigned ∧ u.dep.assignment = some 65535 ∧
      u.dep.countdown = some 65535 ∧ u.dep.nextFall = some 101000)) = true ∧
    after (.assign 100100 77 60) (leaving .holding stood) (fun u => decide (u.dep.state = .holding) &&
      u.notices.tells .assignRefused 77) = true := by decide +kernel

theorem test_cancel :
    after (.cancel 100100) settling (fun u => decide (u.dep.state = .none ∧ u.dep.assignment = none ∧ u.bay.aspect = .red)) = true ∧
    after (.cancel 100100) (leaving .gone stood) (fun u => decide (u.dep.state = .gone)) = true := by decide +kernel

def keyOn (s : State) : State := { s with bay := { s.bay with key := steady true } }

theorem witness_WaiversNeedTheKeyAndASession : (keyOn stood).configured = true ∧ (keyOn stood).sessionOpen = true ∧
    (keyOn stood).bay.key.level = true ∧ stood.bay.key.level = false ∧ (keyOn depot).sessionOpen = false := by decide +kernel

theorem test_waivers :
    after (.waiveLamp 100100) (keyOn stood) (fun u => decide (u.dep.waiveLamp = true)) = true ∧
    after (.waiveFault 100100) (keyOn stood) (fun u => decide (u.dep.waiveFault = true)) = true ∧
    after (.waiveHeat 100100) (keyOn stood) (fun u => decide (u.dep.waiveHeat = true)) = true ∧
    after (.waiveHeat 100100) stood (fun u => decide (u.dep.waiveHeat = false)) = true := by decide +kernel

def released : State :=
  let s := leaving .holding stood
  { s with dep := { s.dep with releaseTimer := some 220000 } }

def inTransit : State :=
  let s := departed (leaving .gone stood)
  { s with dep := { s.dep with transitTimer := some 140000 } }

theorem witness_DepartureTimersMoveTheState : keyed.dep.nextFall = some 101000 ∧ 101000 ≤ max keyed.now 101000 ∧
    keyed.dep.settleTimer = some 102000 ∧ 102000 ≤ max keyed.now 102000 ∧ keyed.dep.state = .settling ∧
    (checking 1 .warm keyed).lamps.running = true ∧ keyed.configured = true ∧ released.dep.releaseTimer = some 220000 ∧
    220000 ≤ max released.now 220000 ∧ released.dep.state = .holding ∧ inTransit.dep.transitTimer = some 140000 ∧
    140000 ≤ max inTransit.now 140000 ∧ inTransit.dep.state = .gone ∧
    inTransit.bay.session = .departing { coach := 1234, cls := 1 } ∧
    ({ inTransit with bay := stood.bay } : State).bay.session = .opened { coach := 1234, cls := 1 } := by decide +kernel

/-- A bay in READY whose only bar is the early release allowance of 120 s, one second above it, and one in ASSIGNED at 601 s. -/
def above (d : DepState) (countdown : Int) : State :=
  let s := leaving d stood
  { s with dep := { s.dep with countdown := some countdown } }

theorem witness_DepartureTimersMoveTheState_tests :
    (above .ready 121).dep.nextFall = some 101000 ∧ (above .ready 121).dep.state = .ready ∧ (above .ready 121).tableRight ∧
    after (.countdownTick 101000) (above .ready 121) (fun u => u.coachConditions && u.lineConditions &&
      u.countdownAtMost u.start.image.allowance && !u.dep.hold && !u.peers.freshHolding &&
      u.ranksFirst (u.dep.countdown.getD 0) && u.countdownAtMost 600) = true ∧
    (above .assigned 601).dep.state = .assigned ∧
    after (.countdownTick 101000) (above .assigned 601) (fun u => u.coachConditions && u.countdownAtMost 600) = true := by
  decide +kernel

/-- R150, R151. -/
theorem test_fit_bays_move_on :
    after (.countdownTick 101000) (above .assigned 601) (fun u => decide (u.dep.state = .ready ∧ u.bay.aspect = .amber)) = true ∧
    after (.countdownTick 101000) (above .ready 121) (fun u => decide (u.dep.state = .settling)) = true ∧
    after (.countdownTick 101000) (above .ready 122) (fun u => decide (u.dep.state = .ready)) = true := by decide +kernel

theorem test_countdown_tick : after (.countdownTick 101000) keyed (fun u => decide (u.dep.countdown = some 99 ∧
    u.dep.nextFall = some 102000)) = true := by decide +kernel

theorem test_green : after (.settleTimerExpiry 102000) keyed (fun u => decide (u.dep.state = .holding ∧ u.bay.aspect = .green ∧
    u.dep.releaseTimer = some 222000)) = true := by decide +kernel

theorem test_release_lapses : after (.releaseWindowExpiry 220000) released (fun u => decide (u.dep.state = .lapsed) &&
    u.notices.tells .releaseLapsed 1234) = true := by decide +kernel

theorem test_transit_over : after (.transitTimerExpiry 140000) inTransit (fun u => decide (u.dep.state = .none ∧
    u.bay.session = .none) && u.notices.tells .sessionEnded 1234) = true := by decide +kernel

/-! ### Notices and reports -/

def repeating (s : State) : State :=
  let r := { s.notices.get .linkLost with holding := true, repeatTimer := some 160000 }
  { s with notices := s.notices.set .linkLost r }

theorem witness_MasksRequestsAndRepeats : stood.configured = true ∧
    ((repeating stood).notices.get .linkLost).repeatTimer = some 160000 ∧ 160000 ≤ max (repeating stood).now 160000 ∧
    ((15#4).zeroExtend 16 : Word16).getLsbD 3 = true := by decide +kernel

/-- R166: sources 0 and 15 by their bits; mask-all overlays them. -/
theorem test_masks :
    after (.maskSetSources 100100 0x8001#16) stood (fun u => decide ((u.notices.get .start).masked = true ∧
      (u.notices.get .assignRefused).masked = true ∧ (u.notices.get .coachIdentified).masked = false)) = true ∧
    after (.maskClearSources 100100 0xFFFF#16) (silent stood) (fun u => u.notices.maskAll && !(u.notices.get .start).masked) = true ∧
    after (.maskAllOn 100100) stood (fun u => u.notices.masked .start) = true ∧
    after (.maskAllOff 100100) (silent stood) (fun u => !u.notices.masked .start) = true := by decide +kernel

/-- R168: a stream begins at place 1, and waits for the old stream's frame. -/
theorem test_report_requests :
    after (.reportReqFaults 100100) stood (fun u =>
      decide (u.notices.stream = some { kind := .faults, next := 1, first := true })) = true ∧
    after (.reportReqLamps 100100) (streaming .faults 2 (sending (.faultEntry 1 none) stood)) (fun u =>
      decide (u.notices.replacement = some .lamps ∧ u.notices.stream = some { kind := .faults, next := 2, first := false })) = true ∧
    after (.reportReqBayStatus 100100) stood (fun u =>
      decide (u.notices.stream = some { kind := .bayStatus, next := 1, first := true })) = true := by decide +kernel

theorem test_notice_repeats : after (.noticeRepeatExpiry 160000 .linkLost) (repeating stood) (fun u =>
    (u.notices.get .linkLost).pending) = true := by decide +kernel

/-- The best source of START and SUPPLY_SAG by the orders of codes 2 and 6, and none while all are masked. -/
theorem witness_BestNoticeIsFirstInTheOrder : (conditionWaits .supplySag stood).notices.best = some .start ∧
    ({ (conditionWaits .supplySag stood).notices with order := 6 } : Notices).best = some .supplySag ∧
    (silent stood).notices.best = none := by decide +kernel

/-! ### The invariants -/

/-- A queued expiry at a state that meets every invariant, with a step that answers. -/
def queued : State := { keyed with pending := [.settleTimerExpiry 102000] }

theorem witness_the_invariants : queued.faults.wellKept ∧ queued.heat.wellKept ∧ queued.headRight ∧ queued.laneSafe ∧
    queued.dep.wellKept := by decide +kernel

theorem witness_the_feed_is_safe : queued.feedSafe := by decide +kernel

theorem witness_the_other_invariants : queued.tableRight ∧ queued.link.wellKept ∧ queued.lineRight ∧ queued.laneTaken :=
  ⟨by decide +kernel, by decide +kernel, by decide +kernel, by decide +kernel⟩

/-- A plugged bay, the part just reset, and the link lost from CONNECTED. -/
theorem witness_the_bay_is_right : queued.bayRight ∧ State.reset.bayRight ∧
    after (.linkTimeout 100250) (failing 2 (asking .readTemp stood)) (fun u =>
      decide u.bayRight && decide (u.bay.occupancy = .unlinked)) = true :=
  ⟨by decide +kernel, by decide +kernel, by decide +kernel⟩

/-- LINK_LOST begins and ends with UNLINKED: pending at its beginning, nothing left at its end (R9, R165). -/
theorem witness_the_notices_are_right : queued.noticesRight ∧
    after (.linkTimeout 100250) (failing 2 (asking .readTemp stood)) (fun u => decide (u.noticesRight) &&
      (u.notices.get .linkLost).holding && (u.notices.get .linkLost).pending &&
      after (.plugAcceptedOut 100300) { u with bay := { u.bay with plug := turning true 100000 } } (fun v =>
        decide v.noticesRight && !(v.notices.get .linkLost).holding && !(v.notices.get .linkLost).pending)) = true := by
  decide +kernel

/-- An assigned bay with its lead and its heat state taken from the inputs as they stand: a cold
coach, 30 x 300 x 66 over 16000 - 2475 W, 44 minutes in whole, called and starved. -/
def governed : State := { evalHeat (recomputeLead (leaving .assigned stood)) with pending := [.claimPeriodExpiry 102000] }

theorem witness_the_heat_is_right : governed.leadRight ∧ governed.heatRight ∧ governed.heat.state = .starved ∧
    governed.lead.lead = 44 := ⟨by decide +kernel, by decide +kernel, by decide +kernel, by decide +kernel⟩

theorem witness_the_lane_is_taken : governed.laneTaken ∧ (held (leaving .ready stood)).laneTaken ∧
    governed.dep.state = .assigned := ⟨by decide +kernel, by decide +kernel, by decide +kernel⟩

theorem witness_the_step_of_the_heat : (match step governed with
    | .next u => decide (u.heat.wanted = 4)
    | _ => false) = true := by decide +kernel

theorem witness_the_step : (match step queued with
    | .next u => decide (u.dep.state = .holding)
    | _ => false) = true := by decide +kernel

/-- The generator x^16 + x^12 + x^5 + 1 from all ones: its well-known check value over the digits 1 to 9 (PRESUMED, from outside
the spec). -/
theorem test_check_field : crc ("123456789".toList.map (fun d => bitsOf (BitVec.ofNat 8 d.toNat))).flatten =
    0x29B1#16 := by decide +kernel

end Sys2Proof.Tests
end

section
/-! SUPPORT. A current against the band table (R61): what `resolve` answers at the top of the sense range, with a band found and with
none, and which band the search finds. -/

namespace Sys2Proof.Machine

open Sys2Proof

/-- A band matches a current that lies between its lower and its upper current, both included (R61). The search in `resolve` is by
this test. -/
def Band.covers (current : Nat) (b : Band) : Bool := decide (b.lower ≤ current) && decide (current ≤ b.upper)

@[simp] theorem Band.covers_iff {current : Nat} {b : Band} :
    b.covers current = true ↔ b.lower ≤ current ∧ current ≤ b.upper := by
  simp [Band.covers]

@[simp] theorem Band.covers_eq_false_iff {current : Nat} {b : Band} :
    b.covers current = false ↔ current < b.lower ∨ b.upper < current := by
  rw [← Bool.not_eq_true, Band.covers_iff]; omega

/-! ### The sense range -/

theorem sensed_of_top_le {current : Nat} (h : 2000 ≤ current) : sensed current = 2000 := Nat.min_eq_right h

theorem sensed_of_lt_top {current : Nat} (h : current < 2000) : sensed current = current := Nat.min_eq_left h.le

/-! ### What `resolve` answers -/

theorem resolve_of_top_le {current : Nat} (bands : List Band) (h : 2000 ≤ current) : resolve bands current = .short :=
  if_pos (sensed_of_top_le h)

/-- Below the top of the sense range the top's SHORT does not apply. -/
theorem sensed_ne_top {current : Nat} (h : current < 2000) : sensed current ≠ Config.senseTop := by
  rw [sensed_of_lt_top h]; exact h.ne

theorem resolve_of_find?_eq_some {bands : List Band} {current : Nat} {b : Band} (h : current < 2000)
    (hb : bands.find? (Band.covers current) = some b) : resolve bands current = b.label.verdict := by
  rw [← sensed_of_lt_top h] at hb
  unfold Band.covers at hb
  rw [resolve, if_neg (sensed_ne_top h), hb]

theorem resolve_of_find?_eq_none {bands : List Band} {current : Nat} (h : current < 2000)
    (hb : bands.find? (Band.covers current) = none) : resolve bands current = .unclassified := by
  rw [← sensed_of_lt_top h] at hb
  unfold Band.covers at hb
  rw [resolve, if_neg (sensed_ne_top h), hb]

/-! ### Which band the search finds -/

/-- The search goes by number: it finds a matching band that no band of a lower number forestalls. -/
theorem find?_covers_eq_some {bands : List Band} {current i : Nat} {b : Band} (hi : bands[i]? = some b)
    (hb : b.covers current = true) (hlower : ∀ j b', j < i → bands[j]? = some b' → b'.covers current = false) :
    bands.find? (Band.covers current) = some b := by
  obtain ⟨hlen, hget⟩ := List.getElem?_eq_some_iff.mp hi
  refine List.find?_eq_some_iff_getElem.mpr ⟨hb, i, hlen, hget, fun j hj => ?_⟩
  have hmiss : bands[j].covers current = false := hlower j _ hj (List.getElem?_eq_getElem (hj.trans hlen))
  rw [hmiss, Bool.not_false]

theorem find?_covers_eq_none {bands : List Band} {current : Nat} (h : ∀ b ∈ bands, b.covers current = false) :
    bands.find? (Band.covers current) = none :=
  List.find?_eq_none.mpr fun b hb => by rw [h b hb]; exact Bool.false_ne_true

/-- Settles O29, by what the search by number finds: the band at `i` when no lower number matches, and none when no band does. A band
whose lower current is above its upper is among those that do not match, whatever the current. -/
theorem theLowestNumberedMatchingBandDecides : Obligations.TheLowestNumberedMatchingBandDecides := by
  intro bands current
  refine ⟨resolve_of_top_le bands, fun hlt => ⟨fun i b hi hlow hup hlower => ?_, fun hnone => ?_⟩⟩
  · have hfirst : bands.find? (Band.covers current) = some b :=
      find?_covers_eq_some hi (Band.covers_iff.mpr ⟨hlow, hup⟩) fun j b' hj hb' =>
        Band.covers_eq_false_iff.mpr (hlower j b' hj hb')
    exact resolve_of_find?_eq_some hlt hfirst
  · have hmiss : bands.find? (Band.covers current) = none :=
      find?_covers_eq_none fun b hb => Band.covers_eq_false_iff.mpr (hnone b hb)
    exact resolve_of_find?_eq_none hlt hmiss

end Sys2Proof.Machine
end

section
/-! SUPPORT. The heat lead (R113 to R116): the whole-number ceiling, the loss as an integer floor, what `computeLead` answers at each
of its stages, and the range of its answer. -/

namespace Sys2Proof.Machine

open Sys2Proof

/-! ### The ceiling of R116 -/

/-- The model's ceiling is Mathlib's, also at a divisor of 0. -/
theorem ceilDiv_eq_ceilDiv (a b : Nat) : ceilDiv a b = a ⌈/⌉ b := by
  rw [Nat.ceilDiv_eq_add_pred_div, ceilDiv]
  split
  · next hb => rw [hb, Nat.div_zero]
  · rfl

theorem ceilDiv_le_iff {a b n : Nat} (hb : 0 < b) : ceilDiv a b ≤ n ↔ a ≤ b * n := by
  rw [ceilDiv_eq_ceilDiv, ceilDiv_le_iff_le_mul hb]

theorem ceilDiv_pos {a b : Nat} (ha : 0 < a) (hb : 0 < b) : 0 < ceilDiv a b := by
  rw [← not_le, ceilDiv_le_iff hb]; omega

/-- The ceiling is the least whole number that covers `a` at `b` each: `n` covers it and one fewer does not. -/
theorem ceilDiv_eq_of_covers {a b n : Nat} (hb : 0 < b) (hcovers : (a : Int) ≤ n * b)
    (hleast : ((n : Int) - 1) * b < a) : ceilDiv a b = n := by
  refine le_antisymm ((ceilDiv_le_iff hb).mpr (by rw [mul_comm]; exact_mod_cast hcovers)) ?_
  have hself : (a : Int) ≤ ceilDiv a b * b := by
    rw [mul_comm]; exact_mod_cast (ceilDiv_le_iff hb).mp le_rfl
  have hlt : (n : Int) - 1 < ceilDiv a b := lt_of_mul_lt_mul_right (hleast.trans_le hself) (by omega)
  omega

/-! ### The loss and the net power (R114) -/

theorem leadLoss_of_nonpos (u : Nat) {sum : Int} (h : sum ≤ 0) : leadLoss u sum = 0 := if_neg h.not_gt

/-- Above 0, the loss is the integer floor of `u × sum ÷ 4`. -/
theorem leadLoss_eq_of_floor {u : Nat} {sum lost : Int} (h : 0 < sum) (hle : 4 * lost ≤ u * sum)
    (hlt : u * sum < 4 * lost + 4) : leadLoss u sum = lost := by
  rw [leadLoss, if_pos h]; omega

/-- The net power of R114: the full rating less the loss. -/
def netPower (target cabin outdoor : Int) (loss rating : Nat) : Int :=
  rating - leadLoss loss (cabin + target - 2 * outdoor)

/-! ### What `computeLead` answers at each stage -/

section
variable {target cabin outdoor : Int} {demand loss rating : Nat}

/-- R113: a cabin at its target ends the computation. -/
theorem computeLead_of_warm (h : target ≤ cabin) : computeLead target cabin outdoor demand loss rating = (0, .none) :=
  if_pos (by omega)

/-- R115: no rating, or a net power below an eighth of it. -/
theorem computeLead_of_unreachable (h : cabin < target)
    (hnet : rating = 0 ∨ 8 * netPower target cabin outdoor loss rating < rating) :
    computeLead target cabin outdoor demand loss rating = (240, .unreachable) :=
  (if_neg (by omega)).trans (if_pos hnet)

/-- R116: the ceiling, cut off at the longest lead. -/
theorem computeLead_of_reachable (h : cabin < target) (hrating : 0 < rating)
    (hnet : (rating : Int) ≤ 8 * netPower target cabin outdoor loss rating) :
    computeLead target cabin outdoor demand loss rating =
      (if 240 < ceilDiv (30 * demand * (target - cabin).toNat) (netPower target cabin outdoor loss rating).toNat
        then (240, .saturated)
        else (ceilDiv (30 * demand * (target - cabin).toNat) (netPower target cabin outdoor loss rating).toNat, .none)) :=
  (if_neg (by omega)).trans (if_neg (by simp only [netPower] at hnet; omega))

/-! ### The range of the lead -/

theorem computeLead_le : (computeLead target cabin outdoor demand loss rating).1 ≤ 240 := by
  rcases le_or_gt target cabin with hwarm | hcold
  · rw [computeLead_of_warm hwarm]; exact Nat.zero_le _
  by_cases hnet : rating = 0 ∨ 8 * netPower target cabin outdoor loss rating < rating
  · rw [computeLead_of_unreachable hcold hnet]
  · rw [computeLead_of_reachable hcold (by omega) (by omega)]
    split
    · exact le_rfl
    · next hle => exact not_lt.mp hle

/-- Below its target a cabin has a positive shortfall, which at a positive heat demand takes at least a minute. -/
theorem computeLead_pos (hcold : cabin < target) (hdemand : 0 < demand) :
    0 < (computeLead target cabin outdoor demand loss rating).1 := by
  by_cases hnet : rating = 0 ∨ 8 * netPower target cabin outdoor loss rating < rating
  · rw [computeLead_of_unreachable hcold hnet]; decide
  · rw [computeLead_of_reachable hcold (by omega) (by omega)]
    have hshortfall : 0 < (target - cabin).toNat := by omega
    split
    · decide
    · exact ceilDiv_pos (by positivity) (by omega)

theorem computeLead_eq_zero_iff (hdemand : 0 < demand) :
    (computeLead target cabin outdoor demand loss rating).1 = 0 ↔ target ≤ cabin := by
  refine ⟨fun hzero => ?_, fun hwarm => by rw [computeLead_of_warm hwarm]⟩
  by_contra hcold
  exact (computeLead_pos (not_le.mp hcold) hdemand).ne' hzero

/-- R116 with the ceiling named by what it is: the least whole number of minutes in which the net power gives the heat. -/
theorem computeLead_of_least_minutes {minutes : Nat} (h : cabin < target) (hrating : 0 < rating)
    (hnet : (rating : Int) ≤ 8 * netPower target cabin outdoor loss rating)
    (hcovers : 30 * (demand : Int) * (target - cabin) ≤ minutes * netPower target cabin outdoor loss rating)
    (hleast : ((minutes : Int) - 1) * netPower target cabin outdoor loss rating < 30 * demand * (target - cabin)) :
    computeLead target cabin outdoor demand loss rating =
      (if 240 < minutes then (240, .saturated) else (minutes, .none)) := by
  have hminutes :
      ceilDiv (30 * demand * (target - cabin).toNat) (netPower target cabin outdoor loss rating).toNat = minutes := by
    have hshortfall : ((target - cabin).toNat : Int) = target - cabin := Int.toNat_of_nonneg (by omega)
    have hpower : ((netPower target cabin outdoor loss rating).toNat : Int) = netPower target cabin outdoor loss rating :=
      Int.toNat_of_nonneg (by omega)
    apply ceilDiv_eq_of_covers
    · omega
    · push_cast [hshortfall, hpower]; exact hcovers
    · push_cast [hshortfall, hpower]; exact hleast
  rw [computeLead_of_reachable h hrating hnet, hminutes]

end

/-- Settles O31, by the stages of R113 to R116: the loss the statement describes is `leadLoss`, so its net power is `netPower`, and
each clause is the stage that answers it. -/
theorem leadIsZeroExactlyWhenWarmAndAtMost240 : Obligations.LeadIsZeroExactlyWhenWarmAndAtMost240 := by
  intro target cabin outdoor demand loss rating hdemand
  refine ⟨computeLead_le, computeLead_eq_zero_iff (by omega), computeLead_of_warm, ?_⟩
  rintro hcold sum lost net rfl hlost rfl
  have hloss : leadLoss loss (cabin + target - 2 * outdoor) = lost := by
    rcases hlost with ⟨hpos, hle, hlt⟩ | ⟨hnonpos, rfl⟩
    · exact leadLoss_eq_of_floor hpos hle hlt
    · exact leadLoss_of_nonpos loss hnonpos
  rw [← hloss]
  exact ⟨computeLead_of_unreachable hcold, fun minutes => computeLead_of_least_minutes hcold⟩

end Sys2Proof.Machine
end

section
/-! SUPPORT. The rank order of an allocation round (R105, R129): insertion by rank is Mathlib's insertion sort, and candidates of
different stations come out of it in strict rank order. -/

namespace Sys2Proof.Machine

open Sys2Proof

theorem keyBefore_iff {v v' : Int} {n n' : Nat} : keyBefore v n v' n' = true ↔ v < v' ∨ (v = v' ∧ n < n') := by
  simp [keyBefore]

/-- A candidate ranks before another: the earlier latest start, and the lower station number among equals (R129). -/
abbrev Candidate.Before (a b : Candidate) : Prop :=
  a.latest < b.latest ∨ (a.latest = b.latest ∧ a.station < b.station)

theorem Candidate.Before.trans {a b c : Candidate} (hab : a.Before b) (hbc : b.Before c) : a.Before c := by
  unfold Candidate.Before at *; omega

theorem Candidate.before_of_not_before {a b : Candidate} (hne : a.station ≠ b.station) (h : ¬a.Before b) : b.Before a := by
  unfold Candidate.Before at *; omega

theorem insertCandidate_eq_orderedInsert (c : Candidate) (l : List Candidate) :
    insertCandidate c l = l.orderedInsert Candidate.Before c := by
  induction l with
  | nil => rfl
  | cons d rest ih => simp only [insertCandidate, keyBefore_iff, List.orderedInsert_cons, ih]

theorem foldr_insertCandidate (l : List Candidate) : l.foldr insertCandidate [] = l.insertionSort Candidate.Before := by
  induction l with
  | nil => rfl
  | cons c rest ih => rw [List.foldr_cons, ih, insertCandidate_eq_orderedInsert, List.insertionSort_cons]

/-- Rank order is total only between different stations, so an insertion keeps it where the newcomer's station is new. -/
theorem pairwise_orderedInsert_before {c : Candidate} {l : List Candidate} (hnew : ∀ d ∈ l, c.station ≠ d.station)
    (hl : l.Pairwise Candidate.Before) : (l.orderedInsert Candidate.Before c).Pairwise Candidate.Before := by
  induction l with
  | nil => exact List.pairwise_singleton _ c
  | cons d rest ih =>
    obtain ⟨hd, hrest⟩ := List.pairwise_cons.mp hl
    by_cases hcd : c.Before d
    · rw [List.orderedInsert_cons_of_le _ _ hcd, List.pairwise_cons]
      exact ⟨List.forall_mem_cons.mpr ⟨hcd, fun x hx => hcd.trans (hd x hx)⟩, hl⟩
    · obtain ⟨hcne, hnewRest⟩ := List.forall_mem_cons.mp hnew
      rw [List.orderedInsert_of_not_le _ _ hcd, List.pairwise_cons]
      refine ⟨fun x hx => ?_, ih hnewRest hrest⟩
      rcases (List.mem_orderedInsert _).mp hx with rfl | hx
      · exact Candidate.before_of_not_before hcne hcd
      · exact hd x hx

theorem pairwise_insertionSort_before {l : List Candidate} (hl : (l.map (·.station)).Nodup) :
    (l.insertionSort Candidate.Before).Pairwise Candidate.Before := by
  induction l with
  | nil => exact .nil
  | cons c rest ih =>
    obtain ⟨hc, hrest⟩ := List.nodup_cons.mp hl
    refine pairwise_orderedInsert_before (fun d hd heq => hc ?_) (ih hrest)
    exact List.mem_map.mpr ⟨d, (List.mem_insertionSort _).mp hd, heq.symm⟩

end Sys2Proof.Machine
end

section
/-! SUPPORT. The candidates of an allocation round (R105, R129): which heat parts and which own states give one, that the round is
these in rank order, and that no two are of one station where the table is right. -/

namespace Sys2Proof.Machine

open Sys2Proof

theorem HeatState.contends_iff {h : HeatState} : HeatState.contends h = true ↔ h = .starved ∨ h = .heating ∨ h = .maintain := by
  cases h <;> decide

theorem PeerEntry.candidate_eq_some_iff {now : Nat} {e : PeerEntry} {c : Candidate} :
    e.candidate now = some c ↔ ∃ part : HeatPart, e.heat = some part ∧ HeatState.contends part.state = true ∧ 0 < part.wanted ∧
      c = { station := e.station, wanted := part.wanted, power := part.power,
            latest := part.latest - ((now - part.heard) / 1000 : Nat) } := by
  simp only [PeerEntry.candidate, HeatState.contends_iff]
  cases e.heat with
  | none => simp
  | some part =>
    rw [Option.ite_none_right_eq_some]
    simp only [Option.some.injEq, exists_eq_left', and_assoc]
    rw [eq_comm (b := c)]
    rfl

theorem PeerEntry.station_of_candidate {now : Nat} {e : PeerEntry} {c : Candidate} (h : e.candidate now = some c) :
    c.station = e.station := by
  obtain ⟨_, _, _, _, rfl⟩ := PeerEntry.candidate_eq_some_iff.mp h
  rfl

theorem State.ownCandidate_eq (s : State) :
    s.ownCandidate = if HeatState.contends s.heat.state = true then
      some { station := s.ownNumber, wanted := s.heat.wanted, power := s.start.image.power, latest := s.lead.latest.getD 0 }
    else none := by
  unfold State.ownCandidate
  cases s.heat.state <;> rfl

theorem State.ownCandidate_of_contends {s : State} {latest : Int} (h : HeatState.contends s.heat.state = true)
    (hlatest : s.lead.latest = some latest) :
    s.ownCandidate =
      some { station := s.ownNumber, wanted := s.heat.wanted, power := s.start.image.power, latest := latest } := by
  rw [s.ownCandidate_eq, if_pos h, hlatest, Option.getD_some]

theorem State.ownCandidate_of_not_contends {s : State} (h : HeatState.contends s.heat.state = false) :
    s.ownCandidate = none := by
  rw [s.ownCandidate_eq, if_neg (ne_true_of_eq_false h)]

theorem State.station_of_ownCandidate {s : State} {c : Candidate} (h : s.ownCandidate = some c) : c.station = s.ownNumber := by
  rw [s.ownCandidate_eq, Option.ite_none_right_eq_some] at h
  obtain ⟨-, heq⟩ := h
  cases heq
  rfl

/-- The candidates of a round before they are ranked: the own station where it is one, then the peers in table order. -/
def State.unranked (s : State) : List Candidate :=
  s.ownCandidate.toList ++ s.peers.entries.filterMap (·.candidate s.now)

theorem State.roundCandidates_eq_insertionSort (s : State) :
    s.roundCandidates = s.unranked.insertionSort Candidate.Before := by
  rw [← foldr_insertCandidate]
  unfold State.roundCandidates State.unranked
  cases s.ownCandidate <;> rfl

theorem State.mem_roundCandidates {s : State} {c : Candidate} :
    c ∈ s.roundCandidates ↔ s.ownCandidate = some c ∨ ∃ e ∈ s.peers.entries, e.candidate s.now = some c := by
  rw [s.roundCandidates_eq_insertionSort, List.mem_insertionSort, State.unranked, List.mem_append, Option.mem_toList,
    List.mem_filterMap]

/-- The table's stations rise and the own number is not among them, so each candidate has a station of its own. -/
theorem State.unranked_stations_nodup {s : State} (h : s.tableRight) : (s.unranked.map (·.station)).Nodup := by
  obtain ⟨hrise, hothers, -, -⟩ := h
  rw [State.unranked, List.map_append, List.nodup_append']
  refine ⟨?_, ?_, ?_⟩
  · cases s.ownCandidate <;> simp
  · rw [List.Nodup, List.pairwise_map, List.pairwise_filterMap]
    refine hrise.imp fun {a b} hab c hc d hd => ?_
    rw [PeerEntry.station_of_candidate hc, PeerEntry.station_of_candidate hd]
    exact hab.ne
  · intro n hown hpeer
    obtain ⟨c, hc, rfl⟩ := List.mem_map.mp hown
    obtain ⟨d, hd, hsame⟩ := List.mem_map.mp hpeer
    obtain ⟨e, he, hd⟩ := List.mem_filterMap.mp hd
    obtain ⟨-, hne, -⟩ := hothers e he
    rw [PeerEntry.station_of_candidate hd, State.station_of_ownCandidate (Option.mem_toList.mp hc)] at hsame
    exact hne hsame

theorem State.roundCandidates_stations_nodup {s : State} (h : s.tableRight) :
    (s.roundCandidates.map (·.station)).Nodup := by
  rw [s.roundCandidates_eq_insertionSort, ((List.perm_insertionSort _ _).map _).nodup_iff]
  exact State.unranked_stations_nodup h

theorem State.roundCandidates_pairwise {s : State} (h : s.tableRight) : s.roundCandidates.Pairwise Candidate.Before := by
  rw [s.roundCandidates_eq_insertionSort]
  exact pairwise_insertionSort_before (State.unranked_stations_nodup h)

end Sys2Proof.Machine
end

section
/-! SUPPORT. The allocation of R130: what each place is given of what the places before it leave, that they spend no more than the
budget, and that the own station's grant is what its place was given. -/

namespace Sys2Proof.Machine

open Sys2Proof

theorem stagesGiven_mul_power_le (remainder : Nat) (c : Candidate) : stagesGiven remainder c * c.power ≤ remainder :=
  (Nat.mul_le_mul_right _ (Nat.min_le_right _ _)).trans (Nat.div_mul_le_self _ _)

theorem allocate_map_fst (budget : Nat) (cs : List Candidate) : (allocate budget cs).map (·.1) = cs := by
  induction cs generalizing budget with
  | nil => rfl
  | cons c rest ih => rw [allocate, List.map_cons, ih]

@[simp] theorem spentBefore_zero (given : List (Candidate × Nat)) : spentBefore given 0 = 0 := rfl

@[simp] theorem spentBefore_cons_succ (g : Candidate × Nat) (given : List (Candidate × Nat)) (i : Nat) :
    spentBefore (g :: given) (i + 1) = g.2 * g.1.power + spentBefore given i := rfl

theorem spentBefore_allocate_le (budget : Nat) (cs : List Candidate) (i : Nat) :
    spentBefore (allocate budget cs) i ≤ budget := by
  induction cs generalizing budget i with
  | nil => simp [allocate, spentBefore]
  | cons c rest ih =>
    cases i with
    | zero => exact Nat.zero_le _
    | succ i =>
      have hgiven := stagesGiven_mul_power_le budget c
      have hrest := ih (budget - stagesGiven budget c * c.power) i
      simp only [allocate, spentBefore_cons_succ]
      omega

theorem allocate_getElem? {budget i n : Nat} {cs : List Candidate} {c : Candidate}
    (h : (allocate budget cs)[i]? = some (c, n)) : n = stagesGiven (budget - spentBefore (allocate budget cs) i) c := by
  induction cs generalizing budget i with
  | nil => simp [allocate] at h
  | cons d rest ih =>
    rw [allocate] at h ⊢
    cases i with
    | zero => cases h; rfl
    | succ i => rw [spentBefore_cons_succ, ← Nat.sub_sub]; exact ih h

/-- The round finds the own place by its station number, which no other place has. -/
theorem State.ownGrant_of_mem {s : State} {c : Candidate} {n : Nat} (h : s.tableRight) (hown : s.ownCandidate = some c)
    (hmem : (c, n) ∈ allocate s.start.image.budget s.roundCandidates) : s.ownGrant = n := by
  have hstation : c.station = s.ownNumber := State.station_of_ownCandidate hown
  have hnodup : ((allocate s.start.image.budget s.roundCandidates).map (·.1.station)).Nodup := by
    have hmap := State.roundCandidates_stations_nodup h
    rwa [← allocate_map_fst s.start.image.budget s.roundCandidates, List.map_map] at hmap
  simp only [State.ownGrant, hown]
  split
  · next g hfind =>
    have hg : g.1.station = s.ownNumber := by simpa using List.find?_some hfind
    rw [List.inj_on_of_nodup_map hnodup (List.mem_of_find?_eq_some hfind) hmem (hg.trans hstation.symm)]
  · next hfind => exact absurd (decide_eq_true hstation) (List.find?_eq_none.mp hfind _ hmem)

/-- Settles O32: the allocation by the lemmas on `allocate` for any budget and list, the order and the candidates by the round being
the unranked candidates sorted, and the own grant by its place. -/
theorem roundServesTheRankWithinTheBudget : Obligations.RoundServesTheRankWithinTheBudget := by
  refine ⟨fun budget cs =>
      ⟨allocate_map_fst budget cs, spentBefore_allocate_le budget cs cs.length, fun i c n => allocate_getElem?⟩,
    fun s => State.roundCandidates_pairwise, ?_⟩
  rintro latest s htable hlatest own rfl
  refine ⟨fun c => ?_, fun hout => ?_, fun n hin => ?_⟩
  · rw [State.mem_roundCandidates]
    simp only [PeerEntry.candidate_eq_some_iff]
    refine or_congr_left ?_
    cases hin : HeatState.contends s.heat.state with
    | true => rw [State.ownCandidate_of_contends hin (hlatest hin), Option.some.injEq, eq_comm]; simp
    | false => simp [State.ownCandidate_of_not_contends hin]
  · rw [State.ownGrant, State.ownCandidate_of_not_contends hout]
  · exact State.ownGrant_of_mem htable (State.ownCandidate_of_contends hin (hlatest hin))

end Sys2Proof.Machine
end

section
/-! SUPPORT. What each operation leaves unchanged: for each family of operations the blocks it does not write, as conjunctions of equations that
`simp` rewrites with. -/

namespace Sys2Proof.Machine

open Sys2Proof

/-! ### The families -/

/-- What no operation within an event moves: the queue, the clock, the configuration and the supply. -/
@[simp] abbrev KeepsCore (a b : State) : Prop :=
  b.pending = a.pending ∧ b.now = a.now ∧ b.start = a.start ∧ b.supply = a.supply

/-- The line but for the claim slots and the marks of the frame in flight. -/
@[simp] abbrev ClaimsOnly (a b : Line) : Prop :=
  b.status = a.status ∧ b.errorRun = a.errorRun ∧ b.quietTimer = a.quietTimer ∧ b.conflict = a.conflict ∧
  b.conflictTimer = a.conflictTimer ∧ b.receiptMark = a.receiptMark

/-- Claims are made due and nothing else. -/
@[simp] abbrev LineOnly (a b : State) : Prop :=
  KeepsCore a b ∧ b.bay = a.bay ∧ b.link = a.link ∧ b.faults = a.faults ∧ b.lamps = a.lamps ∧ b.peers = a.peers ∧
  b.lead = a.lead ∧ b.heat = a.heat ∧ b.meter = a.meter ∧ b.dep = a.dep ∧ b.notices = a.notices ∧ ClaimsOnly a.line b.line

/-- The notices but for the sources' records. -/
@[simp] abbrev SourcesOnly (a b : Notices) : Prop :=
  b.maskAll = a.maskAll ∧ b.order = a.order ∧ b.stream = a.stream ∧ b.replacement = a.replacement

/-- Sources are raised or given and nothing else. -/
@[simp] abbrev NoticesOnly (a b : State) : Prop :=
  KeepsCore a b ∧ b.bay = a.bay ∧ b.link = a.link ∧ b.faults = a.faults ∧ b.lamps = a.lamps ∧ b.line = a.line ∧
  b.peers = a.peers ∧ b.lead = a.lead ∧ b.heat = a.heat ∧ b.meter = a.meter ∧ b.dep = a.dep ∧
  SourcesOnly a.notices b.notices

/-- The fault list but for its records and the mark that a BLOCKING one was lost. -/
@[simp] abbrev RecordsOnly (a b : Faults) : Prop :=
  b.figure = a.figure ∧ b.retention = a.retention ∧ b.nextPass = a.nextPass ∧ b.current = a.current

/-- An offer is filed, and its loss told, and nothing else. -/
@[simp] abbrev OfferOnly (a b : State) : Prop :=
  KeepsCore a b ∧ b.bay = a.bay ∧ b.link = a.link ∧ b.lamps = a.lamps ∧ b.line = a.line ∧ b.peers = a.peers ∧
  b.lead = a.lead ∧ b.heat = a.heat ∧ b.meter = a.meter ∧ b.dep = a.dep ∧ SourcesOnly a.notices b.notices

/-- The link moves and nothing else. -/
@[simp] abbrev LinkOnly (a b : State) : Prop :=
  KeepsCore a b ∧ b.bay = a.bay ∧ b.faults = a.faults ∧ b.lamps = a.lamps ∧ b.line = a.line ∧ b.peers = a.peers ∧
  b.lead = a.lead ∧ b.heat = a.heat ∧ b.meter = a.meter ∧ b.dep = a.dep ∧ b.notices = a.notices

/-- The link's fields that only its own responses, failures and plug changes move. -/
@[simp] abbrev LinkStands (a b : Link) : Prop :=
  b.state = a.state ∧ b.failureRun = a.failureRun ∧ b.cache = a.cache ∧ b.passTimer = a.passTimer ∧
  b.identifyReq = a.identifyReq

/-- The link but for its LAMP_SET slot and the transaction in progress. -/
@[simp] abbrev LampSlotOnly (a b : Link) : Prop :=
  LinkStands a b ∧ b.tempReq = a.tempReq ∧ b.faultReq = a.faultReq ∧ b.tag = a.tag ∧ b.pollTimer = a.pollTimer ∧
  b.pass = a.pass ∧ b.passOwed = a.passOwed

/-- The link but for its READ_TEMP slot and the poll timer. -/
@[simp] abbrev PollOnly (a b : Link) : Prop :=
  LinkStands a b ∧ b.busy = a.busy ∧ b.lampReq = a.lampReq ∧ b.faultReq = a.faultReq ∧ b.tag = a.tag ∧ b.pass = a.pass ∧
  b.passOwed = a.passOwed

/-- The lamp checker works, asks the link and files its findings, and nothing else. -/
@[simp] abbrev CheckOnly (a b : State) : Prop :=
  KeepsCore a b ∧ b.bay = a.bay ∧ b.line = a.line ∧ b.peers = a.peers ∧ b.lead = a.lead ∧ b.heat = a.heat ∧
  b.meter = a.meter ∧ b.dep = a.dep ∧ SourcesOnly a.notices b.notices ∧ RecordsOnly a.faults b.faults ∧
  LampSlotOnly a.link b.link

/-- The peer table is read and the lead taken afresh, and nothing else. -/
@[simp] abbrev LeadOnly (a b : State) : Prop :=
  KeepsCore a b ∧ b.bay = a.bay ∧ b.link = a.link ∧ b.faults = a.faults ∧ b.lamps = a.lamps ∧ b.line = a.line ∧
  b.heat = a.heat ∧ b.meter = a.meter ∧ b.dep = a.dep ∧ b.notices = a.notices ∧ b.lead.probe = a.lead.probe ∧
  b.lead.probeTimer = a.lead.probeTimer

/-- The heat controller moves, with the poll and its claim, and nothing else. -/
@[simp] abbrev HeatOnly (a b : State) : Prop :=
  KeepsCore a b ∧ b.bay = a.bay ∧ b.faults = a.faults ∧ b.lamps = a.lamps ∧ b.peers = a.peers ∧ b.lead = a.lead ∧
  b.dep = a.dep ∧ b.notices = a.notices ∧ PollOnly a.link b.link ∧ ClaimsOnly a.line b.line ∧
  b.line.departSlot = a.line.departSlot ∧ b.line.airSlot = a.line.airSlot

/-- The departure moves, with its claim, and nothing else. -/
@[simp] abbrev DepOnly (a b : State) : Prop :=
  KeepsCore a b ∧ b.bay = a.bay ∧ b.link = a.link ∧ b.faults = a.faults ∧ b.lamps = a.lamps ∧ b.peers = a.peers ∧
  b.lead = a.lead ∧ b.heat = a.heat ∧ b.meter = a.meter ∧ b.notices = a.notices ∧ ClaimsOnly a.line b.line ∧
  b.line.heatSlot = a.line.heatSlot ∧ b.line.airSlot = a.line.airSlot

/-! ### Claims made due -/

@[simp] theorem makeDepartDue_keeps (s : State) :
    LineOnly s (makeDepartDue s) ∧ (makeDepartDue s).line.heatSlot = s.line.heatSlot ∧
      (makeDepartDue s).line.airSlot = s.line.airSlot := by
  unfold makeDepartDue; split <;> simp

@[simp] theorem makeHeatDue_keeps (s : State) :
    LineOnly s (makeHeatDue s) ∧ (makeHeatDue s).line.departSlot = s.line.departSlot ∧
      (makeHeatDue s).line.airSlot = s.line.airSlot := by
  unfold makeHeatDue; split <;> simp

@[simp] theorem makeAirDue_keeps (s : State) :
    LineOnly s (makeAirDue s) ∧ (makeAirDue s).line.departSlot = s.line.departSlot ∧
      (makeAirDue s).line.heatSlot = s.line.heatSlot := by
  unfold makeAirDue; split <;> simp

/-! ### Notices and offers -/

@[simp] theorem modifySource_keeps (src : Source) (f : SourceRec → SourceRec) (s : State) :
    NoticesOnly s (modifySource src f s) := by
  simp [modifySource]

@[simp] theorem raiseEdge_keeps (src : Source) (arg : Nat) (s : State) : NoticesOnly s (raiseEdge src arg s) := by
  simp [raiseEdge]

@[simp] theorem giveCondition_keeps (src : Source) (s : State) : NoticesOnly s (giveCondition src s) := by
  unfold giveCondition; split
  · simp
  · split <;> simp

@[simp] theorem giveConditions_keeps (s : State) : NoticesOnly s (giveConditions s) := by simp [giveConditions]

@[simp] theorem loseBlocking_keeps (code : Nat) (s : State) :
    OfferOnly s (loseBlocking code s) ∧ RecordsOnly s.faults (loseBlocking code s).faults := by
  simp [loseBlocking]

@[simp] theorem Faults.take_recordsOnly (f : Faults) (o : Offer) (sec : Nat) : RecordsOnly f (f.take o sec).1 := by
  unfold Faults.take
  dsimp only
  split
  · simp
  split
  · simp
  split
  · simp
  split <;> simp_all

@[simp] theorem offerFault_keeps (o : Offer) (s : State) :
    OfferOnly s (offerFault o s) ∧ RecordsOnly s.faults (offerFault o s).faults := by
  unfold offerFault; dsimp only; split
  · split <;> simp
  · simp

@[simp] theorem offerStation_keeps (cause : Nat) (s : State) :
    OfferOnly s (offerStation cause s) ∧ RecordsOnly s.faults (offerStation cause s).faults := by
  simp [offerStation]

@[simp] theorem takeCoachEntry_keeps (module code : Nat) (severity : Severity) (count : Nat) (s : State) :
    OfferOnly s (takeCoachEntry module code severity count s) := by
  simp [takeCoachEntry]

@[simp] theorem takeHint_keeps (hint : Nat) (s : State) :
    OfferOnly s (takeHint hint s) ∧ (takeHint hint s).notices = s.notices ∧
      (takeHint hint s).faults.records = s.faults.records := by
  unfold takeHint; split <;> simp

/-! ### The link -/

@[simp] theorem raiseIdentify_keeps (s : State) :
    LinkOnly s (raiseIdentify s) ∧ (raiseIdentify s).link.state = s.link.state ∧
      (raiseIdentify s).link.failureRun = s.link.failureRun ∧ (raiseIdentify s).link.cache = s.link.cache ∧
      (raiseIdentify s).link.passTimer = s.link.passTimer ∧ (raiseIdentify s).link.busy = s.link.busy ∧
      (raiseIdentify s).link.lampReq = s.link.lampReq ∧ (raiseIdentify s).link.tempReq = s.link.tempReq ∧
      (raiseIdentify s).link.faultReq = s.link.faultReq ∧ (raiseIdentify s).link.tag = s.link.tag ∧
      (raiseIdentify s).link.pollTimer = s.link.pollTimer ∧ (raiseIdentify s).link.pass = s.link.pass ∧
      (raiseIdentify s).link.passOwed = s.link.passOwed := by
  unfold raiseIdentify; split <;> simp

@[simp] theorem raiseTemp_keeps (s : State) :
    LinkOnly s (raiseTemp s) ∧ PollOnly s.link (raiseTemp s).link ∧ (raiseTemp s).link.pollTimer = s.link.pollTimer := by
  unfold raiseTemp; split <;> simp

@[simp] theorem raiseFaultNext_keeps (cursor : Nat) (s : State) :
    LinkOnly s (raiseFaultNext cursor s) ∧ LinkStands s.link (raiseFaultNext cursor s).link ∧
      (raiseFaultNext cursor s).link.busy = s.link.busy ∧ (raiseFaultNext cursor s).link.lampReq = s.link.lampReq ∧
      (raiseFaultNext cursor s).link.tempReq = s.link.tempReq ∧ (raiseFaultNext cursor s).link.tag = s.link.tag ∧
      (raiseFaultNext cursor s).link.pollTimer = s.link.pollTimer ∧ (raiseFaultNext cursor s).link.pass = s.link.pass ∧
      (raiseFaultNext cursor s).link.passOwed = s.link.passOwed := by
  unfold raiseFaultNext; split <;> simp

@[simp] theorem placeLampSet_keeps (channel : Nat) (on live : Bool) (s : State) :
    LinkOnly s (placeLampSet channel on live s) ∧ LampSlotOnly s.link (placeLampSet channel on live s).link ∧
      (placeLampSet channel on live s).link.busy = s.link.busy ∧
      (placeLampSet channel on live s).link.lampReq = some { channel := channel, on := on, live := live } := by
  simp [placeLampSet]

@[simp] theorem startPoll_keeps (s : State) : LinkOnly s (startPoll s) ∧ PollOnly s.link (startPoll s).link ∧
    (startPoll s).link.pollTimer = some (s.now + 30000) := by
  simp [startPoll, Config.poll]

@[simp] theorem stopPoll_keeps (s : State) : LinkOnly s (stopPoll s) ∧ PollOnly s.link (stopPoll s).link ∧
    (stopPoll s).link.pollTimer = none ∧ (stopPoll s).link.tempReq = false := by
  simp [stopPoll]

@[simp] theorem idleLink_keeps (s : State) : LinkOnly s (idleLink s) ∧ LampSlotOnly s.link (idleLink s).link ∧
    (idleLink s).link.lampReq = s.link.lampReq ∧ (idleLink s).link.busy = none := by
  simp [idleLink]

@[simp] theorem linkSucceeded_keeps (s : State) :
    LinkOnly s (linkSucceeded s) ∧ (linkSucceeded s).link = { s.link with busy := none, failureRun := 0 } := by
  simp [linkSucceeded, idleLink]

@[simp] theorem linkComesUp_keeps (s : State) :
    LinkOnly s (linkComesUp s) ∧ (linkComesUp s).link.failureRun = s.link.failureRun ∧
      (linkComesUp s).link.cache = s.link.cache ∧ (linkComesUp s).link.passTimer = s.link.passTimer ∧
      (linkComesUp s).link.identifyReq = s.link.identifyReq ∧ (linkComesUp s).link.busy = s.link.busy ∧
      (linkComesUp s).link.lampReq = s.link.lampReq ∧ (linkComesUp s).link.faultReq = s.link.faultReq ∧
      (linkComesUp s).link.tag = s.link.tag ∧ (linkComesUp s).link.pollTimer = s.link.pollTimer ∧
      (linkComesUp s).link.pass = s.link.pass ∧ (linkComesUp s).link.passOwed = s.link.passOwed := by
  unfold linkComesUp; split
  · dsimp only; split <;> simp
  · simp

/-! ### Arbitration and fault passes -/

@[simp] theorem arbitrate_keeps (s : State) :
    KeepsCore s (arbitrate s) ∧ (arbitrate s).bay = s.bay ∧ (arbitrate s).faults = s.faults ∧
      (arbitrate s).line = s.line ∧ (arbitrate s).peers = s.peers ∧ (arbitrate s).lead = s.lead ∧
      (arbitrate s).heat = s.heat ∧ (arbitrate s).meter = s.meter ∧ (arbitrate s).dep = s.dep ∧
      (arbitrate s).notices = s.notices ∧ (arbitrate s).link.state = s.link.state ∧
      (arbitrate s).link.failureRun = s.link.failureRun ∧ (arbitrate s).link.cache = s.link.cache ∧
      (arbitrate s).link.passTimer = s.link.passTimer ∧ (arbitrate s).link.pollTimer = s.link.pollTimer ∧
      (arbitrate s).link.pass = s.link.pass ∧ (arbitrate s).link.passOwed = s.link.passOwed := by
  unfold arbitrate
  split
  · simp
  split
  · simp
  · next r _ _ =>
    dsimp only
    split
    · simp [Link.beginTransaction, Link.emptySlot]
    · cases r <;> simp [Link.beginTransaction, Link.emptySlot]

@[simp] theorem startPass_keeps (s : State) :
    KeepsCore s (startPass s) ∧ (startPass s).bay = s.bay ∧ (startPass s).lamps = s.lamps ∧
      (startPass s).line = s.line ∧ (startPass s).peers = s.peers ∧ (startPass s).lead = s.lead ∧
      (startPass s).heat = s.heat ∧ (startPass s).meter = s.meter ∧ (startPass s).dep = s.dep ∧
      (startPass s).notices = s.notices ∧ LinkStands s.link (startPass s).link ∧
      (startPass s).link.busy = s.link.busy ∧ (startPass s).link.lampReq = s.link.lampReq ∧
      (startPass s).link.tempReq = s.link.tempReq ∧ (startPass s).link.tag = s.link.tag ∧
      (startPass s).link.pollTimer = s.link.pollTimer := by
  unfold startPass; split <;> simp

@[simp] theorem abandonPass_keeps (owes : Bool) (s : State) :
    KeepsCore s (abandonPass owes s) ∧ (abandonPass owes s).bay = s.bay ∧ (abandonPass owes s).lamps = s.lamps ∧
      (abandonPass owes s).line = s.line ∧ (abandonPass owes s).peers = s.peers ∧ (abandonPass owes s).lead = s.lead ∧
      (abandonPass owes s).heat = s.heat ∧ (abandonPass owes s).meter = s.meter ∧ (abandonPass owes s).dep = s.dep ∧
      (abandonPass owes s).notices = s.notices ∧ LinkStands s.link (abandonPass owes s).link ∧
      (abandonPass owes s).link.lampReq = s.link.lampReq ∧
      (abandonPass owes s).link.tempReq = s.link.tempReq ∧ (abandonPass owes s).link.tag = s.link.tag ∧
      (abandonPass owes s).link.pollTimer = s.link.pollTimer ∧ (abandonPass owes s).faults.records = s.faults.records ∧
      (abandonPass owes s).faults.figure = s.faults.figure ∧ (abandonPass owes s).link.pass = none ∧
      (abandonPass owes s).faults.blockingLost = s.faults.blockingLost := by
  unfold abandonPass; split <;> simp_all

/-! ### The lamp checker -/

@[simp] theorem openFeed_keeps (s : State) : CheckOnly s (openFeed s) ∧ (openFeed s).link = s.link ∧
    (openFeed s).faults = s.faults ∧ (openFeed s).notices = s.notices ∧
    (openFeed s).lamps = { s.lamps with feed := false, watchTimer := none } := by simp [openFeed]
@[simp] theorem stopStepTimers_keeps (s : State) : CheckOnly s (stopStepTimers s) ∧ (stopStepTimers s).link = s.link ∧
    (stopStepTimers s).faults = s.faults ∧ (stopStepTimers s).notices = s.notices ∧
    (stopStepTimers s).lamps = { s.lamps with warmTimer := none, meanTimer := none, capture := none } := by
  simp [stopStepTimers]
@[simp] theorem clearMarks_keeps (s : State) : CheckOnly s (clearMarks s) ∧ (clearMarks s).link = s.link ∧
    (clearMarks s).faults = s.faults ∧ (clearMarks s).notices = s.notices ∧
    (clearMarks s).lamps = { s.lamps with failures := 0, begunAgain := false, sagRetry := false, shortTaken := false,
                                          measured := none } := by simp [clearMarks]
@[simp] theorem disownLampSets_keeps (s : State) : CheckOnly s (disownLampSets s) ∧
    (disownLampSets s).lamps = s.lamps ∧ (disownLampSets s).faults = s.faults ∧
    (disownLampSets s).notices = s.notices ∧ (disownLampSets s).link.lampReq = none := by simp [disownLampSets]
@[simp] theorem emptySheet_keeps (s : State) : CheckOnly s (emptySheet s) ∧ (emptySheet s).link = s.link ∧
    (emptySheet s).faults = s.faults ∧ (emptySheet s).notices = s.notices ∧
    (emptySheet s).lamps = { s.lamps with sheet := { state := .empty, entries := [] } } := by simp [emptySheet]

@[simp] theorem recordVerdict_keeps (n : Nat) (v : Verdict) (current : Nat) (s : State) :
    CheckOnly s (recordVerdict n v current s) ∧ (recordVerdict n v current s).link = s.link := by
  unfold recordVerdict; dsimp only; split
  · simp
  · split <;> simp

@[simp] theorem recordIncomplete_keeps (left n : Nat) (s : State) :
    CheckOnly s (recordIncomplete left n s) ∧ (recordIncomplete left n s).link = s.link := by
  induction left generalizing n s with
  | zero => simp [recordIncomplete]
  | succ left ih => simpa [recordIncomplete] using ih (n + 1) (recordVerdict n .incomplete 0 s)

@[simp] theorem completeCheck_keeps (s : State) :
    CheckOnly s (completeCheck s) ∧ (completeCheck s).link = s.link ∧ (completeCheck s).faults = s.faults := by
  simp [completeCheck]

@[simp] theorem endCheckIncomplete_keeps (s : State) : CheckOnly s (endCheckIncomplete s) := by
  unfold endCheckIncomplete; split <;> simp

@[simp] theorem abandonCheck_keeps (s : State) :
    CheckOnly s (abandonCheck s) ∧ (abandonCheck s).faults = s.faults ∧ (abandonCheck s).notices = s.notices := by
  unfold abandonCheck; split
  · simp [clearMarks, disownLampSets, stopStepTimers, openFeed]
  · simp

@[simp] theorem raiseLampSet_keeps (channel : Nat) (on : Bool) (s : State) : CheckOnly s (raiseLampSet channel on s) := by
  unfold raiseLampSet; split
  · simp
  · split <;> simp

@[simp] theorem raiseLooseOff_keeps (s : State) : CheckOnly s (raiseLooseOff s) ∧
    (raiseLooseOff s).lamps = s.lamps ∧ (raiseLooseOff s).faults = s.faults ∧ (raiseLooseOff s).notices = s.notices := by
  unfold raiseLooseOff; split
  · split <;> simp
  · simp

@[simp] theorem enterClearOff_keeps (channel : Nat) (s : State) : CheckOnly s (enterClearOff channel s) := by
  simp [enterClearOff]

@[simp] theorem enterFeedOn_keeps (s : State) : CheckOnly s (enterFeedOn s) := by
  unfold enterFeedOn; split <;> simp

@[simp] theorem enterSwitchOff_keeps (s : State) : CheckOnly s (enterSwitchOff s) := by
  unfold enterSwitchOff; split <;> simp

@[simp] theorem startStep_keeps (s : State) : CheckOnly s (startStep s) := by
  unfold startStep; split
  · simp
  · dsimp only; split <;> simp

@[simp] theorem beginStep_keeps (s : State) : CheckOnly s (beginStep s) := by
  unfold beginStep; split <;> simp

@[simp] theorem finishStep_keeps (s : State) : CheckOnly s (finishStep s) := by
  unfold finishStep; dsimp only; split <;> simp

@[simp] theorem startCheck_keeps (s : State) : CheckOnly s (startCheck s) := by
  unfold startCheck; split
  · dsimp only; split <;> simp [Faults.inactivateLamps]
  · simp

@[simp] theorem payOff_keeps (s : State) : CheckOnly s (payOff s) := by
  unfold payOff; split <;> simp

@[simp] theorem clearLoose_keeps (channel : Nat) (on : Bool) (s : State) :
    CheckOnly s (clearLoose channel on s) ∧ (clearLoose channel on s).link = s.link := by
  unfold clearLoose; split <;> simp

@[simp] theorem advanceStage_keeps (s : State) : CheckOnly s (advanceStage s) := by
  unfold advanceStage; split
  · simp
  · split <;> simp
  · simp
  · simp

@[simp] theorem lampAcknowledged_keeps (channel : Nat) (on live : Bool) (s : State) :
    CheckOnly s (lampAcknowledged channel on live s) := by
  unfold lampAcknowledged; dsimp only; split <;> simp

@[simp] theorem enterLinkWait_keeps (s : State) : CheckOnly s (enterLinkWait s) := by simp [enterLinkWait]

@[simp] theorem raiseAgain_keeps (channel : Nat) (on : Bool) (s : State) : CheckOnly s (raiseAgain channel on s) := by
  unfold raiseAgain; split
  · split <;> simp
  all_goals simp

@[simp] theorem lampFailed_keeps (channel : Nat) (on live : Bool) (s : State) : CheckOnly s (lampFailed channel on live s) := by
  unfold lampFailed; split
  · split
    case h_5 => simp
    all_goals dsimp only; split <;> simp
  · simp

@[simp] theorem linkWaitOver_keeps (s : State) : CheckOnly s (linkWaitOver s) := by
  unfold linkWaitOver; dsimp only; split <;> simp

@[simp] theorem measureEnds_keeps (v : Verdict) (current : Nat) (s : State) : CheckOnly s (measureEnds v current s) := by
  simp [measureEnds]

@[simp] theorem captureEnds_keeps (c : Capture) (onMean tailMean : Nat) (s : State) :
    CheckOnly s (captureEnds c onMean tailMean s) := by
  simp [captureEnds]

@[simp] theorem shortReading_keeps (mean : Nat) (s : State) : CheckOnly s (shortReading mean s) := by
  unfold shortReading; dsimp only; split
  case h_4 => simp
  all_goals split <;> simp

/-- A step caught by sag before it waits for its retry or is recorded: the feed open, the verdict INCOMPLETE unless its short was taken, and
the off for a loose channel owed or raised (R77). -/
def caughtBySag (s : State) : State :=
  let s1 := disownLampSets (stopStepTimers (openFeed s))
  let s2 := { s1 with lamps := { s1.lamps with
    measured := if s1.lamps.shortTaken then s1.lamps.measured else some (.incomplete, 0),
    offOwed := s.link.busyLampSet } }
  if s.link.busyLampSet then s2 else raiseLooseOff s2

theorem sagCatches_eq (s : State) :
    sagCatches s = if (caughtBySag s).lamps.sagRetry then finishStep (caughtBySag s)
      else { caughtBySag s with lamps := { (caughtBySag s).lamps with sagRetry := true, stage := some .sagWait } } := rfl

@[simp] theorem caughtBySag_keeps (s : State) :
    CheckOnly s (caughtBySag s) ∧ (caughtBySag s).faults = s.faults ∧ (caughtBySag s).notices = s.notices ∧
      (caughtBySag s).lamps = { s.lamps with
        feed := false, watchTimer := none, warmTimer := none, meanTimer := none, capture := none,
        measured := if s.lamps.shortTaken then s.lamps.measured else some (.incomplete, 0),
        offOwed := s.link.busyLampSet } := by
  unfold caughtBySag; dsimp only; split <;> simp

@[simp] theorem sagCatches_keeps (s : State) : CheckOnly s (sagCatches s) := by
  rw [sagCatches_eq]; split <;> simp

@[simp] theorem lampSag_keeps (s : State) : CheckOnly s (lampSag s) := by
  unfold lampSag; split
  · split <;> simp
  · simp

@[simp] theorem lampRecovered_keeps (s : State) : CheckOnly s (lampRecovered s) := by
  unfold lampRecovered; split
  · split <;> simp
  · simp

@[simp] theorem lampSessionEnd_keeps (s : State) :
    CheckOnly s (lampSessionEnd s) ∧ (lampSessionEnd s).faults = s.faults ∧ (lampSessionEnd s).notices = s.notices := by
  simp [lampSessionEnd, emptySheet]

/-! ### The lead and the cabin cache -/

@[simp] theorem deriveLatest_keeps (s : State) :
    LeadOnly s (deriveLatest s) ∧ (deriveLatest s).peers = s.peers ∧ (deriveLatest s).lead.lead = s.lead.lead ∧
      (deriveLatest s).lead.mark = s.lead.mark ∧ (deriveLatest s).lead.cabin = s.lead.cabin := by
  simp [deriveLatest]

@[simp] theorem leadFromInputs_keeps (s : State) :
    LeadOnly s (leadFromInputs s) ∧ (leadFromInputs s).peers = s.peers ∧
      (leadFromInputs s).lead.latest = s.lead.latest := by
  unfold leadFromInputs; split
  · split <;> simp
  · simp

@[simp] theorem readPeers_keeps (s : State) : LeadOnly s (readPeers s) := by
  unfold readPeers; dsimp only; split <;> simp

@[simp] theorem recomputeLead_keeps (s : State) : LeadOnly s (recomputeLead s) := by simp [recomputeLead]

@[simp] theorem giveLowestAir_keeps (s : State) : LeadOnly s (giveLowestAir s) := by
  unfold giveLowestAir; split <;> simp

/-! ### Drawing and the heat state -/

@[simp] theorem setDrawn_keeps (n : Nat) (s : State) :
    HeatOnly s (setDrawn n s) ∧ (setDrawn n s).link = s.link ∧ (setDrawn n s).line = s.line ∧
      (setDrawn n s).meter.overdrawRun = s.meter.overdrawRun := by
  unfold setDrawn; split <;> simp [Meter.restart]

@[simp] theorem dropAll_keeps (s : State) :
    HeatOnly s (dropAll s) ∧ (dropAll s).link = s.link ∧ (dropAll s).line = s.line ∧
      (dropAll s).meter.overdrawRun = s.meter.overdrawRun := by
  simp [dropAll]

@[simp] theorem setAtTarget_keeps (reading target : Int) (s : State) :
    HeatOnly s (setAtTarget reading target s) ∧ (setAtTarget reading target s).link = s.link ∧
      (setAtTarget reading target s).line = s.line ∧ (setAtTarget reading target s).meter = s.meter := by
  simp [setAtTarget]

@[simp] theorem clearAtTarget_keeps (s : State) :
    HeatOnly s (clearAtTarget s) ∧ (clearAtTarget s).link = s.link ∧ (clearAtTarget s).line = s.line ∧
      (clearAtTarget s).meter = s.meter := by
  simp [clearAtTarget]

@[simp] theorem updateCalled_keeps (s : State) :
    HeatOnly s (updateCalled s) ∧ (updateCalled s).link = s.link ∧ (updateCalled s).line = s.line ∧
      (updateCalled s).meter = s.meter := by
  unfold updateCalled; split
  · dsimp only; split
    · split <;> simp
    · simp
  · simp

@[simp] theorem enterHeatState_keeps (new : HeatState) (s : State) :
    HeatOnly s (enterHeatState new s) ∧ (enterHeatState new s).meter.overdrawRun = s.meter.overdrawRun := by
  unfold enterHeatState; split
  · simp
  · cases new <;> dsimp only <;> split <;> simp

@[simp] theorem updateWanted_keeps (s : State) :
    HeatOnly s (updateWanted s) ∧ (updateWanted s).link = s.link ∧ (updateWanted s).line = s.line ∧
      (updateWanted s).meter.overdrawRun = s.meter.overdrawRun := by
  unfold updateWanted; dsimp only; split <;> simp

@[simp] theorem evalHeat_keeps (s : State) :
    HeatOnly s (evalHeat s) ∧ (evalHeat s).meter.overdrawRun = s.meter.overdrawRun := by
  simp [evalHeat]

@[simp] theorem holdWarm_keeps (reading target : Int) (s : State) :
    HeatOnly s (holdWarm reading target s) ∧ (holdWarm reading target s).link = s.link ∧
      (holdWarm reading target s).line = s.line ∧ (holdWarm reading target s).meter = s.meter := by
  unfold holdWarm; split
  · simp
  · split <;> simp

@[simp] theorem readingMarks_keeps (reading : Int) (s : State) :
    HeatOnly s (readingMarks reading s) ∧ (readingMarks reading s).link = s.link ∧
      (readingMarks reading s).line = s.line ∧ (readingMarks reading s).meter = s.meter := by
  unfold readingMarks; split
  · simp
  · split
    · simp
    · dsimp only; split <;> simp

@[simp] theorem markStarvedRound_keeps (s : State) :
    HeatOnly s (markStarvedRound s) ∧ (markStarvedRound s).link = s.link ∧ (markStarvedRound s).line = s.line ∧
      (markStarvedRound s).meter = s.meter := by
  unfold markStarvedRound; split <;> simp

@[simp] theorem updateDrawing_keeps (grant : Nat) (s : State) :
    HeatOnly s (updateDrawing grant s) ∧ (updateDrawing grant s).link = s.link ∧
      (updateDrawing grant s).meter.overdrawRun = s.meter.overdrawRun := by
  unfold updateDrawing; dsimp only; split <;> split <;> simp

@[simp] theorem raiseDrawn_keeps (s : State) :
    HeatOnly s (raiseDrawn s) ∧ (raiseDrawn s).link = s.link ∧ (raiseDrawn s).line = s.line ∧
      (raiseDrawn s).meter.overdrawRun = s.meter.overdrawRun := by
  unfold raiseDrawn; split
  · split
    · split <;> simp
    · simp
  · simp

/-! ### Clearance -/

@[simp] theorem changeDep_keeps (d : DepState) (s : State) : DepOnly s (changeDep d s) := by
  unfold changeDep; split <;> simp

@[simp] theorem enterNone_keeps (s : State) : DepOnly s (enterNone s) := by simp [enterNone]

@[simp] theorem leaveReady_keeps (s : State) : DepOnly s (leaveReady s) := by
  unfold leaveReady; split <;> simp

@[simp] theorem clearanceMove_keeps (s : State) : DepOnly s (clearanceMove s) := by
  unfold clearanceMove; split
  · split <;> simp
  · split
    · simp
    · split
      · split <;> simp
      · simp
  · split
    · simp
    · split <;> simp
  · simp

@[simp] theorem clearanceTests_keeps (s : State) : DepOnly s (clearanceTests s) := by simp [clearanceTests]

@[simp] theorem hearSettling_keeps (n : Nat) (countdown : Int) (s : State) : DepOnly s (hearSettling n countdown s) := by
  unfold hearSettling; split
  · split
    · simp
    · split <;> simp
  · simp

end Sys2Proof.Machine
end

section
/-! SUPPORT. Once for all commands what a command can do: a reset, a round, or at its moment one of the quiet effects, or one of the effects
that reactions follow. Every invariant of a step is proved over these cases. -/

namespace Sys2Proof.Machine

open Sys2Proof

/-! ### Quiet effects -/

/-- The effects after which no reaction is taken. -/
inductive Quiet (s : State) : State → Prop
  | takesLoop (level : Bool) (starting : s.bay.startInterval.isSome = true) :
      Quiet s { s with bay := { s.bay with presence := s.bay.presence.accept level } }
  | linkTakesPlug (other : s.bay.plug.level = false) (starting : s.bay.startInterval.isSome = true) :
      Quiet s (linkPlugIn { s with bay := { s.bay with plug := s.bay.plug.accept true } })
  | takesKey (level : Bool) : Quiet s (acceptKey level s)
  | beginsMeasure (p : LampStep) (current : Nat) (warm : s.lamps.warmTimer.isSome = true) (work : s.lamps.current = some p) :
      Quiet s (beginMeasure p current s)
  | watchesOn (watch : s.lamps.watchTimer.isSome = true) :
      Quiet s { s with lamps := { s.lamps with watchTimer := s.lamps.watchTimer.map (· + Config.watchBlock) } }
  | timesEdge (x : Capture) (lit : Bool) (open_ : s.lamps.capture = some x) :
      Quiet s { s with lamps := { s.lamps with capture := some (x.edge lit s.now) } }
  | senses (level : Nat) : Quiet s { s with supply := { s.supply with level := level } }
  | sensesSag (level : Nat) (up : s.start.phase ≠ .reading) (sag : s.supply.sag = true) :
      Quiet s (watchRecovery level { s with supply := { s.supply with level := level } })
  | sensesDip (level : Nat) (up : s.start.phase ≠ .reading) (sag : s.supply.sag = false) :
      Quiet s (watchDip level { s with supply := { s.supply with level := level } })
  | transmits (may : s.mayContend = true) : Quiet s (transmitChoice s)
  | returnsFrame (f : Flight) (flies : s.line.inFlight = some f) : Quiet s (returnFrame f s)
  | probes (due : s.line.quietTimer.isSome = true) :
      Quiet s { s with line := { s.line with quietTimer := none,
                                             status := if s.line.status = .quiet then .probing else s.line.status } }
  | countsPulse (runs : s.meter.window.isSome = true) :
      Quiet s { s with meter := { s.meter with count := min 65535 (s.meter.count + 1) } }
  | hearsHeat (n : Nat) (part : HeatPart) (configured : s.configured = true) (peer : s.isPeer n = true) :
      Quiet s (setPeer n (fun e => { e with heat := some part }) s)
  | refusesAssign (coach : Nat) : Quiet s (raiseEdge .assignRefused coach s)
  | masks (sources : Word16) (value : Bool) : Quiet s { s with notices := s.notices.setMasks sources value }
  | masksAll (value : Bool) : Quiet s { s with notices := { s.notices with maskAll := value } }
  | requestsReport (k : ReportKind) : Quiet s (requestReport k s)
  | repeats (src : Source) (runs : (s.notices.get src).repeatTimer.isSome = true) :
      Quiet s (modifySource src (fun r => { r with pending := true, repeatTimer := none }) s)

/-! ### Effects with reactions -/

/-- What bring-up does before the reactions (R174). -/
def bringUpEffect (img : Image) (passes : Bool) (probe : Int) (s : State) : State :=
  let s1 := startMonitor
    { s with start := { phase := if passes then .configured else .unconfigured, unconfigured := !passes, readTimer := none,
                        image := img },
             faults := { s.faults with retention := if passes then img.retention else .newest },
             notices := { s.notices.loadMasks img.masks with order := img.order } }
  if passes then startConfigured probe s1 else s1

theorem bringUp_eq (img : Image) (passes : Bool) (probe : Int) (s : State) :
    bringUp img passes probe s = settle (bringUpEffect img passes probe s) := rfl

/-- What the end of the start interval does before the reactions (R2). -/
def startIntervalEffect (s : State) : State :=
  let s1 := { s with bay := { s.bay with startInterval := none } }
  match s1.bay.presence.level, s1.bay.plug.level with
  | false, false => setOccupancy .empty s1
  | true, false => setOccupancy .present s1
  | true, true => raiseIdentify (setOccupancy .linking s1)
  | false, true => raiseIdentify (setOccupancy .linking { s1 with bay := { s1.bay with implied := true } })

/-- What a claim period's end does before the reactions (R128, R161). -/
def claimPeriodEffect (s : State) : State :=
  makeDepartDue (makeHeatDue
    { takeRound s with heat := { (takeRound s).heat with claimTimer := some (s.now + Config.claimPeriod) } })

/-- A departure claim heard, before the reactions (R100, R154). -/
def hearDepart (n : Nat) (part : DepartPart) (s : State) : State :=
  let s1 := setPeer n (fun e => { e with depart := some part }) s
  if part.state = .settling then hearSettling n part.countdown s1 else s1

/-- The effects that reactions follow, but for the round of a claim period. -/
inductive Effect (s : State) : State → Prop
  | bringsUp (img : Image) (passes : Bool) (probe : Int) (reads : s.start.phase = .reading ∨ s.start.readTimer.isSome = true)
      (words : List Word16) (taken : img = imageOf words) (pass : passes = true → imagePasses words = true) :
      Effect s (bringUpEffect img passes probe s)
  | startsBay (starting : s.bay.startInterval.isSome = true) : Effect s (startIntervalEffect s)
  | loop (level : Bool) (started : s.bay.startInterval = none) (other : s.bay.presence.level ≠ level) :
      Effect s (if level then loopOccupied { s with bay := { s.bay with presence := s.bay.presence.accept level } }
        else loopClear { s with bay := { s.bay with presence := s.bay.presence.accept level } })
  | plugsIn (started : s.bay.startInterval = none) (other : s.bay.plug.level = false) :
      Effect s (bayPlugIn (linkPlugIn { s with bay := { s.bay with plug := s.bay.plug.accept true } }))
  | plugsOut (other : s.bay.plug.level = true) :
      Effect s (linkPlugOut (if s.bay.startInterval.isSome = true
        then { s with bay := { s.bay with plug := s.bay.plug.accept false } }
        else bayPlugOut { s with bay := { s.bay with plug := s.bay.plug.accept false } }))
  | reidentifies :
      Effect s (if s.bay.occupancy = .unlinked then raiseIdentify { s with bay := { s.bay with reidentify := none } }
        else { s with bay := { s.bay with reidentify := none } })
  | fails (x : Transaction) (busy : s.link.busy = some x) : Effect s (transactionFails x s)
  | identifies (x : Transaction) (id : Identity) (hint : Nat) (busy : s.link.busy = some x) (asked : x.request = .identify) :
      Effect s (takeHint hint (identifySucceeded id (linkComesUp (linkSucceeded s))))
  | acknowledges (x : Transaction) (channel : Nat) (on : Bool) (busy : s.link.busy = some x)
      (asked : x.request = .lampSet channel on) : Effect s (lampAcknowledged channel on x.live (linkSucceeded s))
  | readsCabin (x : Transaction) (v : Int) (busy : s.link.busy = some x) (asked : x.request = .readTemp) :
      Effect s (takeReading v (linkSucceeded s))
  | findsNoSensor (x : Transaction) (busy : s.link.busy = some x) (asked : x.request = .readTemp) :
      Effect s (takeNoSensor (linkSucceeded s))
  | discardsPassReply (x : Transaction) (busy : s.link.busy = some x) (asked : x.request.isFaultNext = true) :
      Effect s (linkSucceeded s)
  | takesEntry (x : Transaction) (module code : Nat) (severity : Severity) (count next : Nat) (busy : s.link.busy = some x)
      (asked : x.request.isFaultNext = true) (live : x.live = true) :
      Effect s (takeEntry module code severity count next (linkSucceeded s))
  | endsPass (x : Transaction) (busy : s.link.busy = some x) (asked : x.request.isFaultNext = true) (live : x.live = true)
      (pass : s.link.pass.isSome = true) : Effect s (completePass (linkSucceeded s))
  | polls (runs : s.link.pollTimer.isSome = true) :
      Effect s { raiseTemp s with link := { (raiseTemp s).link with pollTimer := some (s.now + Config.poll) } }
  | goesStale : Effect s (staleCache s)
  | owesPass : Effect s { s with link := { s.link with passOwed := true, passTimer := some (s.now + Config.passPeriod) } }
  | measuresSteady (mean : Nat) (runs : s.lamps.meanTimer.isSome = true) :
      Effect s (measureEnds (resolve s.start.image.bands mean) (sensed mean) s)
  | readsShort (mean : Nat) (runs : s.lamps.watchTimer.isSome = true) : Effect s (shortReading mean s)
  | endsCapture (x y : Capture) (onMean tailMean : Nat) (open_ : s.lamps.capture = some x) :
      Effect s (captureEnds y onMean tailMean s)
  | waitsNoLonger (runs : s.lamps.linkWaitTimer.isSome = true) : Effect s (linkWaitOver s)
  | rechecksLamps (session : s.sessionOpen = true) (early : s.dep.state.early = true) (idle : s.lamps.running = false) :
      Effect s (leaveReady (emptySheet s))
  | rechecksFaults (session : s.sessionOpen = true) : Effect s { s with link := { s.link with passOwed := true } }
  | holds (hold : Bool) (timer : Option Nat) : Effect s { s with dep := { s.dep with hold := hold, holdTimer := timer } }
  | assigns (coach countdown : Nat) (fits : countdown ≤ 65535) (free : s.dep.state ≠ .holding ∧ s.dep.state ≠ .gone) :
      Effect s (acceptAssign coach countdown s)
  | cancels (given : s.dep.state = .assigned ∨ s.dep.state = .ready ∨ s.dep.state = .settling ∨ s.dep.state = .lapsed) :
      Effect s (enterNone s)
  | waives (lamp fault heat : Bool) :
      Effect s { s with dep := { s.dep with waiveLamp := s.dep.waiveLamp || lamp, waiveFault := s.dep.waiveFault || fault,
                                            waiveHeat := s.dep.waiveHeat || heat } }
  | ticks (runs : s.dep.nextFall.isSome = true) :
      Effect s { s with dep := { s.dep with countdown := s.dep.countdown.map fun c => max Config.lowestCountdown (c - 1),
                                            nextFall := some s.nextSecond } }
  | goesGreen (settling : s.dep.state = .settling) : Effect s (enterHolding s)
  | lapses (holding : s.dep.state = .holding) : Effect s (enterLapsed s)
  | endsTransit (gone : s.dep.state = .gone) : Effect s (transitOver s)
  | sags (dip : s.supply.dip.isSome = true) (steady : s.supply.sag = false) :
      Effect s (lampSag { s with supply := { s.supply with
        sag := true, detected := true, lowest := some s.supply.level, recovery := none, dip := none } })
  | recovers (sag : s.supply.sag = true) :
      Effect s (lampRecovered { s with supply := { s.supply with sag := false, recovery := none } })
  | samples (v : Int) (runs : s.lead.probeTimer.isSome = true) : Effect s (sampleProbe v s)
  | closesWindow (runs : s.meter.window.isSome = true) : Effect s (closeWindow s)
  | finishes (f : Flight) (flies : s.line.inFlight = some f) : Effect s (finishFrame f s)
  | errs (f : Flight) (flies : s.line.inFlight = some f) : Effect s (countError (returnFrame f s))
  | conflicts (configured : s.configured = true) :
      Effect s { s with line := { s.line with conflict := true, conflictTimer := some (s.now + Config.conflict) } }
  | agrees : Effect s { s with line := { s.line with conflict := false, conflictTimer := none } }
  | hearsDepart (n : Nat) (part : DepartPart) (configured : s.configured = true) (peer : s.isPeer n = true) :
      Effect s (hearDepart n part s)
  | hearsAir (n : Nat) (part : AirPart) (configured : s.configured = true) (peer : s.isPeer n = true) :
      Effect s (giveLowestAir (setPeer n (fun e => { e with air := some part }) s))
  | expires (n : Nat) (part : PartKind) :
      Effect s (giveLowestAir { s with peers := s.peers.expirePart s.now n part })

/-! ### A command in three parts -/

/-- The moment of a command has come, with the receipt mark of a frame where it is one. -/
inductive Arrives (s : State) : State → Prop
  | clock (t : Nat) : Arrives s (s.advance t)
  | frame (t : Nat) (right : Bool) : Arrives s (markReceipt right (s.advance t))

/-- Nothing, a quiet effect, or an effect and its reactions. -/
inductive Happens (s : State) : State → Prop
  | nothing : Happens s s
  | quietly {v : State} (h : Quiet s v) : Happens s v
  | event {v : State} (h : Effect s v) : Happens s (settle v)

/-- What is left to do after a late event has been put right (log 3): the clock moves on, and a raw level is read. -/
inductive Trails (s : State) : State → Prop
  | done : Trails s s
  | clock (t : Nat) : Trails s (s.advance t)
  | loop (t : Nat) (level : Bool) :
      Trails s { s.advance t with bay := { s.bay with presence := s.bay.presence.rawChange level (max s.now t) } }
  | plug (t : Nat) (level : Bool) :
      Trails s { s.advance t with bay := { s.bay with plug := s.bay.plug.rawChange level (max s.now t) } }
  | key (t : Nat) (level : Bool) :
      Trails s { s.advance t with bay := { s.bay with key := s.bay.key.rawChange level (max s.now t) } }
  | flash (t : Nat) (lit : Bool) :
      Trails s { s.advance t with lamps := { s.lamps with
        capture := s.lamps.capture.map fun x => { x with lit := x.lit.rawChange lit (max s.now t) } } }

/-- A command's whole effect but for the resets and the round. -/
def Runs (s u : State) : Prop := ∃ b v, Arrives s b ∧ Happens b v ∧ Trails v u

theorem Runs.of_happens {s v : State} (t : Nat) (h : Happens (s.advance t) v) : Runs s v := ⟨_, _, .clock t, h, .done⟩

theorem Runs.nothing (s : State) (t : Nat) : Runs s (s.advance t) := .of_happens t .nothing

theorem Runs.quietly {s v : State} {t : Nat} (h : Quiet (s.advance t) v) : Runs s v := .of_happens t (.quietly h)

theorem Runs.event {s v : State} {t : Nat} (h : Effect (s.advance t) v) : Runs s (settle v) := .of_happens t (.event h)

/-- An expiry does nothing or its effect. -/
theorem Runs.onDue {s : State} {t : Nat} {timer : Option Nat} {effect : State → State}
    (h : timer.isSome = true → Happens (s.advance t) (effect (s.advance t))) : Runs s (onDue timer effect (s.advance t)) := by
  rcases onDue_cases timer effect (s.advance t) with ⟨⟨d, hd, _⟩, e⟩ | ⟨_, e⟩
  · rw [e]; exact .of_happens t (h (by rw [hd]; rfl))
  · rw [e]; exact .nothing s t

/-- A frame received does nothing but earn its mark, or its effect. -/
theorem Runs.receive {s : State} {t : Nat} {effect : State → State}
    (h : (s.heard t).configured = true → Happens (s.heard t) (effect (s.heard t))) : Runs s (receive effect (s.advance t)) := by
  unfold Machine.receive
  split
  · next hc => exact ⟨_, _, .frame t true, h hc, .done⟩
  · exact ⟨_, _, .frame t true, .nothing, .done⟩

/-- A response does nothing, fails its transaction, late or in time, or succeeds. -/
theorem Runs.takeReply {s : State} {t tag : Nat} {fits : Request → Bool} {onSuccess : Transaction → State → State}
    (h : ∀ x, (s.advance t).link.busy = some x → fits x.request = true →
      Effect (s.advance t) (onSuccess x (linkSucceeded (s.advance t)))) : Runs s (takeReply t tag fits onSuccess s) := by
  rcases takeReply_cases t tag fits onSuccess s with ⟨_, e⟩ | ⟨x, hb, _, ⟨_, e⟩ | ⟨_, _, e⟩ | ⟨_, hf, e⟩⟩
  · rw [e]; exact .nothing s t
  · rw [e]; exact ⟨_, _, .clock x.timer, .event (.fails x hb), .clock t⟩
  · rw [e]; exact .event (.fails x hb)
  · rw [e]; exact .event (h x hb hf)

/-- An acceptance overdue, then the change of the raw level. -/
theorem Runs.takeHeld {s u : State} {held : Option Nat} {effect : State → State}
    (h : ∀ m, held = some m → Happens (s.advance m) (effect (s.advance m))) (hu : Trails (takeHeld held effect s) u) :
    Runs s u := by
  cases hh : held with
  | none => exact ⟨_, _, .clock 0, .nothing, by simpa [Machine.takeHeld, hh, State.advance] using hu⟩
  | some m => exact ⟨_, _, .clock m, h m hh, by simpa [Machine.takeHeld, hh] using hu⟩

/-! ### The acceptances -/

theorem acceptPresence_happens {s : State} {level : Bool} (h : s.bay.presence.level ≠ level) :
    Happens s (acceptPresence level s) := by
  unfold acceptPresence
  dsimp only
  split
  · next hs => exact .quietly (.takesLoop level hs)
  · next hs => exact .event (.loop level (by simpa using hs) h)

@[simp] theorem linkPlugIn_keeps (s : State) :
    LinkOnly s (linkPlugIn s) ∧ (linkPlugIn s).link.busy = s.link.busy ∧ (linkPlugIn s).link.cache = s.link.cache ∧
      (linkPlugIn s).link.tag = s.link.tag ∧ (linkPlugIn s).link.passTimer = s.link.passTimer ∧
      (linkPlugIn s).link.pollTimer = s.link.pollTimer ∧ (linkPlugIn s).link.pass = s.link.pass ∧
      (linkPlugIn s).link.passOwed = s.link.passOwed ∧ (linkPlugIn s).link.lampReq = s.link.lampReq ∧
      (linkPlugIn s).link.tempReq = s.link.tempReq ∧ (linkPlugIn s).link.faultReq = s.link.faultReq ∧
      (linkPlugIn s).link.identifyReq = s.link.identifyReq := by
  unfold linkPlugIn; split <;> simp

theorem acceptPlugIn_happens {s : State} (h : s.bay.plug.level = false) : Happens s (acceptPlugIn s) := by
  unfold acceptPlugIn
  dsimp only
  split
  · next hs => exact .quietly (.linkTakesPlug h (by simpa using hs))
  · next hs => exact .event (.plugsIn (by simpa using hs) h)

theorem acceptPlugOut_happens {s : State} (h : s.bay.plug.level = true) : Happens s (acceptPlugOut s) :=
  .event (.plugsOut h)

/-- An acceptance overdue is of the level not accepted yet. -/
theorem Filter.level_of_heldTo {f : Filter} {level : Bool} {long now m : Nat} (h : f.heldTo level long now = some m) :
    f.level = level := by
  rcases Filter.heldTo_cases f level long now with ⟨b, _, h1, h2, _, _⟩ | ⟨_, e⟩
  · revert h1 h2; cases f.raw <;> cases f.level <;> cases level <;> simp
  · rw [e] at h; cases h

theorem Filter.level_ne_of_mayAccept {f : Filter} {level : Bool} {short now : Nat} (h : f.mayAccept level short now = true) :
    f.level ≠ level := by
  simp only [Filter.mayAccept, Bool.and_eq_true, decide_eq_true_eq] at h
  exact h.1

theorem acceptLit_happens {s : State} {x : Capture} (lit : Bool) (mean : Nat) (h : s.lamps.capture = some x) :
    Happens s (acceptLit x lit mean s) := by
  unfold acceptLit
  dsimp only
  split
  · exact .quietly (.timesEdge x lit h)
  · exact .event (.endsCapture x _ mean mean h)

/-! ### Every command -/

theorem rawPresence_runs (t : Nat) (level : Bool) (s : State) : Runs s (rawPresence t level s) := by
  refine .takeHeld (fun m hm => ?_) (.loop t level)
  exact acceptPresence_happens (by simp [Filter.level_of_heldTo hm])

theorem rawPlug_runs (t : Nat) (level : Bool) (s : State) : Runs s (rawPlug t level s) := by
  refine .takeHeld (fun m hm => ?_) (.plug t level)
  have hl := Filter.level_of_heldTo hm
  cases level with
  | false => exact acceptPlugIn_happens hl
  | true => exact acceptPlugOut_happens hl

theorem rawKey_runs (t : Nat) (level : Bool) (s : State) : Runs s (rawKey t level s) :=
  .takeHeld (fun _ _ => .quietly (.takesKey _)) (.key t level)

theorem rawFlash_runs (t onMean current : Nat) (s : State) : Runs s (rawFlash t onMean current s) := by
  unfold rawFlash
  split
  · next x p hx hp => exact .takeHeld (fun m hm => acceptLit_happens _ _ hx) (.flash t _)
  · exact .nothing s t

theorem bringUp_happens {s : State} {words : List Word16} {passes : Bool} (probe : Int)
    (reads : s.start.phase = .reading ∨ s.start.readTimer.isSome = true) (pass : passes = true → imagePasses words = true) :
    Happens s (bringUp (imageOf words) passes probe s) :=
  .event (.bringsUp _ _ _ reads words rfl pass)

theorem checkWordComes_runs {t : Nat} {words : List Word16} {probe : Int} {s : State} (h : s.start.phase = .reading) :
    Runs s (checkWordComes t words probe s) := by
  rcases checkWordComes_cases t words probe s with ⟨d, hd, _, e⟩ | ⟨_, e⟩
  · rw [e]; exact ⟨_, _, .clock d, bringUp_happens _ (.inl h) (by simp), .clock t⟩
  · rw [e]; exact .of_happens t (bringUp_happens _ (.inl h) id)

/-- Everything a command can do. -/
theorem exec_cases {c : Instr} {s u : State} (h : exec c s = .next u) :
    (∃ cause, u = s.afterReset cause) ∨
    (∃ t d, c = .claimPeriodExpiry t ∧ s.heat.claimTimer = some d ∧ d ≤ max s.now t ∧
      u = settle (claimPeriodEffect (s.advance t))) ∨ Runs s u := by
  cases c <;> obtain rfl := Host.Outcome.next.inj h
  case powerOn => exact .inl ⟨0, rfl⟩
  case resetLine r => exact .inl ⟨_, rfl⟩
  case claimPeriodExpiry t =>
    rcases onDue_cases s.heat.claimTimer (fun s => settle (claimPeriodEffect s)) (s.advance t) with
      ⟨⟨d, hd, hle⟩, e⟩ | ⟨_, e⟩
    · exact .inr (.inl ⟨t, d, rfl, hd, hle, e⟩)
    · exact .inr (.inr (by
        have k : Runs s (onDue s.heat.claimTimer (fun s => settle (claimPeriodEffect s)) (s.advance t)) := by
          rw [e]; exact .nothing s t
        exact k))
  all_goals refine .inr (.inr ?_)
  case configCheckWordReceived t words probe =>
    split
    · next hp => exact checkWordComes_runs hp
    · exact .nothing s t
  case configReadTimeout t words => exact .onDue fun h => bringUp_happens _ (.inr h) (by simp)
  case startIntervalEnd t => exact .onDue fun h => .event (.startsBay h)
  case rawInputChange t pin level =>
    cases pin with
    | presence => exact rawPresence_runs t _ s
    | plug => exact rawPlug_runs t _ s
    | key => exact rawKey_runs t _ s
    | flash onMean => exact rawFlash_runs t onMean level s
  case presenceAcceptedOccupied t =>
    split
    · next h => exact .of_happens t (acceptPresence_happens (Filter.level_ne_of_mayAccept h))
    · exact .nothing s t
  case presenceAcceptedClear t =>
    split
    · next h => exact .of_happens t (acceptPresence_happens (Filter.level_ne_of_mayAccept h))
    · exact .nothing s t
  case plugAcceptedIn t =>
    split
    · next h => exact .of_happens t (acceptPlugIn_happens (by simpa using Filter.level_ne_of_mayAccept h))
    · exact .nothing s t
  case plugAcceptedOut t =>
    split
    · next h => exact .of_happens t (acceptPlugOut_happens (by simpa using Filter.level_ne_of_mayAccept h))
    · exact .nothing s t
  case keyAccepted t level =>
    split
    · exact .quietly (.takesKey level)
    · exact .nothing s t
  case reidentifyTimerExpiry t => exact .onDue fun _ => .event .reidentifies
  case identifyResponse t tag coach cls hint =>
    exact .takeReply fun x hb hf => .identifies x _ hint hb (by simp only [Bool.and_eq_true, decide_eq_true_eq] at hf; exact hf.1.1.1)
  case lampSetResponse t tag channel on =>
    exact .takeReply fun x hb hf => .acknowledges x channel on hb (by simpa using hf)
  case readTempResponse t tag reading =>
    refine .takeReply fun x hb hf => ?_
    cases reading with
    | none => exact .findsNoSensor x hb (by simpa using hf)
    | some v => exact .readsCabin x v hb (by simpa using hf)
  case faultNextEntry t tag module code severity count next =>
    refine .takeReply fun x hb hf => ?_
    have hr : x.request.isFaultNext = true := by simp only [Bool.and_eq_true] at hf; exact hf.1.1.1.1
    split
    · next hl => exact .takesEntry x module code severity count next hb hr hl
    · exact .discardsPassReply x hb hr
  case faultNextEndMark t tag =>
    refine .takeReply fun x hb hf => ?_
    split
    · next hl => exact .endsPass x hb hf hl.1 (by simpa using hl.2)
    · exact .discardsPassReply x hb hf
  case linkResponseMalformed t tag => exact .takeReply fun x _ hf => by cases hf
  case linkTimeout t =>
    split
    · next x hb => exact .onDue fun _ => .event (.fails x hb)
    · exact .nothing s t
  case linkResponseOtherTag t tag => exact .nothing s t
  case pollTimerExpiry t => exact .onDue fun h => .event (.polls h)
  case cacheStaleTimerExpiry t => exact .onDue fun _ => .event .goesStale
  case passTimerExpiry t => exact .onDue fun _ => .event .owesPass
  case warmTimerExpiry t current =>
    refine .onDue fun h => ?_
    split
    · next p hp => exact .quietly (.beginsMeasure p current h hp)
    · exact .nothing
  case steadyMeasureEnd t mean => exact .onDue fun h => .event (.measuresSteady mean h)
  case shortWatchBlockEnd t mean =>
    refine .onDue fun h => ?_
    dsimp only
    split
    · exact .event (.readsShort _ h)
    · exact .quietly (.watchesOn h)
  case litLevelAccepted t lit mean =>
    split
    · next x hx =>
      split
      · exact .of_happens t (acceptLit_happens lit mean hx)
      · exact .nothing s t
    · exact .nothing s t
  case captureWindowExpiry t onMean tailMean =>
    split
    · next x hx => exact .onDue fun _ => .event (.endsCapture x x onMean tailMean hx)
    · exact .nothing s t
  case linkWaitExpiry t => exact .onDue fun h => .event (.waitsNoLonger h)
  case supplySenseChange t level =>
    split
    · exact .quietly (.senses level)
    · next hp =>
      split
      · next hs => exact .quietly (.sensesSag level hp hs)
      · next hs => exact .quietly (.sensesDip level hp (by simpa using hs))
  case sagDetected t =>
    refine .onDue fun h => ?_
    dsimp only
    split
    · exact .nothing
    · next hs => exact .event (.sags h (by simpa using hs))
  case supplyRecovered t =>
    refine .onDue fun _ => ?_
    dsimp only
    split
    · next hs => exact .event (.recovers hs)
    · exact .nothing
  case lineIdle t =>
    split
    · next h => exact .quietly (.transmits h)
    · exact .nothing s t
  case arbitrationLost t =>
    split
    · next f hf => exact .quietly (.returnsFrame f hf)
    · exact .nothing s t
  case frameFinished t =>
    split
    · next f hf => exact .event (.finishes f hf)
    · exact .nothing s t
  case transmitError t =>
    split
    · next f hf => exact .event (.errs f hf)
    · exact .nothing s t
  case quietTimerExpiry t => exact .onDue fun h => .quietly (.probes h)
  case frameMalformed t right => exact ⟨_, _, .frame t right, .nothing, .done⟩
  case frameSenderRefused t => exact ⟨_, _, .frame t true, .nothing, .done⟩
  case frameNotForBay t => exact .receive fun _ => .nothing
  case unconfiguredFrameReceived t =>
    split
    · exact .nothing s t
    · exact ⟨_, _, .frame t false, .nothing, .done⟩
  case ownNumberHeard t => exact .receive fun h => .event (.conflicts h)
  case conflictTimerExpiry t => exact .onDue fun _ => .event .agrees
  case heatClaimReceived t sender state wanted intended drawn power latest =>
    refine .receive fun h => ?_
    dsimp only
    split
    · next hp => exact .quietly (.hearsHeat sender _ h (by simp only [Bool.and_eq_true] at hp; exact hp.1))
    · exact .nothing
  case departClaimReceived t sender state countdown =>
    refine .receive fun h => ?_
    dsimp only
    split
    · next hp => exact .event (.hearsDepart sender { state := state, countdown := countdown, heard := _ } h hp)
    · exact .nothing
  case airTempReceived t sender temp =>
    refine .receive fun h => ?_
    dsimp only
    split
    · next hp => exact .event (.hearsAir sender _ h hp)
    · exact .nothing
  case peerPartExpiry t station part => exact .event (.expires station part)
  case holdSet t => exact .receive fun _ => .event (.holds true _)
  case holdClear t => exact .receive fun _ => .event (.holds false none)
  case holdTimerExpiry t => exact .onDue fun _ => .event (.holds false none)
  case assign t coach countdown =>
    refine .receive fun _ => ?_
    split
    · next hf =>
      split
      case h_1 => exact .quietly (.refusesAssign coach)
      case h_2 => exact .quietly (.refusesAssign coach)
      all_goals next hd => exact .event (.assigns coach countdown hf.2 (by rw [hd]; decide))
    · exact .nothing
  case cancel t =>
    refine .receive fun _ => ?_
    split
    case h_1 hd => exact .event (.cancels (by rw [hd]; decide))
    case h_2 hd => exact .event (.cancels (by rw [hd]; decide))
    case h_3 hd => exact .event (.cancels (by rw [hd]; decide))
    case h_4 hd => exact .event (.cancels (by rw [hd]; decide))
    all_goals exact .nothing
  case waiveLamp t =>
    refine .receive fun _ => ?_
    dsimp only
    split
    · simpa using Happens.event (Effect.waives (s := s.heard t) true false false)
    · exact .nothing
  case waiveFault t =>
    refine .receive fun _ => ?_
    dsimp only
    split
    · simpa using Happens.event (Effect.waives (s := s.heard t) false true false)
    · exact .nothing
  case waiveHeat t =>
    refine .receive fun _ => ?_
    dsimp only
    split
    · simpa using Happens.event (Effect.waives (s := s.heard t) false false true)
    · exact .nothing
  case recheckLamps t =>
    refine .receive fun _ => ?_
    split
    · next h =>
      simp only [Bool.and_eq_true, Bool.not_eq_true'] at h
      exact .event (.rechecksLamps h.1.1 h.1.2 h.2)
    · exact .nothing
  case recheckFaults t =>
    refine .receive fun _ => ?_
    dsimp only
    split
    · next h => simp only [Bool.and_eq_true] at h; exact .event (.rechecksFaults h.1)
    · exact .nothing
  case maskSetSources t sources => exact .receive fun _ => .quietly (.masks sources true)
  case maskClearSources t sources => exact .receive fun _ => .quietly (.masks sources false)
  case maskAllOn t => exact .receive fun _ => .quietly (.masksAll true)
  case maskAllOff t => exact .receive fun _ => .quietly (.masksAll false)
  case reportReqFaults t => exact .receive fun _ => .quietly (.requestsReport .faults)
  case reportReqLamps t => exact .receive fun _ => .quietly (.requestsReport .lamps)
  case reportReqBayStatus t => exact .receive fun _ => .quietly (.requestsReport .bayStatus)
  case probeTimerExpiry t sample => exact .onDue fun h => .event (.samples sample h)
  case meterPulse t =>
    split
    · next d hd => exact .quietly (.countsPulse (by rw [hd]; rfl))
    · exact .nothing s t
  case meterWindowExpiry t => exact .onDue fun h => .event (.closesWindow h)
  case countdownTick t => exact .onDue fun h => .event (.ticks h)
  case settleTimerExpiry t =>
    refine .onDue fun _ => ?_
    split
    · next h => exact .event (.goesGreen h)
    · exact .nothing
  case releaseWindowExpiry t =>
    refine .onDue fun _ => ?_
    split
    · next h => exact .event (.lapses h)
    · exact .nothing
  case transitTimerExpiry t =>
    refine .onDue fun _ => ?_
    split
    · next h => exact .event (.endsTransit h)
    · exact .nothing
  case noticeRepeatExpiry t source => exact .onDue fun h => .quietly (.repeats source h)

end Sys2Proof.Machine
end

section
/-! SUPPORT. The induction over commands, packaged once: what is kept by each part of a command is kept by every step. With it, what the
operations of the bay, of sessions and of failures leave unchanged. -/

namespace Sys2Proof.Machine

open Sys2Proof

/-- A property of the state that everything a step is made of keeps. -/
structure Kept (P : State → Prop) : Prop where
  queue : ∀ s rest, P s → P { s with pending := rest }
  reset : ∀ s cause, P s → P (s.afterReset cause)
  arrives : ∀ s b, P s → Arrives s b → P b
  quietly : ∀ s v, P s → Quiet s v → P v
  event : ∀ s v, P s → Effect s v → P (settle v)
  round : ∀ s, P s → P (settle (claimPeriodEffect s))
  trails : ∀ s u, P s → Trails s u → P u

theorem Kept.runs {P : State → Prop} (k : Kept P) {s u : State} (hs : P s) (h : Runs s u) : P u := by
  obtain ⟨b, v, ha, hh, ht⟩ := h
  have hb : P b := k.arrives s b hs ha
  refine k.trails v u ?_ ht
  cases hh with
  | nothing => exact hb
  | quietly q => exact k.quietly b v hb q
  | event e => exact k.event b _ hb e

theorem Kept.exec {P : State → Prop} (k : Kept P) {c : Instr} {s u : State} (hs : P s) (h : exec c s = .next u) : P u := by
  rcases exec_cases h with ⟨cause, rfl⟩ | ⟨t, d, _, _, _, rfl⟩ | hr
  · exact k.reset s cause hs
  · exact k.round _ (k.arrives s _ hs (.clock t))
  · exact k.runs hs hr

/-- A step idles, or runs the front command on the queue's rest. -/
theorem step_cases {s u : State} (h : step s = .next u) :
    u = s ∨ ∃ c rest, exec c { s with pending := rest } = .next u := by
  unfold step at h
  split at h
  · exact .inl (Host.Outcome.next.inj h).symm
  · next c rest _ => exact .inr ⟨c, rest, h⟩

theorem Kept.step {P : State → Prop} (k : Kept P) {s u : State} (hs : P s) (h : step s = .next u) : P u := by
  rcases step_cases h with rfl | ⟨c, rest, h⟩
  · exact hs
  · exact k.exec (k.queue s rest hs) h

/-! ### What an arrival and a trail leave -/

/-- An arrival moves the clock and the receipt mark. -/
theorem Arrives.eq {s b : State} (h : Arrives s b) :
    b = { s with now := b.now, line := { s.line with receiptMark := b.line.receiptMark } } ∧ s.now ≤ b.now := by
  cases h <;> exact ⟨rfl, Nat.le_max_left _ _⟩

@[simp] theorem Filter.rawChange_level (f : Filter) (level : Bool) (now : Nat) : (f.rawChange level now).level = f.level := by
  simp [Filter.rawChange_eq]

/-- A trail moves the clock, the raw side of a filter and the raw side of the capture's. -/
theorem Trails.eq {s u : State} (h : Trails s u) :
    u = { s with
      now := u.now,
      bay := { s.bay with presence := u.bay.presence, plug := u.bay.plug, key := u.bay.key },
      lamps := { s.lamps with capture := u.lamps.capture } } ∧
    s.now ≤ u.now ∧ u.bay.presence.level = s.bay.presence.level ∧ u.bay.plug.level = s.bay.plug.level ∧
    u.lamps.capture.isSome = s.lamps.capture.isSome := by
  cases h
  case done => exact ⟨rfl, Nat.le_refl _, rfl, rfl, rfl⟩
  case flash => exact ⟨rfl, Nat.le_max_left _ _, rfl, rfl, by simp⟩
  all_goals exact ⟨rfl, Nat.le_max_left _ _, by simp, by simp, rfl⟩

/-! ### The bay, sessions and failures -/

@[simp] theorem setOccupancy_keeps (o : Occupancy) (s : State) :
    KeepsCore s (setOccupancy o s) ∧ (setOccupancy o s).bay = { s.bay with occupancy := o } ∧
      (setOccupancy o s).link = s.link ∧ (setOccupancy o s).faults = s.faults ∧ (setOccupancy o s).lamps = s.lamps ∧
      (setOccupancy o s).line = s.line ∧ (setOccupancy o s).peers = s.peers ∧ (setOccupancy o s).lead = s.lead ∧
      (setOccupancy o s).heat = s.heat ∧ (setOccupancy o s).meter = s.meter ∧ (setOccupancy o s).dep = s.dep ∧
      (setOccupancy o s).notices = s.notices := by
  simp [setOccupancy]

/-- Two states alike but for the bay's record. -/
@[simp] abbrev BayOnly (a b : State) : Prop :=
  KeepsCore a b ∧ b.link = a.link ∧ b.faults = a.faults ∧ b.lamps = a.lamps ∧ b.line = a.line ∧ b.peers = a.peers ∧
  b.lead = a.lead ∧ b.heat = a.heat ∧ b.meter = a.meter ∧ b.dep = a.dep ∧ b.notices = a.notices ∧
  b.bay.session = a.bay.session ∧ b.bay.presence = a.bay.presence ∧ b.bay.plug = a.bay.plug ∧ b.bay.key = a.bay.key ∧
  b.bay.implied = a.bay.implied ∧ b.bay.startInterval = a.bay.startInterval ∧ b.bay.aspect = a.bay.aspect

@[simp] theorem bayLinkLost_keeps (s : State) : BayOnly s (bayLinkLost s) := by
  unfold bayLinkLost; split <;> simp

@[simp] theorem identifyFailed_keeps (s : State) :
    KeepsCore s (identifyFailed s) ∧ (identifyFailed s).faults = s.faults ∧ (identifyFailed s).lamps = s.lamps ∧
      (identifyFailed s).line = s.line ∧ (identifyFailed s).peers = s.peers ∧ (identifyFailed s).lead = s.lead ∧
      (identifyFailed s).heat = s.heat ∧ (identifyFailed s).meter = s.meter ∧ (identifyFailed s).dep = s.dep ∧
      (identifyFailed s).notices = s.notices ∧ (identifyFailed s).bay.session = s.bay.session ∧
      (identifyFailed s).bay.occupancy = s.bay.occupancy ∧ (identifyFailed s).bay.presence = s.bay.presence ∧
      (identifyFailed s).bay.plug = s.bay.plug ∧ (identifyFailed s).bay.key = s.bay.key ∧
      (identifyFailed s).bay.implied = s.bay.implied ∧ (identifyFailed s).bay.startInterval = s.bay.startInterval ∧
      (identifyFailed s).bay.aspect = s.bay.aspect ∧ (identifyFailed s).link.state = s.link.state ∧
      (identifyFailed s).link.failureRun = s.link.failureRun ∧ (identifyFailed s).link.cache = s.link.cache ∧
      (identifyFailed s).link.passTimer = s.link.passTimer ∧ (identifyFailed s).link.busy = s.link.busy ∧
      (identifyFailed s).link.lampReq = s.link.lampReq ∧ (identifyFailed s).link.tempReq = s.link.tempReq ∧
      (identifyFailed s).link.faultReq = s.link.faultReq ∧ (identifyFailed s).link.tag = s.link.tag ∧
      (identifyFailed s).link.pollTimer = s.link.pollTimer ∧ (identifyFailed s).link.pass = s.link.pass ∧
      (identifyFailed s).link.passOwed = s.link.passOwed := by
  unfold identifyFailed; split <;> simp_all

/-- The cache is told of and the lead and the marks follow, and nothing else. -/
@[simp] abbrev CacheOnly (a b : State) : Prop :=
  KeepsCore a b ∧ b.bay = a.bay ∧ b.faults = a.faults ∧ b.lamps = a.lamps ∧ b.line = a.line ∧ b.meter = a.meter ∧
  b.dep = a.dep ∧ b.notices = a.notices ∧ b.lead.probe = a.lead.probe ∧ b.lead.probeTimer = a.lead.probeTimer ∧
  b.link.state = a.link.state ∧ b.link.failureRun = a.link.failureRun ∧ b.link.passTimer = a.link.passTimer ∧
  b.link.identifyReq = a.link.identifyReq ∧ b.link.busy = a.link.busy ∧ b.link.lampReq = a.link.lampReq ∧
  b.link.tempReq = a.link.tempReq ∧ b.link.faultReq = a.link.faultReq ∧ b.link.tag = a.link.tag ∧
  b.link.pollTimer = a.link.pollTimer ∧ b.link.pass = a.link.pass ∧ b.link.passOwed = a.link.passOwed

@[simp] theorem cacheWentStale_keeps (s : State) : CacheOnly s (cacheWentStale s) ∧ (cacheWentStale s).link = s.link := by
  simp [cacheWentStale]

@[simp] theorem staleCache_keeps (s : State) : CacheOnly s (staleCache s) := by
  unfold staleCache; split <;> simp

@[simp] theorem takeNoSensor_keeps (s : State) : CacheOnly s (takeNoSensor s) := by
  unfold takeNoSensor; dsimp only; split <;> simp

@[simp] theorem emptyCache_keeps (s : State) : CacheOnly s (emptyCache s) := by
  unfold emptyCache; dsimp only; split <;> simp

@[simp] theorem takeReading_keeps (temp : Int) (s : State) : CacheOnly s (takeReading temp s) := by
  simp [takeReading]

end Sys2Proof.Machine
end

section
/-! SUPPORT. What the operations that join several blocks leave unchanged: session ends and openings, the bay's moves, a transaction's
failure, metering, rounds, the line's outcomes and bring-up. -/

namespace Sys2Proof.Machine

open Sys2Proof

/-! ### The departure's moves that tell of themselves -/

/-- The departure moves with its claim and its notices, and nothing else. -/
@[simp] abbrev DepartureOnly (a b : State) : Prop :=
  KeepsCore a b ∧ b.bay = a.bay ∧ b.link = a.link ∧ b.faults = a.faults ∧ b.lamps = a.lamps ∧ b.peers = a.peers ∧
  b.lead = a.lead ∧ b.heat = a.heat ∧ b.meter = a.meter ∧ SourcesOnly a.notices b.notices ∧ ClaimsOnly a.line b.line ∧
  b.line.heatSlot = a.line.heatSlot ∧ b.line.airSlot = a.line.airSlot

@[simp] theorem enterGone_keeps (coach : Nat) (s : State) : DepartureOnly s (enterGone coach s) := by simp [enterGone]

@[simp] theorem enterLapsed_keeps (s : State) : DepartureOnly s (enterLapsed s) := by simp [enterLapsed]

@[simp] theorem replacedExit_keeps (coach : Nat) (s : State) : DepartureOnly s (replacedExit coach s) := by
  unfold replacedExit; split <;> simp

@[simp] theorem departureAtSessionEnd_keeps (cause : EndCause) (coach : Nat) (s : State) :
    DepartureOnly s (departureAtSessionEnd cause coach s) := by
  unfold departureAtSessionEnd
  split
  · split <;> simp
  · split <;> simp
  all_goals simp

@[simp] theorem clearanceSessionEnd_keeps (cause : EndCause) (coach : Nat) (s : State) :
    DepartureOnly s (clearanceSessionEnd cause coach s) := by
  simp [clearanceSessionEnd]

@[simp] theorem enterHolding_keeps (s : State) :
    KeepsCore s (enterHolding s) ∧ (enterHolding s).bay = s.bay ∧ (enterHolding s).faults = s.faults ∧
      (enterHolding s).peers = s.peers ∧ (enterHolding s).lead = s.lead ∧ (enterHolding s).heat = s.heat ∧
      (enterHolding s).meter = s.meter ∧ (enterHolding s).notices = s.notices ∧ LampSlotOnly s.link (enterHolding s).link ∧
      ClaimsOnly s.line (enterHolding s).line ∧ (enterHolding s).line.heatSlot = s.line.heatSlot ∧
      (enterHolding s).line.airSlot = s.line.airSlot := by
  simp [enterHolding]

@[simp] theorem acceptAssign_keeps (coach countdown : Nat) (s : State) :
    KeepsCore s (acceptAssign coach countdown s) ∧ (acceptAssign coach countdown s).bay = s.bay ∧
      (acceptAssign coach countdown s).link = s.link ∧ (acceptAssign coach countdown s).faults = s.faults ∧
      (acceptAssign coach countdown s).lamps = s.lamps ∧ (acceptAssign coach countdown s).heat = s.heat ∧
      (acceptAssign coach countdown s).meter = s.meter ∧ (acceptAssign coach countdown s).notices = s.notices ∧
      (acceptAssign coach countdown s).lead.probe = s.lead.probe ∧
      (acceptAssign coach countdown s).lead.probeTimer = s.lead.probeTimer ∧
      ClaimsOnly s.line (acceptAssign coach countdown s).line ∧
      (acceptAssign coach countdown s).line.heatSlot = s.line.heatSlot ∧
      (acceptAssign coach countdown s).line.airSlot = s.line.airSlot := by
  simp [acceptAssign]

/-! ### Sessions -/

@[simp] theorem heatSessionEnd_keeps (s : State) :
    KeepsCore s (heatSessionEnd s) ∧ (heatSessionEnd s).bay = s.bay ∧ (heatSessionEnd s).faults = s.faults ∧
      (heatSessionEnd s).lamps = s.lamps ∧ (heatSessionEnd s).dep = s.dep ∧ (heatSessionEnd s).notices = s.notices ∧
      PollOnly s.link (heatSessionEnd s).link ∧ ClaimsOnly s.line (heatSessionEnd s).line ∧
      (heatSessionEnd s).line.departSlot = s.line.departSlot ∧ (heatSessionEnd s).line.airSlot = s.line.airSlot ∧
      (heatSessionEnd s).lead.probe = s.lead.probe ∧ (heatSessionEnd s).lead.probeTimer = s.lead.probeTimer ∧
      (heatSessionEnd s).meter.overdrawRun = 0 := by
  simp [heatSessionEnd]

@[simp] theorem endSession_keeps (cause : EndCause) (coach : Nat) (s : State) :
    KeepsCore s (endSession cause coach s) ∧ (endSession cause coach s).bay = { s.bay with session := .none } ∧
      (endSession cause coach s).faults = s.faults.endSession ∧ SourcesOnly s.notices (endSession cause coach s).notices ∧
      ClaimsOnly s.line (endSession cause coach s).line ∧ (endSession cause coach s).line.airSlot = s.line.airSlot ∧
      (endSession cause coach s).lead.probe = s.lead.probe ∧
      (endSession cause coach s).lead.probeTimer = s.lead.probeTimer ∧
      (endSession cause coach s).link.state = s.link.state ∧ (endSession cause coach s).link.failureRun = s.link.failureRun ∧
      (endSession cause coach s).link.identifyReq = s.link.identifyReq ∧ (endSession cause coach s).link.passTimer = none ∧
      (endSession cause coach s).link.faultReq = none ∧ (endSession cause coach s).link.pass = none ∧
      (endSession cause coach s).link.passOwed = false ∧ (endSession cause coach s).link.tag = s.link.tag ∧
      (endSession cause coach s).meter.overdrawRun = 0 := by
  simp [endSession, Link.discardPass]

/-- A session opens and nothing else moves but the lead, the pass owed, and the finding and notice of it. -/
@[simp] theorem openSession_keeps (id : Identity) (s : State) :
    KeepsCore s (openSession id s) ∧ (openSession id s).bay = { s.bay with session := .opened id } ∧
      (openSession id s).lamps = s.lamps ∧ (openSession id s).line = s.line ∧ (openSession id s).heat = s.heat ∧
      (openSession id s).meter = s.meter ∧ (openSession id s).dep = s.dep ∧
      SourcesOnly s.notices (openSession id s).notices ∧ RecordsOnly s.faults (openSession id s).faults ∧
      (openSession id s).lead.probe = s.lead.probe ∧ (openSession id s).lead.probeTimer = s.lead.probeTimer ∧
      (openSession id s).link = { s.link with passOwed := true, passTimer := some (s.now + 600000) } := by
  unfold openSession; dsimp only; split <;> simp [Config.passPeriod]

@[simp] theorem putIdentity_keeps (id : Identity) (s : State) :
    KeepsCore s (putIdentity id s) ∧ (putIdentity id s).bay = { s.bay with session := .opened id } ∧
      SourcesOnly s.notices (putIdentity id s).notices ∧ ClaimsOnly s.line (putIdentity id s).line ∧
      (putIdentity id s).line.airSlot = s.line.airSlot ∧ (putIdentity id s).lead.probe = s.lead.probe ∧
      (putIdentity id s).lead.probeTimer = s.lead.probeTimer ∧ (putIdentity id s).link.state = s.link.state ∧
      (putIdentity id s).link.failureRun = s.link.failureRun ∧ (putIdentity id s).link.identifyReq = s.link.identifyReq ∧
      (putIdentity id s).link.tag = s.link.tag ∧ (putIdentity id s).faults.retention = s.faults.retention ∧
      (putIdentity id s).faults.nextPass = s.faults.nextPass := by
  unfold putIdentity
  split
  · simp
  · split
    · next h e => simp [← e, ← h]
    · simp [Faults.endSession]
  · simp [Faults.endSession]

@[simp] theorem departSession_keeps (id : Identity) (s : State) :
    KeepsCore s (departSession id s) ∧ (departSession id s).bay = { s.bay with session := .departing id } ∧
      (departSession id s).link = s.link ∧ (departSession id s).faults = s.faults ∧ (departSession id s).lamps = s.lamps ∧
      (departSession id s).line = s.line ∧ (departSession id s).heat = s.heat ∧ (departSession id s).meter = s.meter ∧
      (departSession id s).dep = s.dep ∧ (departSession id s).notices = s.notices ∧
      (departSession id s).lead.probe = s.lead.probe ∧ (departSession id s).lead.probeTimer = s.lead.probeTimer := by
  simp [departSession]

/-- What entry to EMPTY does to the bay's session (R7). -/
def emptiedSession (s : State) : Session :=
  match s.dep.state, s.bay.session with
  | .holding, .opened id => .departing id
  | .holding, x => x
  | _, .opened _ => .none
  | _, x => x

@[simp] theorem enterEmpty_keeps (s : State) :
    KeepsCore s (enterEmpty s) ∧
      (enterEmpty s).bay = { s.bay with occupancy := .empty, implied := false, session := emptiedSession s } ∧
      SourcesOnly s.notices (enterEmpty s).notices ∧ ClaimsOnly s.line (enterEmpty s).line ∧
      (enterEmpty s).line.airSlot = s.line.airSlot ∧ (enterEmpty s).lead.probe = s.lead.probe ∧
      (enterEmpty s).lead.probeTimer = s.lead.probeTimer ∧ (enterEmpty s).link.state = s.link.state ∧
      (enterEmpty s).link.failureRun = s.link.failureRun ∧ (enterEmpty s).link.identifyReq = s.link.identifyReq ∧
      (enterEmpty s).link.tag = s.link.tag ∧ (enterEmpty s).faults.retention = s.faults.retention := by
  unfold enterEmpty emptiedSession
  dsimp only
  split
  · simp_all
  · simp_all
  · simp_all
  · simp_all [Faults.endSession]
  · cases hs : s.bay.session <;> cases hd : s.dep.state <;> simp_all

@[simp] theorem identifySucceeded_keeps (id : Identity) (s : State) :
    KeepsCore s (identifySucceeded id s) ∧ SourcesOnly s.notices (identifySucceeded id s).notices ∧
      ClaimsOnly s.line (identifySucceeded id s).line ∧ (identifySucceeded id s).line.airSlot = s.line.airSlot ∧
      (identifySucceeded id s).lead.probe = s.lead.probe ∧ (identifySucceeded id s).lead.probeTimer = s.lead.probeTimer ∧
      (identifySucceeded id s).link.state = s.link.state ∧ (identifySucceeded id s).link.failureRun = s.link.failureRun ∧
      (identifySucceeded id s).link.identifyReq = s.link.identifyReq ∧ (identifySucceeded id s).link.tag = s.link.tag ∧
      (identifySucceeded id s).faults.retention = s.faults.retention ∧
      (identifySucceeded id s).bay.presence = s.bay.presence ∧ (identifySucceeded id s).bay.plug = s.bay.plug ∧
      (identifySucceeded id s).bay.key = s.bay.key ∧ (identifySucceeded id s).bay.implied = s.bay.implied ∧
      (identifySucceeded id s).bay.startInterval = s.bay.startInterval ∧
      (identifySucceeded id s).bay.aspect = s.bay.aspect := by
  unfold identifySucceeded; split <;> simp

/-- A departing session ends with the transit over (R14). -/
@[simp] theorem transitOver_keeps (s : State) :
    KeepsCore s (transitOver s) ∧ SourcesOnly s.notices (transitOver s).notices ∧ ClaimsOnly s.line (transitOver s).line ∧
      (transitOver s).line.airSlot = s.line.airSlot ∧ (transitOver s).lead.probe = s.lead.probe ∧
      (transitOver s).lead.probeTimer = s.lead.probeTimer ∧ (transitOver s).link.state = s.link.state ∧
      (transitOver s).link.failureRun = s.link.failureRun ∧ (transitOver s).link.identifyReq = s.link.identifyReq ∧
      (transitOver s).link.tag = s.link.tag ∧ (transitOver s).faults.retention = s.faults.retention ∧
      (transitOver s).bay.occupancy = s.bay.occupancy ∧ (transitOver s).bay.presence = s.bay.presence ∧
      (transitOver s).bay.plug = s.bay.plug ∧ (transitOver s).bay.key = s.bay.key ∧
      (transitOver s).bay.implied = s.bay.implied ∧ (transitOver s).bay.startInterval = s.bay.startInterval ∧
      (transitOver s).bay.reidentify = s.bay.reidentify ∧ (transitOver s).bay.aspect = s.bay.aspect := by
  unfold transitOver; dsimp only; split <;> simp [Faults.endSession]

/-! ### The bay's moves -/

@[simp] theorem bayPlugIn_keeps (s : State) :
    KeepsCore s (bayPlugIn s) ∧ (bayPlugIn s).faults = s.faults ∧ (bayPlugIn s).lamps = s.lamps ∧
      (bayPlugIn s).line = s.line ∧ (bayPlugIn s).peers = s.peers ∧ (bayPlugIn s).lead = s.lead ∧
      (bayPlugIn s).heat = s.heat ∧ (bayPlugIn s).meter = s.meter ∧ (bayPlugIn s).dep = s.dep ∧
      (bayPlugIn s).notices = s.notices ∧ (bayPlugIn s).link.state = s.link.state ∧
      (bayPlugIn s).link.failureRun = s.link.failureRun ∧ (bayPlugIn s).link.cache = s.link.cache ∧
      (bayPlugIn s).link.passTimer = s.link.passTimer ∧ (bayPlugIn s).link.busy = s.link.busy ∧
      (bayPlugIn s).link.lampReq = s.link.lampReq ∧ (bayPlugIn s).link.tempReq = s.link.tempReq ∧
      (bayPlugIn s).link.faultReq = s.link.faultReq ∧ (bayPlugIn s).link.tag = s.link.tag ∧
      (bayPlugIn s).link.pollTimer = s.link.pollTimer ∧ (bayPlugIn s).link.pass = s.link.pass ∧
      (bayPlugIn s).link.passOwed = s.link.passOwed ∧ (bayPlugIn s).bay.session = s.bay.session ∧
      (bayPlugIn s).bay.presence = s.bay.presence ∧ (bayPlugIn s).bay.plug = s.bay.plug ∧
      (bayPlugIn s).bay.key = s.bay.key ∧ (bayPlugIn s).bay.startInterval = s.bay.startInterval ∧
      (bayPlugIn s).bay.aspect = s.bay.aspect := by
  unfold bayPlugIn; split <;> simp

@[simp] theorem loopOccupied_keeps (s : State) :
    KeepsCore s (loopOccupied s) ∧ (loopOccupied s).link = s.link ∧ (loopOccupied s).faults = s.faults ∧
      (loopOccupied s).lamps = s.lamps ∧ (loopOccupied s).line = s.line ∧ (loopOccupied s).peers = s.peers ∧
      (loopOccupied s).lead = s.lead ∧ (loopOccupied s).heat = s.heat ∧ (loopOccupied s).meter = s.meter ∧
      (loopOccupied s).dep = s.dep ∧ (loopOccupied s).notices = s.notices ∧
      (loopOccupied s).bay.session = s.bay.session ∧ (loopOccupied s).bay.presence = s.bay.presence ∧
      (loopOccupied s).bay.plug = s.bay.plug ∧ (loopOccupied s).bay.key = s.bay.key ∧
      (loopOccupied s).bay.startInterval = s.bay.startInterval ∧ (loopOccupied s).bay.reidentify = s.bay.reidentify ∧
      (loopOccupied s).bay.aspect = s.bay.aspect := by
  unfold loopOccupied; split <;> simp

@[simp] theorem loopClear_keeps (s : State) :
    KeepsCore s (loopClear s) ∧ SourcesOnly s.notices (loopClear s).notices ∧ ClaimsOnly s.line (loopClear s).line ∧
      (loopClear s).line.airSlot = s.line.airSlot ∧ (loopClear s).lead.probe = s.lead.probe ∧
      (loopClear s).lead.probeTimer = s.lead.probeTimer ∧ (loopClear s).link.state = s.link.state ∧
      (loopClear s).link.failureRun = s.link.failureRun ∧ (loopClear s).link.identifyReq = s.link.identifyReq ∧
      (loopClear s).link.tag = s.link.tag ∧ (loopClear s).faults.retention = s.faults.retention ∧
      (loopClear s).bay.presence = s.bay.presence ∧ (loopClear s).bay.plug = s.bay.plug ∧
      (loopClear s).bay.key = s.bay.key ∧ (loopClear s).bay.startInterval = s.bay.startInterval ∧
      (loopClear s).bay.reidentify = s.bay.reidentify ∧ (loopClear s).bay.aspect = s.bay.aspect := by
  unfold loopClear; split <;> simp

@[simp] theorem bayPlugOut_keeps (s : State) :
    KeepsCore s (bayPlugOut s) ∧ SourcesOnly s.notices (bayPlugOut s).notices ∧ ClaimsOnly s.line (bayPlugOut s).line ∧
      (bayPlugOut s).line.airSlot = s.line.airSlot ∧ (bayPlugOut s).lead.probe = s.lead.probe ∧
      (bayPlugOut s).lead.probeTimer = s.lead.probeTimer ∧ (bayPlugOut s).link.state = s.link.state ∧
      (bayPlugOut s).link.failureRun = s.link.failureRun ∧ (bayPlugOut s).link.tag = s.link.tag ∧
      (bayPlugOut s).faults.retention = s.faults.retention ∧
      (bayPlugOut s).bay.presence = s.bay.presence ∧ (bayPlugOut s).bay.plug = s.bay.plug ∧
      (bayPlugOut s).bay.key = s.bay.key ∧ (bayPlugOut s).bay.startInterval = s.bay.startInterval ∧
      (bayPlugOut s).bay.aspect = s.bay.aspect := by
  unfold bayPlugOut
  split
  · simp
  · simp
  all_goals dsimp only; split <;> simp

@[simp] theorem linkPlugOut_keeps (s : State) :
    KeepsCore s (linkPlugOut s) ∧ (linkPlugOut s).bay = s.bay ∧ (linkPlugOut s).line = s.line ∧
      (linkPlugOut s).meter = s.meter ∧ (linkPlugOut s).dep = s.dep ∧ (linkPlugOut s).notices = s.notices ∧
      (linkPlugOut s).lead.probe = s.lead.probe ∧ (linkPlugOut s).lead.probeTimer = s.lead.probeTimer ∧
      (linkPlugOut s).faults.records = s.faults.records ∧ (linkPlugOut s).faults.blockingLost = s.faults.blockingLost ∧
      (linkPlugOut s).faults.figure = s.faults.figure ∧ (linkPlugOut s).link.state = .unplugged ∧
      (linkPlugOut s).link.passTimer = s.link.passTimer ∧ (linkPlugOut s).link.tag = s.link.tag := by
  unfold linkPlugOut; split
  · next h => simp [h]
  · simp

/-! ### Failures and entries -/

@[simp] theorem declareLost_keeps (s : State) :
    KeepsCore s (declareLost s) ∧ (declareLost s).line = s.line ∧ (declareLost s).meter = s.meter ∧
      (declareLost s).dep = s.dep ∧ SourcesOnly s.notices (declareLost s).notices ∧
      (declareLost s).lead.probe = s.lead.probe ∧ (declareLost s).lead.probeTimer = s.lead.probeTimer ∧
      (declareLost s).faults.figure = s.faults.figure ∧ (declareLost s).link.state = .lost ∧
      (declareLost s).link.failureRun = 0 ∧ (declareLost s).link.passTimer = s.link.passTimer ∧
      (declareLost s).link.tag = s.link.tag ∧ (declareLost s).link.identifyReq = s.link.identifyReq ∧
      (declareLost s).link.pass = none ∧
      (declareLost s).bay.session = s.bay.session ∧ (declareLost s).bay.presence = s.bay.presence ∧
      (declareLost s).bay.plug = s.bay.plug ∧ (declareLost s).bay.key = s.bay.key ∧
      (declareLost s).bay.implied = s.bay.implied ∧ (declareLost s).bay.startInterval = s.bay.startInterval ∧
      (declareLost s).bay.aspect = s.bay.aspect := by
  simp [declareLost]

@[simp] theorem countFailure_keeps (s : State) :
    KeepsCore s (countFailure s) ∧ (countFailure s).line = s.line ∧ (countFailure s).meter = s.meter ∧
      (countFailure s).dep = s.dep ∧ SourcesOnly s.notices (countFailure s).notices ∧
      (countFailure s).lead.probe = s.lead.probe ∧ (countFailure s).lead.probeTimer = s.lead.probeTimer ∧
      (countFailure s).faults.figure = s.faults.figure ∧ (countFailure s).link.passTimer = s.link.passTimer ∧
      (countFailure s).link.tag = s.link.tag ∧ (countFailure s).link.identifyReq = s.link.identifyReq ∧
      (countFailure s).bay.session = s.bay.session ∧ (countFailure s).bay.presence = s.bay.presence ∧
      (countFailure s).bay.plug = s.bay.plug ∧ (countFailure s).bay.key = s.bay.key ∧
      (countFailure s).bay.implied = s.bay.implied ∧ (countFailure s).bay.startInterval = s.bay.startInterval ∧
      (countFailure s).bay.aspect = s.bay.aspect := by
  unfold countFailure; split
  · simp
  · split <;> simp

@[simp] theorem handFailure_keeps (x : Transaction) (s : State) :
    KeepsCore s (handFailure x s) ∧ (handFailure x s).line = s.line ∧ (handFailure x s).meter = s.meter ∧
      (handFailure x s).dep = s.dep ∧ SourcesOnly s.notices (handFailure x s).notices ∧ (handFailure x s).lead = s.lead ∧
      (handFailure x s).peers = s.peers ∧ (handFailure x s).heat = s.heat ∧ RecordsOnly s.faults (handFailure x s).faults ∧
      (handFailure x s).link.state = s.link.state ∧ (handFailure x s).link.failureRun = s.link.failureRun ∧
      (handFailure x s).link.cache = s.link.cache ∧ (handFailure x s).link.passTimer = s.link.passTimer ∧
      (handFailure x s).link.tag = s.link.tag ∧ (handFailure x s).link.tempReq = s.link.tempReq ∧
      (handFailure x s).link.pollTimer = s.link.pollTimer ∧ (handFailure x s).link.pass = s.link.pass ∧
      (handFailure x s).link.passOwed = s.link.passOwed ∧
      (handFailure x s).bay.session = s.bay.session ∧ (handFailure x s).bay.occupancy = s.bay.occupancy ∧
      (handFailure x s).bay.presence = s.bay.presence ∧ (handFailure x s).bay.plug = s.bay.plug ∧
      (handFailure x s).bay.key = s.bay.key ∧ (handFailure x s).bay.implied = s.bay.implied ∧
      (handFailure x s).bay.startInterval = s.bay.startInterval ∧ (handFailure x s).bay.aspect = s.bay.aspect := by
  unfold handFailure; split
  · simp
  · simp
  · simp
  · split
    · split <;> simp
    · simp

@[simp] theorem transactionFails_keeps (x : Transaction) (s : State) :
    KeepsCore s (transactionFails x s) ∧ (transactionFails x s).line = s.line ∧
      (transactionFails x s).meter = s.meter ∧ (transactionFails x s).dep = s.dep ∧
      SourcesOnly s.notices (transactionFails x s).notices ∧ (transactionFails x s).lead.probe = s.lead.probe ∧
      (transactionFails x s).lead.probeTimer = s.lead.probeTimer ∧
      (transactionFails x s).faults.figure = s.faults.figure ∧
      (transactionFails x s).link.passTimer = s.link.passTimer ∧ (transactionFails x s).link.tag = s.link.tag ∧
      (transactionFails x s).bay.session = s.bay.session ∧ (transactionFails x s).bay.presence = s.bay.presence ∧
      (transactionFails x s).bay.plug = s.bay.plug ∧ (transactionFails x s).bay.key = s.bay.key ∧
      (transactionFails x s).bay.implied = s.bay.implied ∧
      (transactionFails x s).bay.startInterval = s.bay.startInterval ∧
      (transactionFails x s).bay.aspect = s.bay.aspect := by
  simp [transactionFails]

@[simp] theorem takeEntry_keeps (module code : Nat) (severity : Severity) (count next : Nat) (s : State) :
    KeepsCore s (takeEntry module code severity count next s) ∧
      (takeEntry module code severity count next s).bay = s.bay ∧
      (takeEntry module code severity count next s).lamps = s.lamps ∧
      (takeEntry module code severity count next s).line = s.line ∧
      (takeEntry module code severity count next s).peers = s.peers ∧
      (takeEntry module code severity count next s).lead = s.lead ∧
      (takeEntry module code severity count next s).heat = s.heat ∧
      (takeEntry module code severity count next s).meter = s.meter ∧
      (takeEntry module code severity count next s).dep = s.dep ∧
      SourcesOnly s.notices (takeEntry module code severity count next s).notices ∧
      LinkStands s.link (takeEntry module code severity count next s).link ∧
      (takeEntry module code severity count next s).link.lampReq = s.link.lampReq ∧
      (takeEntry module code severity count next s).link.tempReq = s.link.tempReq ∧
      (takeEntry module code severity count next s).link.tag = s.link.tag ∧
      (takeEntry module code severity count next s).link.pollTimer = s.link.pollTimer := by
  unfold takeEntry; split
  · simp
  · dsimp only; split <;> simp

@[simp] theorem completePass_keeps (s : State) :
    KeepsCore s (completePass s) ∧ (completePass s).bay = s.bay ∧ (completePass s).lamps = s.lamps ∧
      (completePass s).line = s.line ∧ (completePass s).peers = s.peers ∧ (completePass s).lead = s.lead ∧
      (completePass s).heat = s.heat ∧ (completePass s).meter = s.meter ∧ (completePass s).dep = s.dep ∧
      (completePass s).notices = s.notices ∧ (completePass s).link = { s.link with pass := none } ∧
      (completePass s).faults = s.faults.completePass := by
  simp [completePass]

/-! ### Metering, sampling, rounds and bring-up -/

@[simp] theorem heaterOverdrawn_keeps (metered : Nat) (s : State) :
    KeepsCore s (heaterOverdrawn metered s) ∧ (heaterOverdrawn metered s).bay = s.bay ∧
      (heaterOverdrawn metered s).lamps = s.lamps ∧ (heaterOverdrawn metered s).peers = s.peers ∧
      (heaterOverdrawn metered s).lead = s.lead ∧ (heaterOverdrawn metered s).dep = s.dep ∧
      SourcesOnly s.notices (heaterOverdrawn metered s).notices ∧
      RecordsOnly s.faults (heaterOverdrawn metered s).faults ∧ PollOnly s.link (heaterOverdrawn metered s).link ∧
      ClaimsOnly s.line (heaterOverdrawn metered s).line ∧
      (heaterOverdrawn metered s).line.departSlot = s.line.departSlot ∧
      (heaterOverdrawn metered s).line.airSlot = s.line.airSlot ∧ (heaterOverdrawn metered s).meter.overdrawRun = 0 := by
  simp [heaterOverdrawn]

@[simp] theorem applyVerdict_keeps (v : MeterVerdict) (metered : Nat) (s : State) :
    KeepsCore s (applyVerdict v metered s) ∧ (applyVerdict v metered s).bay = s.bay ∧
      (applyVerdict v metered s).lamps = s.lamps ∧ (applyVerdict v metered s).peers = s.peers ∧
      (applyVerdict v metered s).lead = s.lead ∧ (applyVerdict v metered s).dep = s.dep ∧
      SourcesOnly s.notices (applyVerdict v metered s).notices ∧
      RecordsOnly s.faults (applyVerdict v metered s).faults ∧ PollOnly s.link (applyVerdict v metered s).link ∧
      ClaimsOnly s.line (applyVerdict v metered s).line ∧
      (applyVerdict v metered s).line.departSlot = s.line.departSlot ∧
      (applyVerdict v metered s).line.airSlot = s.line.airSlot := by
  unfold applyVerdict; split
  · split <;> simp
  · dsimp only; split <;> simp
  all_goals simp

@[simp] theorem closeWindow_keeps (s : State) :
    KeepsCore s (closeWindow s) ∧ (closeWindow s).bay = s.bay ∧ (closeWindow s).lamps = s.lamps ∧
      (closeWindow s).peers = s.peers ∧ (closeWindow s).lead = s.lead ∧ (closeWindow s).dep = s.dep ∧
      SourcesOnly s.notices (closeWindow s).notices ∧ RecordsOnly s.faults (closeWindow s).faults ∧
      PollOnly s.link (closeWindow s).link ∧ ClaimsOnly s.line (closeWindow s).line ∧
      (closeWindow s).line.departSlot = s.line.departSlot ∧ (closeWindow s).line.airSlot = s.line.airSlot := by
  simp [closeWindow]

@[simp] theorem sampleProbe_keeps (v : Int) (s : State) :
    KeepsCore s (sampleProbe v s) ∧ (sampleProbe v s).bay = s.bay ∧ (sampleProbe v s).link = s.link ∧
      (sampleProbe v s).faults = s.faults ∧ (sampleProbe v s).lamps = s.lamps ∧ (sampleProbe v s).heat = s.heat ∧
      (sampleProbe v s).meter = s.meter ∧ (sampleProbe v s).dep = s.dep ∧ (sampleProbe v s).notices = s.notices ∧
      ClaimsOnly s.line (sampleProbe v s).line ∧ (sampleProbe v s).line.departSlot = s.line.departSlot ∧
      (sampleProbe v s).line.heatSlot = s.line.heatSlot := by
  simp [sampleProbe]

@[simp] theorem takeRound_keeps (s : State) :
    KeepsCore s (takeRound s) ∧ (takeRound s).bay = s.bay ∧ (takeRound s).faults = s.faults ∧
      (takeRound s).lamps = s.lamps ∧ (takeRound s).dep = s.dep ∧ (takeRound s).notices = s.notices ∧
      PollOnly s.link (takeRound s).link ∧ ClaimsOnly s.line (takeRound s).line ∧
      (takeRound s).line.departSlot = s.line.departSlot ∧ (takeRound s).line.airSlot = s.line.airSlot ∧
      (takeRound s).lead.probe = s.lead.probe ∧ (takeRound s).lead.probeTimer = s.lead.probeTimer ∧
      (takeRound s).meter.overdrawRun = s.meter.overdrawRun := by
  simp [takeRound]

@[simp] theorem claimPeriodEffect_keeps (s : State) :
    KeepsCore s (claimPeriodEffect s) ∧ (claimPeriodEffect s).bay = s.bay ∧ (claimPeriodEffect s).faults = s.faults ∧
      (claimPeriodEffect s).lamps = s.lamps ∧ (claimPeriodEffect s).dep = s.dep ∧
      (claimPeriodEffect s).notices = s.notices ∧ PollOnly s.link (claimPeriodEffect s).link ∧
      ClaimsOnly s.line (claimPeriodEffect s).line ∧ (claimPeriodEffect s).line.airSlot = s.line.airSlot ∧
      (claimPeriodEffect s).lead.probe = s.lead.probe ∧ (claimPeriodEffect s).lead.probeTimer = s.lead.probeTimer ∧
      (claimPeriodEffect s).meter.overdrawRun = s.meter.overdrawRun := by
  simp [claimPeriodEffect]

@[simp] theorem startMonitor_keeps (s : State) :
    (startMonitor s).pending = s.pending ∧ (startMonitor s).now = s.now ∧ (startMonitor s).start = s.start ∧
      (startMonitor s).bay = s.bay ∧ (startMonitor s).link = s.link ∧ (startMonitor s).faults = s.faults ∧
      (startMonitor s).lamps = s.lamps ∧ (startMonitor s).line = s.line ∧ (startMonitor s).peers = s.peers ∧
      (startMonitor s).lead = s.lead ∧ (startMonitor s).heat = s.heat ∧ (startMonitor s).meter = s.meter ∧
      (startMonitor s).dep = s.dep ∧ (startMonitor s).notices = s.notices ∧
      (startMonitor s).supply.sag = s.supply.sag ∧ (startMonitor s).supply.detected = s.supply.detected := by
  simp [startMonitor]

@[simp] theorem startConfigured_keeps (probe : Int) (s : State) :
    KeepsCore s (startConfigured probe s) ∧ (startConfigured probe s).bay = s.bay ∧
      (startConfigured probe s).link = s.link ∧ (startConfigured probe s).faults = s.faults ∧
      (startConfigured probe s).lamps = s.lamps ∧ (startConfigured probe s).dep = s.dep ∧
      (startConfigured probe s).notices = s.notices ∧ ClaimsOnly s.line (startConfigured probe s).line ∧
      (startConfigured probe s).line.departSlot = s.line.departSlot ∧
      (startConfigured probe s).line.heatSlot = s.line.heatSlot ∧
      (startConfigured probe s).heat = { s.heat with claimTimer := some (s.now + Config.claimPeriod) } := by
  unfold startConfigured; dsimp only; split <;> simp

@[simp] theorem bringUpEffect_keeps (img : Image) (passes : Bool) (probe : Int) (s : State) :
    (bringUpEffect img passes probe s).pending = s.pending ∧ (bringUpEffect img passes probe s).now = s.now ∧
      (bringUpEffect img passes probe s).bay = s.bay ∧ (bringUpEffect img passes probe s).link = s.link ∧
      (bringUpEffect img passes probe s).lamps = s.lamps ∧ (bringUpEffect img passes probe s).dep = s.dep ∧
      (bringUpEffect img passes probe s).faults =
        { s.faults with retention := if passes then img.retention else .newest } ∧
      (bringUpEffect img passes probe s).notices = { s.notices.loadMasks img.masks with order := img.order } ∧
      (bringUpEffect img passes probe s).start =
        { phase := if passes then .configured else .unconfigured, unconfigured := !passes, readTimer := none, image := img } ∧
      ClaimsOnly s.line (bringUpEffect img passes probe s).line ∧
      (bringUpEffect img passes probe s).line.departSlot = s.line.departSlot ∧
      (bringUpEffect img passes probe s).line.heatSlot = s.line.heatSlot ∧
      (bringUpEffect img passes probe s).supply.sag = s.supply.sag ∧
      (bringUpEffect img passes probe s).supply.detected = s.supply.detected := by
  unfold bringUpEffect; dsimp only; split <;> simp

@[simp] theorem startIntervalEffect_keeps (s : State) :
    KeepsCore s (startIntervalEffect s) ∧ (startIntervalEffect s).faults = s.faults ∧
      (startIntervalEffect s).lamps = s.lamps ∧ (startIntervalEffect s).line = s.line ∧
      (startIntervalEffect s).peers = s.peers ∧ (startIntervalEffect s).lead = s.lead ∧
      (startIntervalEffect s).heat = s.heat ∧ (startIntervalEffect s).meter = s.meter ∧
      (startIntervalEffect s).dep = s.dep ∧ (startIntervalEffect s).notices = s.notices ∧
      (startIntervalEffect s).link.state = s.link.state ∧ (startIntervalEffect s).link.failureRun = s.link.failureRun ∧
      (startIntervalEffect s).link.cache = s.link.cache ∧ (startIntervalEffect s).link.passTimer = s.link.passTimer ∧
      (startIntervalEffect s).link.busy = s.link.busy ∧ (startIntervalEffect s).link.lampReq = s.link.lampReq ∧
      (startIntervalEffect s).link.tempReq = s.link.tempReq ∧ (startIntervalEffect s).link.faultReq = s.link.faultReq ∧
      (startIntervalEffect s).link.tag = s.link.tag ∧ (startIntervalEffect s).link.pollTimer = s.link.pollTimer ∧
      (startIntervalEffect s).link.pass = s.link.pass ∧ (startIntervalEffect s).link.passOwed = s.link.passOwed ∧
      (startIntervalEffect s).bay.session = s.bay.session ∧ (startIntervalEffect s).bay.presence = s.bay.presence ∧
      (startIntervalEffect s).bay.plug = s.bay.plug ∧ (startIntervalEffect s).bay.key = s.bay.key ∧
      (startIntervalEffect s).bay.startInterval = none ∧ (startIntervalEffect s).bay.aspect = s.bay.aspect := by
  unfold startIntervalEffect; dsimp only; split <;> simp

/-- The supply monitor moves and nothing else. -/
@[simp] abbrev SupplyOnly (a b : State) : Prop :=
  b.pending = a.pending ∧ b.now = a.now ∧ b.start = a.start ∧ b.bay = a.bay ∧ b.link = a.link ∧ b.faults = a.faults ∧
  b.lamps = a.lamps ∧ b.line = a.line ∧ b.peers = a.peers ∧ b.lead = a.lead ∧ b.heat = a.heat ∧ b.meter = a.meter ∧
  b.dep = a.dep ∧ b.notices = a.notices ∧ b.supply.sag = a.supply.sag ∧ b.supply.detected = a.supply.detected ∧
  b.supply.level = a.supply.level

@[simp] theorem watchRecovery_keeps (level : Nat) (s : State) :
    SupplyOnly s (watchRecovery level s) ∧ (watchRecovery level s).supply.dip = s.supply.dip := by
  simp [watchRecovery]

@[simp] theorem watchDip_keeps (level : Nat) (s : State) :
    SupplyOnly s (watchDip level s) ∧ (watchDip level s).supply.lowest = s.supply.lowest ∧
      (watchDip level s).supply.recovery = s.supply.recovery := by
  simp [watchDip]

@[simp] theorem acceptKey_keeps (level : Bool) (s : State) :
    KeepsCore s (acceptKey level s) ∧ (acceptKey level s).bay = { s.bay with key := s.bay.key.accept level } ∧
      (acceptKey level s).link = s.link ∧ (acceptKey level s).faults = s.faults ∧ (acceptKey level s).lamps = s.lamps ∧
      (acceptKey level s).line = s.line ∧ (acceptKey level s).peers = s.peers ∧ (acceptKey level s).lead = s.lead ∧
      (acceptKey level s).heat = s.heat ∧ (acceptKey level s).meter = s.meter ∧ (acceptKey level s).dep = s.dep ∧
      (acceptKey level s).notices = s.notices := by
  simp [acceptKey]

/-! ### The line's outcomes -/

/-- A frame is no longer on the wires: what it carried is given back or told of, and nothing else moves. -/
@[simp] theorem returnFrame_keeps (f : Flight) (s : State) :
    KeepsCore s (returnFrame f s) ∧ (returnFrame f s).bay = s.bay ∧ (returnFrame f s).link = s.link ∧
      (returnFrame f s).faults = s.faults ∧ (returnFrame f s).lamps = s.lamps ∧
      (returnFrame f s).line = { s.line with inFlight := none } ∧ (returnFrame f s).peers = s.peers ∧
      (returnFrame f s).lead = s.lead ∧ (returnFrame f s).heat = s.heat ∧ (returnFrame f s).meter = s.meter ∧
      (returnFrame f s).dep = s.dep := by
  unfold returnFrame; dsimp only; split
  · split <;> simp
  all_goals simp

@[simp] theorem countError_keeps (s : State) :
    KeepsCore s (countError s) ∧ (countError s).bay = s.bay ∧ (countError s).link = s.link ∧
      (countError s).faults = s.faults ∧ (countError s).lamps = s.lamps ∧ (countError s).peers = s.peers ∧
      (countError s).lead = s.lead ∧ (countError s).heat = s.heat ∧ (countError s).meter = s.meter ∧
      (countError s).dep = s.dep ∧ (countError s).notices = s.notices ∧
      (countError s).line.departSlot = s.line.departSlot ∧ (countError s).line.heatSlot = s.line.heatSlot ∧
      (countError s).line.airSlot = s.line.airSlot ∧ (countError s).line.inFlight = s.line.inFlight ∧
      (countError s).line.conflict = s.line.conflict ∧ (countError s).line.conflictTimer = s.line.conflictTimer ∧
      (countError s).line.receiptMark = s.line.receiptMark := by
  unfold countError; split <;> simp

@[simp] theorem departFinished_keeps (state : ClaimState) (countdown : Int) (s : State) :
    DepOnly s (departFinished state countdown s) ∧ (departFinished state countdown s).line = s.line := by
  unfold departFinished; split <;> simp

@[simp] theorem finishFrame_keeps (f : Flight) (s : State) :
    KeepsCore s (finishFrame f s) ∧ (finishFrame f s).bay = s.bay ∧ (finishFrame f s).link = s.link ∧
      (finishFrame f s).faults = s.faults ∧ (finishFrame f s).lamps = s.lamps ∧ (finishFrame f s).peers = s.peers ∧
      (finishFrame f s).lead = s.lead ∧ (finishFrame f s).meter = s.meter ∧
      (finishFrame f s).line.errorRun = 0 ∧ (finishFrame f s).line.inFlight = none ∧
      (finishFrame f s).line.quietTimer = s.line.quietTimer ∧
      (finishFrame f s).line.status = (if s.line.status = .probing then .normal else s.line.status) ∧
      (finishFrame f s).line.conflict = s.line.conflict ∧
      (finishFrame f s).line.conflictTimer = s.line.conflictTimer ∧
      (finishFrame f s).line.receiptMark = s.line.receiptMark := by
  unfold finishFrame frameGone; split
  case h_4 => split <;> simp
  all_goals simp

@[simp] theorem requestReport_keeps (k : ReportKind) (s : State) :
    KeepsCore s (requestReport k s) ∧ (requestReport k s).bay = s.bay ∧ (requestReport k s).link = s.link ∧
      (requestReport k s).faults = s.faults ∧ (requestReport k s).lamps = s.lamps ∧ (requestReport k s).line = s.line ∧
      (requestReport k s).peers = s.peers ∧ (requestReport k s).lead = s.lead ∧ (requestReport k s).heat = s.heat ∧
      (requestReport k s).meter = s.meter ∧ (requestReport k s).dep = s.dep ∧
      (requestReport k s).notices.sources = s.notices.sources := by
  unfold requestReport; split
  · split <;> simp
  · simp

/-- A frame begins at most, with what it tells taken by it or its stream ended. -/
@[simp] theorem transmitChoice_keeps (s : State) :
    KeepsCore s (transmitChoice s) ∧ (transmitChoice s).bay = s.bay ∧ (transmitChoice s).link = s.link ∧
      (transmitChoice s).faults = s.faults ∧ (transmitChoice s).lamps = s.lamps ∧ (transmitChoice s).peers = s.peers ∧
      (transmitChoice s).lead = s.lead ∧ (transmitChoice s).heat = s.heat ∧ (transmitChoice s).meter = s.meter ∧
      (transmitChoice s).dep = s.dep ∧ ClaimsOnly s.line (transmitChoice s).line ∧
      (transmitChoice s).line.departSlot = s.line.departSlot ∧ (transmitChoice s).line.heatSlot = s.line.heatSlot ∧
      (transmitChoice s).line.airSlot = s.line.airSlot := by
  unfold transmitChoice
  split
  · simp [beginFrame]
  split
  · simp [beginFrame]
  split
  · simp [beginFrame]
  split
  · unfold beginNotice; dsimp only; split <;> simp [beginFrame]
  · unfold beginReport; split
    · simp
    · split <;> simp [beginFrame]

@[simp] theorem setPeer_keeps (n : Nat) (f : PeerEntry → PeerEntry) (s : State) :
    KeepsCore s (setPeer n f s) ∧ (setPeer n f s).bay = s.bay ∧ (setPeer n f s).link = s.link ∧
      (setPeer n f s).faults = s.faults ∧ (setPeer n f s).lamps = s.lamps ∧ (setPeer n f s).line = s.line ∧
      (setPeer n f s).lead = s.lead ∧ (setPeer n f s).heat = s.heat ∧ (setPeer n f s).meter = s.meter ∧
      (setPeer n f s).dep = s.dep ∧ (setPeer n f s).notices = s.notices ∧
      (setPeer n f s).peers = { s.peers with entries := changeEntry n f s.peers.entries } := by
  simp [setPeer]

@[simp] theorem hearDepart_keeps (n : Nat) (part : DepartPart) (s : State) :
    KeepsCore s (hearDepart n part s) ∧ (hearDepart n part s).bay = s.bay ∧ (hearDepart n part s).link = s.link ∧
      (hearDepart n part s).faults = s.faults ∧ (hearDepart n part s).lamps = s.lamps ∧
      (hearDepart n part s).lead = s.lead ∧ (hearDepart n part s).heat = s.heat ∧
      (hearDepart n part s).meter = s.meter ∧ (hearDepart n part s).notices = s.notices ∧
      (hearDepart n part s).peers =
        { s.peers with entries := changeEntry n (fun e => { e with depart := some part }) s.peers.entries } ∧
      ClaimsOnly s.line (hearDepart n part s).line ∧ (hearDepart n part s).line.heatSlot = s.line.heatSlot ∧
      (hearDepart n part s).line.airSlot = s.line.airSlot := by
  unfold hearDepart; dsimp only; split <;> simp

end Sys2Proof.Machine
end

section
/-! SUPPORT. The fault list stays within its places and without two records of one identity (R41): each operation on the list, each
operation that files a finding, and every step. -/

namespace Sys2Proof.Machine

open Sys2Proof

/-! ### The operations on the list -/

theorem FaultRecord.matchesOffer_eq (r : FaultRecord) (o : Offer) (pass : Option Nat) (sec : Nat) :
    r.matchesOffer o = r.sameIdentity (o.record pass sec) := rfl

/-- A change of records that keeps each one's identity keeps the list well. -/
theorem Faults.wellKept_map {f : Faults} {change : FaultRecord → FaultRecord} (h : f.wellKept)
    (same : ∀ a b : FaultRecord, (change a).sameIdentity (change b) = a.sameIdentity b) :
    (f.records.map change).length ≤ Config.listPlaces ∧
      (f.records.map change).Pairwise fun a b => a.sameIdentity b = false := by
  obtain ⟨hlen, hdist⟩ := h
  refine ⟨by simpa using hlen, List.pairwise_map.mpr (hdist.imp fun {a b} hab => by rwa [same])⟩

/-- A change of a record that leaves its identity. -/
theorem FaultRecord.sameIdentity_congr {a b c d : FaultRecord} (ho : a.origin = c.origin) (hm : a.module = c.module)
    (hc : a.code = c.code) (ho' : b.origin = d.origin) (hm' : b.module = d.module) (hc' : b.code = d.code) :
    a.sameIdentity b = c.sameIdentity d := by
  simp only [FaultRecord.sameIdentity, ho, hm, hc, ho', hm', hc']

/-- A newcomer that no record matches fits behind a list with a place left. -/
theorem Faults.wellKept_append {l : List FaultRecord} {r : FaultRecord} (hlen : l.length < Config.listPlaces)
    (hdist : l.Pairwise fun a b => a.sameIdentity b = false) (hnew : ∀ a ∈ l, a.sameIdentity r = false) :
    (l ++ [r]).length ≤ Config.listPlaces ∧ (l ++ [r]).Pairwise fun a b => a.sameIdentity b = false := by
  refine ⟨by simp; omega, List.pairwise_append.mpr ⟨hdist, List.pairwise_singleton _ _, fun a ha b hb => ?_⟩⟩
  rw [List.mem_singleton.mp hb]
  exact hnew a ha

theorem inactiveVictim_lt {l : List FaultRecord} {i : Nat} {v : FaultRecord} (h : inactiveVictim l = some (i, v)) :
    i < l.length := by
  induction l generalizing i v with
  | nil => cases h
  | cons r rest ih =>
    unfold inactiveVictim at h
    split at h
    · split at h
      · cases h
      · cases h; exact Nat.zero_lt_succ _
    · next j w hw =>
      split at h
      · cases h; exact Nat.zero_lt_succ _
      · cases h; exact Nat.succ_lt_succ (ih hw)

theorem Faults.take_wellKept {f : Faults} (h : f.wellKept) (o : Offer) (sec : Nat) : (f.take o sec).1.wellKept := by
  unfold Faults.take
  dsimp only
  split
  · refine Faults.wellKept_map h fun a b => FaultRecord.sameIdentity_congr ?_ ?_ ?_ ?_ ?_ ?_ <;> split <;> rfl
  next hnone =>
  have hnew : ∀ a ∈ f.records, a.sameIdentity (o.record (f.current.map (·.number)) sec) = false := fun a ha => by
    rw [← FaultRecord.matchesOffer_eq]
    simpa using fun hm => hnone (List.any_eq_true.mpr ⟨a, ha, hm⟩)
  obtain ⟨hlen, hdist⟩ := h
  split
  · next hroom => exact Faults.wellKept_append hroom hdist hnew
  next hfull =>
  split
  · next i v hv =>
    have hi := inactiveVictim_lt hv
    refine Faults.wellKept_append ?_ (hdist.sublist (List.eraseIdx_sublist _ _))
      fun a ha => hnew a ((List.eraseIdx_sublist _ _).subset ha)
    rw [List.length_eraseIdx_of_lt hi]
    omega
  · split
    · refine Faults.wellKept_append ?_ (hdist.sublist (List.tail_sublist _)) fun a ha => hnew a (List.mem_of_mem_tail ha)
      have : 0 < f.records.length := Nat.lt_of_lt_of_le (by decide) (Nat.not_lt.mp hfull)
      rw [List.length_tail]
      omega
    · exact ⟨hlen, hdist⟩

theorem Faults.beginPass_wellKept {f : Faults} (h : f.wellKept) : f.beginPass.wellKept := by
  refine Faults.wellKept_map h fun a b => FaultRecord.sameIdentity_congr ?_ ?_ ?_ ?_ ?_ ?_ <;> split <;> rfl

theorem Faults.inactivateLamps_wellKept {f : Faults} (h : f.wellKept) : f.inactivateLamps.wellKept := by
  refine Faults.wellKept_map h fun a b => FaultRecord.sameIdentity_congr ?_ ?_ ?_ ?_ ?_ ?_ <;> split <;> rfl

theorem Faults.completePass_wellKept {f : Faults} (h : f.wellKept) : f.completePass.wellKept := by
  unfold Faults.completePass
  split
  · refine Faults.wellKept_map h fun a b => FaultRecord.sameIdentity_congr ?_ ?_ ?_ ?_ ?_ ?_ <;> split <;> rfl
  · exact h

theorem Faults.endSession_wellKept (f : Faults) : f.endSession.wellKept := ⟨Nat.zero_le _, .nil⟩

/-! ### The operations that file a finding -/

/-- The fault list is well kept. -/
def State.listWell (s : State) : Prop := s.faults.wellKept

theorem State.listWell_congr {s v : State} (h : s.listWell) (e : v.faults.records = s.faults.records) : v.listWell := by
  unfold State.listWell Faults.wellKept at *; rwa [e]

theorem State.listWell.withLamps {s : State} (h : s.listWell) (l : Lamps) : State.listWell { s with lamps := l } := h

theorem State.listWell.offerFault {s : State} (h : s.listWell) (o : Offer) : (offerFault o s).listWell := by
  have k := Faults.take_wellKept h o s.uptime
  unfold Machine.offerFault
  dsimp only
  split
  · split
    · exact State.listWell_congr (s := { s with faults := (s.faults.take o s.uptime).1 }) k (by simp [loseBlocking])
    · exact k
  · exact h

theorem State.listWell.recordVerdict {s : State} (h : s.listWell) (n : Nat) (v : Verdict) (current : Nat) :
    (recordVerdict n v current s).listWell := by
  unfold Machine.recordVerdict
  dsimp only
  split
  · exact h
  · split
    · exact (h.withLamps _).offerFault _
    · exact h

theorem State.listWell.recordIncomplete (left : Nat) {s : State} (h : s.listWell) (n : Nat) :
    (recordIncomplete left n s).listWell := by
  induction left generalizing s n with
  | zero => exact h
  | succ left ih => exact ih (h.recordVerdict n .incomplete 0) (n + 1)

theorem State.listWell.endCheckIncomplete {s : State} (h : s.listWell) : (endCheckIncomplete s).listWell := by
  unfold Machine.endCheckIncomplete
  split
  · have k : (disownLampSets (stopStepTimers (openFeed s))).listWell := State.listWell_congr h (by simp)
    exact State.listWell.recordIncomplete _ (k.withLamps _) _
  · exact h

theorem State.listWell.raiseLampSet {s : State} (h : s.listWell) (channel : Nat) (on : Bool) :
    (raiseLampSet channel on s).listWell := by
  unfold Machine.raiseLampSet
  split
  · exact State.listWell_congr h (by simp)
  · split
    · exact h.endCheckIncomplete
    · exact State.listWell_congr h (by simp)

theorem State.listWell.enterFeedOn {s : State} (h : s.listWell) : (enterFeedOn s).listWell := by
  unfold Machine.enterFeedOn
  split
  · exact (h.withLamps _).raiseLampSet _ _
  · exact h

theorem State.listWell.enterSwitchOff {s : State} (h : s.listWell) : (enterSwitchOff s).listWell := by
  unfold Machine.enterSwitchOff
  split
  · exact (h.withLamps _).raiseLampSet _ _
  · exact h

theorem State.listWell.startStep {s : State} (h : s.listWell) : (startStep s).listWell := by
  unfold Machine.startStep
  split
  · exact h.enterSwitchOff
  · dsimp only
    split
    · exact (h.withLamps _).raiseLampSet _ _
    · exact (h.withLamps _).enterFeedOn

theorem State.listWell.beginStep {s : State} (h : s.listWell) : (beginStep s).listWell := by
  unfold Machine.beginStep
  split
  · exact h
  · exact h.startStep

theorem State.listWell.finishStep {s : State} (h : s.listWell) : (finishStep s).listWell := by
  unfold Machine.finishStep
  dsimp only
  have k : (clearMarks (Machine.recordVerdict (s.lamps.step.getD 1) (s.lamps.measured.getD (.incomplete, 0)).1
      (s.lamps.measured.getD (.incomplete, 0)).2 s)).listWell := h.recordVerdict _ _ _
  split
  · exact (k.withLamps _).beginStep
  · exact State.listWell_congr k (by simp)

theorem State.listWell.startCheck {s : State} (h : s.listWell) : (startCheck s).listWell := by
  unfold Machine.startCheck
  have k := Faults.inactivateLamps_wellKept h
  split
  · dsimp only
    split
    · exact k
    · exact State.listWell.beginStep k
  · exact h

theorem State.listWell.advanceStage {s : State} (h : s.listWell) : (advanceStage s).listWell := by
  unfold Machine.advanceStage
  split
  · exact h.enterFeedOn
  · split
    · exact h.enterSwitchOff
    · exact h
  · exact (h.withLamps _).finishStep
  · exact h

theorem State.listWell.payOff {s : State} (h : s.listWell) : (payOff s).listWell := by
  unfold Machine.payOff
  split
  · exact State.listWell_congr h (by simp)
  · exact h

theorem State.listWell.lampAcknowledged {s : State} (h : s.listWell) (channel : Nat) (on live : Bool) :
    (lampAcknowledged channel on live s).listWell := by
  have k : (clearLoose channel on s).listWell := by unfold clearLoose; split <;> exact h
  unfold Machine.lampAcknowledged
  dsimp only
  split
  · exact k.advanceStage
  · exact k.payOff

theorem State.listWell.lampFailed {s : State} (h : s.listWell) (channel : Nat) (on live : Bool) :
    (lampFailed channel on live s).listWell := by
  have again : ∀ v : State, v.listWell → (raiseAgain channel on v).listWell := fun v k => by
    unfold raiseAgain
    split
    · split
      · exact k.enterSwitchOff
      · exact k.raiseLampSet _ _
    · exact k.raiseLampSet _ _
    · exact k.raiseLampSet _ _
    · exact k
  unfold Machine.lampFailed
  split
  · split
    case h_5 => exact h
    all_goals
      dsimp only
      split
      · exact h
      · exact again _ h
  · exact h.payOff

theorem State.listWell.shortReading {s : State} (h : s.listWell) (mean : Nat) : (shortReading mean s).listWell := by
  unfold Machine.shortReading
  dsimp only
  split
  case h_4 => exact h
  all_goals
    split
    · exact h
    · exact (h.withLamps _).enterSwitchOff

theorem State.listWell.lampSag {s : State} (h : s.listWell) : (lampSag s).listWell := by
  have k : (caughtBySag s).listWell := State.listWell_congr h (by simp)
  have catches : (sagCatches s).listWell := by
    rw [sagCatches_eq]
    split
    · exact k.finishStep
    · exact k
  unfold Machine.lampSag
  split
  · split
    case h_6 => exact h
    case h_5 => exact h
    all_goals exact catches
  · exact h

theorem State.listWell.lampRecovered {s : State} (h : s.listWell) : (lampRecovered s).listWell := by
  unfold Machine.lampRecovered
  split
  · split
    case h_3 => exact h
    all_goals exact h.startStep
  · exact h

theorem State.listWell.linkWaitOver {s : State} (h : s.listWell) : (linkWaitOver s).listWell := by
  unfold Machine.linkWaitOver
  dsimp only
  split
  · exact (h.withLamps _).endCheckIncomplete
  · exact (h.withLamps _).beginStep

/-! ### Reactions -/

theorem State.listWell.startPass {s : State} (h : s.listWell) : (startPass s).listWell := by
  unfold Machine.startPass
  split
  · exact State.listWell_congr (s := { s with faults := s.faults.beginPass }) (Faults.beginPass_wellKept h) (by simp)
  · exact h

theorem State.listWell.react {s : State} (h : s.listWell) : (react s).listWell :=
  State.listWell_congr h.startPass.startCheck (by simp [Machine.react])

theorem State.listWell.settle {s : State} (h : s.listWell) : (settle s).listWell :=
  State.listWell_congr h.react.react.startPass (by simp [Machine.settle])

/-! ### Sessions, failures and entries -/

theorem State.listWell.endSession (s : State) (cause : EndCause) (coach : Nat) : (endSession cause coach s).listWell :=
  State.listWell_congr (s := { s with faults := s.faults.endSession }) (Faults.endSession_wellKept _) (by simp)

theorem State.listWell.offerStation {s : State} (h : s.listWell) (cause : Nat) : (offerStation cause s).listWell :=
  h.offerFault _

theorem State.listWell.openSession {s : State} (h : s.listWell) (id : Identity) : (openSession id s).listWell := by
  have k : (recomputeLead { s with
      bay := { s.bay with session := .opened id },
      link := { s.link with passOwed := true, passTimer := some (s.now + Config.passPeriod) } }).listWell :=
    State.listWell_congr h (by simp)
  unfold Machine.openSession
  dsimp only
  split
  · exact State.listWell_congr (k.offerStation 1) (by simp)
  · exact State.listWell_congr k (by simp)

theorem State.listWell.putIdentity {s : State} (h : s.listWell) (id : Identity) : (putIdentity id s).listWell := by
  unfold Machine.putIdentity
  split
  · exact h.openSession id
  · split
    · exact h
    · exact (State.listWell.endSession _ _ _).openSession id
  · exact (State.listWell.endSession _ _ _).openSession id

theorem State.listWell.enterEmpty {s : State} (h : s.listWell) : (enterEmpty s).listWell := by
  unfold Machine.enterEmpty
  dsimp only
  split
  · exact State.listWell_congr h (by simp)
  · exact State.listWell_congr h (by simp)
  · exact State.listWell_congr h (by simp)
  · exact State.listWell.endSession _ _ _
  · exact h

theorem State.listWell.loopClear {s : State} (h : s.listWell) : (loopClear s).listWell := by
  unfold Machine.loopClear
  split
  · exact h.enterEmpty
  all_goals exact h

theorem State.listWell.bayPlugOut {s : State} (h : s.listWell) : (bayPlugOut s).listWell := by
  unfold Machine.bayPlugOut
  split
  · exact h
  · exact h
  all_goals
    dsimp only
    split
    · exact State.listWell.enterEmpty h
    · exact State.listWell_congr h (by simp)

theorem State.listWell.identifySucceeded {s : State} (h : s.listWell) (id : Identity) :
    (identifySucceeded id s).listWell := by
  unfold Machine.identifySucceeded
  split
  case h_3 => exact h
  all_goals exact State.listWell.putIdentity (by exact h) id

theorem State.listWell.transitOver {s : State} (h : s.listWell) : (transitOver s).listWell := by
  unfold Machine.transitOver
  dsimp only
  split
  · exact State.listWell.endSession _ _ _
  · exact State.listWell_congr h (by simp)

theorem State.listWell.countFailure {s : State} (h : s.listWell) : (countFailure s).listWell := by
  unfold Machine.countFailure
  split
  · exact h
  · split
    · exact h
    · exact State.listWell.endCheckIncomplete (State.listWell_congr h (by simp))

theorem State.listWell.handFailure {s : State} (h : s.listWell) (x : Transaction) : (handFailure x s).listWell := by
  unfold Machine.handFailure
  split
  · exact State.listWell_congr h (by simp)
  · exact h.lampFailed _ _ _
  · exact h
  · split
    · split
      · exact State.listWell_congr h (by simp)
      · exact h
    · exact h

theorem State.listWell.takeEntry {s : State} (h : s.listWell) (module code : Nat) (severity : Severity) (count next : Nat) :
    (takeEntry module code severity count next s).listWell := by
  unfold Machine.takeEntry
  split
  · exact h
  · next p _ =>
    have k : (takeCoachEntry module code severity (max 1 count) s).listWell :=
      State.listWell.offerFault (s := { s with faults := s.faults.countEntry }) h _
    dsimp only
    split <;> exact State.listWell_congr k (by simp)

theorem State.listWell.applyVerdict {s : State} (h : s.listWell) (v : MeterVerdict) (metered : Nat) :
    (applyVerdict v metered s).listWell := by
  unfold Machine.applyVerdict
  split
  · split
    · exact h
    · have k : (evalHeat { s with heat := { s.heat with heaterFault := true },
                                  meter := { s.meter with overdrawRun := 0 } }).listWell := State.listWell_congr h (by simp)
      exact State.listWell_congr (k.offerStation 2) (by simp [heaterOverdrawn])
  · dsimp only
    split
    · exact h
    · exact State.listWell.offerStation (by exact h) 3
  · exact State.listWell.offerStation (by exact h) 4
  · exact h
  · exact h

/-! ### Every step -/

theorem Quiet.listWell {s v : State} (h : s.listWell) (q : Quiet s v) : v.listWell := by
  cases q
  case beginsMeasure => exact State.listWell_congr h (by unfold beginMeasure; dsimp only; split <;> rfl)
  all_goals exact State.listWell_congr h (by simp)

theorem Effect.listWell {s v : State} (h : s.listWell) (e : Effect s v) : v.listWell := by
  cases e
  case loop level started other =>
    split
    · exact State.listWell_congr h (by simp)
    · exact State.listWell.loopClear h
  case plugsOut =>
    split
    · exact State.listWell_congr h (by simp)
    · exact State.listWell_congr (State.listWell.bayPlugOut (s := { s with
        bay := { s.bay with plug := s.bay.plug.accept false } }) h) (by simp)
  case reidentifies => split <;> exact State.listWell_congr h (by simp)
  case fails x busy =>
    have k : (idleLink s).listWell := h
    exact k.countFailure.handFailure x
  case identifies x id hint busy asked =>
    have k : (linkComesUp (linkSucceeded s)).listWell := State.listWell_congr h (by simp)
    exact State.listWell_congr (k.identifySucceeded id) (by simp)
  case acknowledges => exact State.listWell.lampAcknowledged (s := linkSucceeded s) h _ _ _
  case takesEntry => exact State.listWell.takeEntry (s := linkSucceeded s) h _ _ _ _ _
  case endsPass =>
    exact State.listWell_congr (s := { s with faults := s.faults.completePass }) (Faults.completePass_wellKept h) (by simp)
  case measuresSteady => exact State.listWell.enterSwitchOff h
  case endsCapture => exact State.listWell.enterSwitchOff h
  case readsShort => exact h.shortReading _
  case waitsNoLonger => exact h.linkWaitOver
  case endsTransit => exact h.transitOver
  case sags => exact State.listWell.lampSag h
  case recovers => exact State.listWell.lampRecovered h
  case closesWindow => exact State.listWell.applyVerdict (by exact h) _ _
  all_goals exact State.listWell_congr h (by simp)

theorem kept_listWell : Kept State.listWell where
  queue _ _ h := h
  reset _ _ _ := ⟨Nat.zero_le _, .nil⟩
  arrives s b h a := State.listWell_congr h (by rw [a.eq.1])
  quietly _ _ h q := q.listWell h
  event _ _ h e := (e.listWell h).settle
  round _ h := State.listWell.settle (State.listWell_congr h (by simp))
  trails s u h t := State.listWell_congr h (by rw [t.eq.1])

/-- Settles O53: the two parts of the invariant are kept by each operation on the list, and so by all that a step is made of. -/
theorem everyStepKeepsTheFaultListWell : Obligations.EveryStepKeepsTheFaultListWell := by
  exact fun s u h hs => kept_listWell.step (P := State.listWell) h hs

end Sys2Proof.Machine
end

section
/-! SUPPORT. The peer table through a step: what is read is purged, a claim changes one entry, and the form of the table is kept (R98, R103,
R104, R108). -/

namespace Sys2Proof.Machine

open Sys2Proof

/-! ### Purging -/

@[simp] theorem PeerEntry.purge_station (now : Nat) (e : PeerEntry) : (e.purge now).station = e.station := rfl

@[simp] theorem PeerEntry.purge_purge (now : Nat) (e : PeerEntry) : (e.purge now).purge now = e.purge now := by
  simp [PeerEntry.purge, Option.filter_filter]

theorem Peers.purge_purge (now : Nat) (p : Peers) : ((p.purge now).purge now).entries = (p.purge now).entries := by
  have e : ∀ x ∈ (p.entries.map (·.purge now)).filter (·.holdsPart), x.purge now = x := fun x hx => by
    obtain ⟨y, _, rfl⟩ := List.mem_map.mp (List.mem_of_mem_filter hx)
    exact PeerEntry.purge_purge now y
  simp only [Peers.purge]
  rw [List.map_congr_left e]
  simp

/-- The table after operations that read it: as it stood, or without the parts that are too old. -/
def PeersRead (a b : State) : Prop :=
  b.now = a.now ∧ (b.peers.entries = a.peers.entries ∨ b.peers.entries = (a.peers.purge a.now).entries)

theorem PeersRead.of_eq {a b : State} (hn : b.now = a.now) (hp : b.peers = a.peers) : PeersRead a b :=
  ⟨hn, .inl (by rw [hp])⟩

theorem PeersRead.trans {a b c : State} (h : PeersRead a b) (k : PeersRead b c) : PeersRead a c := by
  obtain ⟨hn, h⟩ := h
  obtain ⟨kn, k⟩ := k
  refine ⟨kn.trans hn, ?_⟩
  have e : b.peers.entries = a.peers.entries → (b.peers.purge b.now).entries = (a.peers.purge a.now).entries := fun e => by
    simp [Peers.purge, e, hn]
  have e' : b.peers.entries = (a.peers.purge a.now).entries →
      (b.peers.purge b.now).entries = (a.peers.purge a.now).entries := fun e => by
    rw [← Peers.purge_purge a.now a.peers]; simp only [Peers.purge, e, hn]
  rcases h with h | h <;> rcases k with k | k
  · exact .inl (k.trans h)
  · exact .inr (k.trans (e h))
  · exact .inr (k.trans h)
  · exact .inr (k.trans (e' h))

/-- Further operations that leave the table and the clock. -/
theorem PeersRead.then {a b c : State} (h : PeersRead a b) (hn : c.now = b.now) (hp : c.peers = b.peers) : PeersRead a c :=
  h.trans (.of_eq hn hp)

/-- Earlier operations that leave the table and the clock. -/
theorem PeersRead.after {a b c : State} (h : PeersRead b c) (hn : b.now = a.now) (hp : b.peers = a.peers) : PeersRead a c :=
  (PeersRead.of_eq hn hp).trans h

/-! ### What reads the table -/

/-- Reading the table removes its old parts and gives the lowest air temperature (R104, R107). -/
@[simp] theorem readPeers_peers (s : State) :
    (readPeers s).peers = { s.peers.purge s.now with lowestGiven := lowestAir (s.peers.purge s.now).entries } := by
  unfold readPeers
  dsimp only
  split
  · next h => simp only [h]
  · simp

@[simp] theorem recomputeLead_peers (s : State) :
    (recomputeLead s).peers = { s.peers.purge s.now with lowestGiven := lowestAir (s.peers.purge s.now).entries } := by
  simp [recomputeLead]

theorem recomputeLead_read (s : State) : PeersRead s (recomputeLead s) := ⟨by simp, .inr (by rw [recomputeLead_peers])⟩

theorem giveLowestAir_read (s : State) : PeersRead s (giveLowestAir s) := by
  unfold giveLowestAir
  split
  · exact .of_eq rfl rfl
  · exact ⟨by simp, .inr (by rw [recomputeLead_peers]; rfl)⟩

theorem cacheWentStale_read (s : State) : PeersRead s (cacheWentStale s) :=
  (recomputeLead_read s).then (by simp [cacheWentStale]) (by simp [cacheWentStale])

theorem staleCache_read (s : State) : PeersRead s (staleCache s) := by
  unfold staleCache
  split
  · exact (cacheWentStale_read _).after rfl rfl
  · exact .of_eq rfl rfl

theorem takeNoSensor_read (s : State) : PeersRead s (takeNoSensor s) := by
  unfold takeNoSensor
  dsimp only
  split
  · exact (cacheWentStale_read _).after rfl rfl
  · exact .of_eq rfl rfl

theorem emptyCache_read (s : State) : PeersRead s (emptyCache s) := by
  unfold emptyCache
  dsimp only
  split
  · exact (cacheWentStale_read _).after rfl rfl
  · exact .of_eq rfl rfl

theorem takeReading_read (temp : Int) (s : State) : PeersRead s (takeReading temp s) :=
  PeersRead.then ((recomputeLead_read _).after rfl rfl) (by simp [takeReading]) (by simp [takeReading])

theorem sampleProbe_read (v : Int) (s : State) : PeersRead s (sampleProbe v s) :=
  PeersRead.then ((recomputeLead_read _).after rfl rfl) (by simp [sampleProbe]) (by simp [sampleProbe])

theorem acceptAssign_read (coach countdown : Nat) (s : State) : PeersRead s (acceptAssign coach countdown s) :=
  (recomputeLead_read _).after (by simp) (by simp)

theorem startConfigured_read (probe : Int) (s : State) : PeersRead s (startConfigured probe s) := by
  unfold startConfigured
  dsimp only
  split
  · exact (sampleProbe_read _ _).after rfl rfl
  · exact (recomputeLead_read _).after rfl rfl

theorem heatSessionEnd_read (s : State) : PeersRead s (heatSessionEnd s) :=
  PeersRead.then ((recomputeLead_read _).after rfl rfl) (by simp [heatSessionEnd]) (by simp [heatSessionEnd])

theorem endSession_read (cause : EndCause) (coach : Nat) (s : State) : PeersRead s (endSession cause coach s) := by
  have start : PeersRead s (emptyCache
      { s with bay := { s.bay with session := .none }, faults := s.faults.endSession, link := s.link.discardPass }) :=
    (emptyCache_read _).after rfl rfl
  have told := start.then (c := clearanceSessionEnd cause coach (lampSessionEnd (emptyCache
      { s with bay := { s.bay with session := .none }, faults := s.faults.endSession, link := s.link.discardPass })))
    (by simp) (by simp)
  exact PeersRead.then (told.trans (heatSessionEnd_read _)) (by simp [endSession]) (by simp [endSession])

theorem openSession_read (id : Identity) (s : State) : PeersRead s (openSession id s) := by
  unfold openSession
  dsimp only
  split
  · exact PeersRead.then ((recomputeLead_read _).after rfl rfl) (by simp) (by simp)
  · exact PeersRead.then ((recomputeLead_read _).after rfl rfl) (by simp) (by simp)

theorem putIdentity_read (id : Identity) (s : State) : PeersRead s (putIdentity id s) := by
  unfold putIdentity
  split
  · exact openSession_read id s
  · split
    · exact .of_eq rfl rfl
    · exact (endSession_read _ _ _).trans (openSession_read _ _)
  · exact (endSession_read _ _ _).trans (openSession_read _ _)

theorem departSession_read (id : Identity) (s : State) : PeersRead s (departSession id s) :=
  (recomputeLead_read _).after rfl rfl

theorem enterEmpty_read (s : State) : PeersRead s (enterEmpty s) := by
  unfold enterEmpty
  dsimp only
  split
  · next id _ _ =>
    have k := departSession_read id { s with bay := { s.bay with occupancy := .empty, implied := false } }
    exact (k.after rfl rfl).then (by simp) (by simp)
  · exact .of_eq (by simp) (by simp)
  · exact .of_eq (by simp) (by simp)
  · exact (endSession_read _ _ _).after rfl rfl
  · exact .of_eq rfl rfl

theorem loopClear_read (s : State) : PeersRead s (loopClear s) := by
  unfold loopClear
  split
  · exact enterEmpty_read s
  all_goals exact .of_eq rfl rfl

theorem bayPlugOut_read (s : State) : PeersRead s (bayPlugOut s) := by
  unfold bayPlugOut
  split
  · exact .of_eq rfl rfl
  · exact .of_eq rfl rfl
  all_goals
    dsimp only
    split
    · exact (enterEmpty_read _).after rfl rfl
    · exact .of_eq (by simp) (by simp)

theorem linkPlugOut_read (s : State) : PeersRead s (linkPlugOut s) := by
  unfold linkPlugOut
  split
  · exact .of_eq rfl rfl
  · exact PeersRead.then ((staleCache_read _).after (by simp) (by simp)) rfl rfl

theorem identifySucceeded_read (id : Identity) (s : State) : PeersRead s (identifySucceeded id s) := by
  unfold identifySucceeded
  split
  case h_3 => exact .of_eq rfl rfl
  all_goals exact (putIdentity_read _ _).after rfl rfl

theorem transitOver_read (s : State) : PeersRead s (transitOver s) := by
  unfold transitOver
  dsimp only
  split
  · exact (endSession_read _ _ _).after (by simp) (by simp)
  · exact .of_eq (by simp) (by simp)

theorem declareLost_read (s : State) : PeersRead s (declareLost s) := by
  have k := staleCache_read (abandonPass true
    { s with link := { s.link with state := .lost, failureRun := 0, lampReq := none, tempReq := false } })
  exact (k.after (by simp) (by simp)).then (by simp [declareLost]) (by simp [declareLost])

theorem countFailure_read (s : State) : PeersRead s (countFailure s) := by
  unfold countFailure
  split
  · exact .of_eq rfl rfl
  · split
    · exact .of_eq rfl rfl
    · exact declareLost_read s

theorem transactionFails_read (x : Transaction) (s : State) : PeersRead s (transactionFails x s) :=
  (countFailure_read (idleLink s)).then (by simp [transactionFails]) (by simp [transactionFails])

theorem takeRound_read (s : State) : PeersRead s (takeRound s) :=
  PeersRead.then (b := readPeers s) ⟨by simp, .inr (by rw [readPeers_peers])⟩ (by simp [takeRound]) (by simp [takeRound])

/-- Every effect reads the table at most, but for a claim heard and an expiry. -/
theorem Effect.peers {s v : State} (e : Effect s v) :
    PeersRead s v ∨
      (∃ n part, s.configured = true ∧ s.isPeer n = true ∧ v = hearDepart n part s) ∨
      (∃ n part, s.configured = true ∧ s.isPeer n = true ∧
        v = giveLowestAir (setPeer n (fun e => { e with air := some part }) s)) ∨
      ∃ n part, v = giveLowestAir { s with peers := s.peers.expirePart s.now n part } := by
  cases e
  case hearsDepart n part configured peer => exact .inr (.inl ⟨n, part, configured, peer, rfl⟩)
  case hearsAir n part configured peer => exact .inr (.inr (.inl ⟨n, part, configured, peer, rfl⟩))
  case expires n part => exact .inr (.inr (.inr ⟨n, part, rfl⟩))
  all_goals left
  case bringsUp img passes probe _ _ _ _ =>
    unfold bringUpEffect
    dsimp only
    split
    · exact (startConfigured_read _ _).after (by simp) (by simp)
    · exact .of_eq (by simp) (by simp)
  case loop =>
    split
    · exact .of_eq (by simp) (by simp)
    · exact (loopClear_read _).after rfl rfl
  case plugsOut =>
    split
    · exact (linkPlugOut_read _).after rfl rfl
    · exact ((bayPlugOut_read _).trans (linkPlugOut_read _)).after rfl rfl
  case reidentifies => split <;> exact .of_eq (by simp) (by simp)
  case fails => exact transactionFails_read _ _
  case identifies x id hint _ _ =>
    have k := identifySucceeded_read id (linkComesUp (linkSucceeded s))
    exact (k.after (by simp) (by simp)).then (by simp) (by simp)
  case readsCabin => exact (takeReading_read _ _).after rfl rfl
  case findsNoSensor => exact (takeNoSensor_read _).after rfl rfl
  case goesStale => exact staleCache_read s
  case assigns => exact acceptAssign_read _ _ _
  case endsTransit => exact transitOver_read s
  case samples => exact sampleProbe_read _ _
  all_goals exact .of_eq (by simp) (by simp)

/-- An event ends with the table purged and its lowest air temperature given (R104, R107). -/
theorem react_peers (s : State) :
    (react s).peers = { s.peers.purge s.now with lowestGiven := lowestAir (s.peers.purge s.now).entries } := by
  simp [react_eq, Peers.purge]

theorem settle_peers (s : State) :
    (settle s).peers = { s.peers.purge s.now with lowestGiven := lowestAir (s.peers.purge s.now).entries } := by
  have twice : (react s).now = s.now := (Reacted.refl s).react.now
  have e := Peers.purge_purge s.now s.peers
  simp only [Peers.purge] at e
  simp [settle_eq, react_peers, twice, Peers.purge, e]

/-! ### The form of the table -/

theorem PeerEntry.holdsPart_of_mem_purge {now : Nat} {p : Peers} {e : PeerEntry} (h : e ∈ (p.purge now).entries) :
    e.holdsPart = true ∧ ∃ a ∈ p.entries, e = a.purge now := by
  obtain ⟨hm, hp⟩ := List.mem_filter.mp h
  obtain ⟨a, ha, rfl⟩ := List.mem_map.mp hm
  exact ⟨hp, a, ha, rfl⟩

/-- Entries changed in place, with their stations, and those left empty removed, stay in rising order. -/
theorem pairwise_station_filter_map {l : List PeerEntry} (h : l.Pairwise fun a b => a.station < b.station)
    (f : PeerEntry → PeerEntry) (hf : ∀ e, (f e).station = e.station) :
    ((l.map f).filter (·.holdsPart)).Pairwise fun a b => a.station < b.station :=
  (List.pairwise_map.mpr (h.imp fun {a b} hab => by rwa [hf, hf])).filter _

/-- The invariant of the table over its entries alone. -/
theorem State.tableRight.with_entries {s v : State} (h : s.tableRight) (hs : v.start = s.start)
    (sorted : v.peers.entries.Pairwise fun a b => a.station < b.station)
    (right : ∀ e ∈ v.peers.entries, (∃ a ∈ s.peers.entries, e.station = a.station) ∧ e.holdsPart = true)
    (none : s.peers.entries = [] → v.peers.entries = []) : v.tableRight := by
  obtain ⟨_, hright, hnone, hread⟩ := h
  refine ⟨sorted, fun e he => ?_, fun hc => none (hnone (by rwa [State.configured, hs] at hc)), by rwa [hs]⟩
  obtain ⟨⟨a, ha, hst⟩, hp⟩ := right e he
  obtain ⟨hb, hown, _⟩ := hright a ha
  exact ⟨by rwa [hst], by rw [hst, State.ownNumber, hs]; exact hown, hp⟩

theorem State.tableRight_congr {s v : State} (h : s.tableRight) (hs : v.start = s.start)
    (hp : v.peers.entries = s.peers.entries) : v.tableRight := by
  obtain ⟨hsorted, hright, _, _⟩ := id h
  exact h.with_entries hs (by rwa [hp]) (fun e he => ⟨⟨e, hp ▸ he, rfl⟩, (hright e (hp ▸ he)).2.2⟩) fun e => by rw [hp, e]

theorem State.tableRight.read {s v : State} (h : s.tableRight) (hs : v.start = s.start) (r : PeersRead s v) :
    v.tableRight := by
  obtain ⟨_, hp | hp⟩ := r
  · exact State.tableRight_congr h hs hp
  · obtain ⟨hsorted, _⟩ := id h
    refine h.with_entries hs ?_ (fun e he => ?_) fun e => by rw [hp]; simp [Peers.purge, e]
    · rw [hp]; exact pairwise_station_filter_map hsorted _ fun _ => rfl
    · rw [hp] at he
      obtain ⟨hpart, a, ha, rfl⟩ := PeerEntry.holdsPart_of_mem_purge he
      exact ⟨⟨a, ha, rfl⟩, hpart⟩

/-- A station with an entry in the table after a change of one. -/
theorem mem_changeEntry {n : Nat} {f : PeerEntry → PeerEntry} {l : List PeerEntry} {e : PeerEntry}
    (h : e ∈ changeEntry n f l) : e ∈ l ∨ e = f (PeerEntry.blank n) ∨ ∃ a ∈ l, a.station = n ∧ e = f a := by
  induction l with
  | nil => exact .inr (.inl (List.mem_singleton.mp h))
  | cons a rest ih =>
    unfold changeEntry at h
    split at h
    · next ha =>
      rcases List.mem_cons.mp h with rfl | h
      · exact .inr (.inr ⟨a, List.mem_cons_self .., ha, rfl⟩)
      · exact .inl (List.mem_cons_of_mem _ h)
    · split at h
      · rcases List.mem_cons.mp h with rfl | h
        · exact .inr (.inl rfl)
        · exact .inl h
      · rcases List.mem_cons.mp h with rfl | h
        · exact .inl (List.mem_cons_self ..)
        · rcases ih h with h | h | ⟨b, hb, hst, he⟩
          · exact .inl (List.mem_cons_of_mem _ h)
          · exact .inr (.inl h)
          · exact .inr (.inr ⟨b, List.mem_cons_of_mem _ hb, hst, he⟩)

theorem pairwise_changeEntry {n : Nat} {f : PeerEntry → PeerEntry} {l : List PeerEntry}
    (h : l.Pairwise fun a b => a.station < b.station) (hf : ∀ e, (f e).station = e.station) :
    (changeEntry n f l).Pairwise fun a b => a.station < b.station := by
  have hblank : (f (PeerEntry.blank n)).station = n := hf _
  induction l with
  | nil => exact List.pairwise_singleton _ _
  | cons a rest ih =>
    obtain ⟨ha, hrest⟩ := List.pairwise_cons.mp h
    unfold changeEntry
    split
    · exact List.pairwise_cons.mpr ⟨fun b hb => by rw [hf]; exact ha b hb, hrest⟩
    · next hne =>
      split
      · next hlt =>
        refine List.pairwise_cons.mpr ⟨fun b hb => ?_, h⟩
        rw [hblank]
        rcases List.mem_cons.mp hb with rfl | hb
        · exact hlt
        · exact hlt.trans (ha b hb)
      · next hge =>
        refine List.pairwise_cons.mpr ⟨fun b hb => ?_, ih hrest⟩
        rcases mem_changeEntry hb with hb | rfl | ⟨c, hc, _, rfl⟩
        · exact ha b hb
        · rw [hblank]; omega
        · rw [hf]; exact ha c hc

/-- A claim of a peer keeps the form of the table: its entry is made in its place, and it holds the part heard. -/
theorem State.tableRight.setPeer {s : State} (h : s.tableRight) {n : Nat} {f : PeerEntry → PeerEntry}
    (configured : s.configured = true) (peer : s.isPeer n = true) (hf : ∀ e, (f e).station = e.station)
    (holds : ∀ e, (f e).holdsPart = true) : (setPeer n f s).tableRight := by
  obtain ⟨hsorted, hright, _, hread⟩ := h
  refine ⟨pairwise_changeEntry hsorted hf, fun e he => ?_, fun hc => ?_, hread⟩
  · rcases mem_changeEntry he with he | rfl | ⟨a, ha, _, rfl⟩
    · exact hright e he
    · simp only [State.isPeer, Bool.and_eq_true, decide_eq_true_eq] at peer
      obtain ⟨⟨h1, h48⟩, hown⟩ := peer
      rw [hf]
      exact ⟨by simp [bayNumber, PeerEntry.blank, h1, h48], hown, holds _⟩
    · obtain ⟨hb, hown, _⟩ := hright a ha
      rw [hf]
      exact ⟨hb, hown, holds a⟩
  · have same : s.configured = false := hc
    rw [configured] at same
    cases same

theorem PeerEntry.dropPart_station (part : PartKind) (e : PeerEntry) : (e.dropPart part).station = e.station := by
  cases part <;> rfl

theorem State.tableRight.expirePart {s : State} (h : s.tableRight) (n : Nat) (part : PartKind) :
    State.tableRight { s with peers := s.peers.expirePart s.now n part } := by
  obtain ⟨hsorted, _⟩ := id h
  have keep : ∀ e : PeerEntry, (if e.station = n ∧ fallenDue ((e.heard part).map (· + Config.partLife)) s.now = true
      then e.dropPart part else e).station = e.station := fun e => by
    split
    · exact PeerEntry.dropPart_station part e
    · rfl
  refine h.with_entries rfl (pairwise_station_filter_map hsorted _ keep) (fun e he => ?_)
    fun e => by simp [Peers.expirePart, e]
  obtain ⟨hm, hp⟩ := List.mem_filter.mp he
  obtain ⟨a, ha, rfl⟩ := List.mem_map.mp hm
  exact ⟨⟨a, ha, keep a⟩, hp⟩

/-! ### Every step -/

theorem State.tableRight.settle {s : State} (h : s.tableRight) : (settle s).tableRight :=
  h.read (settle_reacted s).start ⟨(settle_reacted s).now, .inr (by rw [settle_peers])⟩

/-- Bring-up finds the table empty, and leaves it so. -/
theorem State.tableRight.bringsUp {s : State} (h : s.tableRight) {img : Image} {passes : Bool} {probe : Int}
    (reads : s.start.phase = .reading ∨ s.start.readTimer.isSome = true) :
    (bringUpEffect img passes probe s).tableRight := by
  obtain ⟨_, _, hnone, hread⟩ := h
  have phase : s.start.phase = .reading := reads.elim id hread
  have none : s.peers.entries = [] := hnone (by simp [State.configured, phase])
  have left : (bringUpEffect img passes probe s).peers.entries = [] := by
    unfold bringUpEffect
    dsimp only
    split
    · obtain ⟨_, e | e⟩ := startConfigured_read probe (startMonitor _)
      · rw [e]; simpa using none
      · rw [e]; simp [Peers.purge, none]
    · simpa using none
  exact ⟨by simp [left], by simp [left], fun _ => left, by simp⟩

/-- Only bring-up changes the start record. -/
theorem Effect.start {s v : State} (e : Effect s v) :
    v.start = s.start ∨
      ∃ words passes probe, (s.start.phase = .reading ∨ s.start.readTimer.isSome = true) ∧
        (passes = true → imagePasses words = true) ∧ v = bringUpEffect (imageOf words) passes probe s := by
  cases e
  case bringsUp img passes probe reads words taken pass => exact .inr ⟨words, passes, probe, reads, pass, by rw [taken]⟩
  case loop => left; split <;> simp
  case plugsOut => left; split <;> simp
  case reidentifies => left; split <;> simp
  all_goals left; simp

theorem Effect.tableRight {s v : State} (h : s.tableRight) (e : Effect s v) : v.tableRight := by
  rcases e.start with start | ⟨words, passes, probe, reads, _, rfl⟩
  case inr => exact h.bringsUp reads
  case inl =>
    rcases e.peers with r | ⟨n, part, hc, hp, rfl⟩ | ⟨n, part, hc, hp, rfl⟩ | ⟨n, part, rfl⟩
    · exact h.read start r
    · have k := h.setPeer (f := fun e => { e with depart := some part }) hc hp (fun _ => rfl)
        fun _ => by simp [PeerEntry.holdsPart]
      exact State.tableRight_congr k (by simp) (by simp)
    · have k := h.setPeer (f := fun e => { e with air := some part }) hc hp (fun _ => rfl)
        fun _ => by simp [PeerEntry.holdsPart]
      exact k.read (by simp) (giveLowestAir_read _)
    · exact (h.expirePart n part).read (by simp) (giveLowestAir_read _)

theorem Quiet.tableRight {s v : State} (h : s.tableRight) (q : Quiet s v) : v.tableRight := by
  cases q
  case hearsHeat n part hc hp =>
    exact h.setPeer hc hp (fun _ => rfl) fun _ => by simp [PeerEntry.holdsPart]
  case beginsMeasure =>
    exact State.tableRight_congr h (by unfold beginMeasure; dsimp only; split <;> rfl)
      (by unfold beginMeasure; dsimp only; split <;> rfl)
  all_goals exact State.tableRight_congr h (by simp) (by simp)

theorem kept_tableRight : Kept State.tableRight where
  queue _ _ h := h
  reset _ _ _ := ⟨.nil, by simp [State.afterReset], fun _ => rfl, fun _ => rfl⟩
  arrives s b h a := State.tableRight_congr h (by rw [a.eq.1]) (by rw [a.eq.1])
  quietly _ _ h q := q.tableRight h
  event _ _ h e := (e.tableRight h).settle
  round s h := State.tableRight.settle (State.tableRight.read h (by simp)
    ((takeRound_read s).then (by simp [claimPeriodEffect]) (by simp [claimPeriodEffect])))
  trails s u h t := State.tableRight_congr h (by rw [t.eq.1]) (by rw [t.eq.1])

/-- Settles O58: the table is purged by what reads it, one entry is changed or made by a claim of a peer, and a configured bring-up finds it
empty. -/
theorem everyStepKeepsThePeerTable : Obligations.EveryStepKeepsThePeerTable :=
  fun _ _ h hs => kept_tableRight.step h hs

end Sys2Proof.Machine
end

section
/-! SUPPORT. The departure record through a step: each operation of clearance as a change of that record alone, and the invariant that ties
its fields to its state (R142 to R145, R150 to R159). -/

namespace Sys2Proof.Machine

open Sys2Proof

/-! ### The moves of the record -/

/-- The record after a change of its state (R152, R155, R157). -/
def Departure.move (d : DepState) (x : Departure) : Departure :=
  if d = x.state then x
  else { x with
    state := d,
    settleTimer := if x.state = .settling then none else x.settleTimer,
    key := if x.state = .settling then none else x.key,
    releaseTimer := if x.state = .holding then none else x.releaseTimer }

@[simp] theorem Departure.move_state (d : DepState) (x : Departure) : (x.move d).state = d := by
  unfold Departure.move
  split
  · next h => exact h.symm
  · rfl

@[simp] theorem Departure.move_keeps (d : DepState) (x : Departure) :
    (x.move d).assignment = x.assignment ∧ (x.move d).countdown = x.countdown ∧ (x.move d).nextFall = x.nextFall ∧
      (x.move d).waiveLamp = x.waiveLamp ∧ (x.move d).waiveFault = x.waiveFault ∧ (x.move d).waiveHeat = x.waiveHeat ∧
      (x.move d).hold = x.hold ∧ (x.move d).holdTimer = x.holdTimer ∧ (x.move d).transitTimer = x.transitTimer := by
  unfold Departure.move; split <;> simp

theorem Departure.move_self {d : DepState} {x : Departure} (h : x.state = d) : x.move d = x := if_pos h.symm

@[simp] theorem makeDepartDue_dep (s : State) : (makeDepartDue s).dep = s.dep := by simp

@[simp] theorem changeDep_dep (d : DepState) (s : State) : (changeDep d s).dep = s.dep.move d := by
  unfold changeDep Departure.move; split <;> simp

/-- The record in NONE (R145, R157, R159). -/
def Departure.cancelled (x : Departure) : Departure :=
  { x.move .none with assignment := none, countdown := none, nextFall := none }

@[simp] theorem enterNone_dep (s : State) : (enterNone s).dep = s.dep.cancelled := by simp [enterNone, Departure.cancelled]

@[simp] theorem enterHolding_dep (s : State) :
    (enterHolding s).dep =
      { s.dep.move .holding with releaseTimer := some (s.now + 1000 * s.start.image.releaseWindow) } := by
  simp [enterHolding]

@[simp] theorem enterGone_dep (coach : Nat) (s : State) :
    (enterGone coach s).dep = { s.dep.move .gone with transitTimer := some (s.now + 1000 * s.start.image.transit) } := by
  simp [enterGone]

@[simp] theorem enterLapsed_dep (s : State) : (enterLapsed s).dep = s.dep.move .lapsed := by simp [enterLapsed]

@[simp] theorem acceptAssign_dep (coach countdown : Nat) (s : State) :
    (acceptAssign coach countdown s).dep =
      { s.dep.move .assigned with assignment := some coach, countdown := some (countdown : Int),
                                  nextFall := some s.nextSecond } := by
  simp [acceptAssign]

@[simp] theorem leaveReady_dep (s : State) :
    (leaveReady s).dep = if s.dep.state = .ready ∧ s.coachConditions = false then s.dep.move .assigned else s.dep := by
  unfold leaveReady; split <;> simp

@[simp] theorem replacedExit_dep (coach : Nat) (s : State) :
    (replacedExit coach s).dep = if s.dep.assignment = some 0 then s.dep.move .assigned else s.dep.cancelled := by
  unfold replacedExit State.anyCoach; split <;> simp_all

/-- The transit of a coach that left in HOLDING begins (R157, R159). -/
def Departure.gone (x : Departure) (now transit : Nat) : Departure :=
  { x.move .gone with transitTimer := some (now + 1000 * transit) }

/-- What a session end does to the record but for the waivers (R159; log 22). -/
def Departure.afterSession (cause : EndCause) (coach now transit : Nat) (x : Departure) : Departure :=
  match x.state, cause with
  | .assigned, .bayEmptied => if x.assignment = some 0 ∨ x.assignment = some coach then x.cancelled else x
  | .assigned, .identityReplaced =>
      if x.assignment = some 0 then x else if x.assignment = some coach then x.cancelled else x
  | .ready, .bayEmptied | .settling, .bayEmptied => x.cancelled
  | .ready, .identityReplaced | .settling, .identityReplaced =>
      if x.assignment = some 0 then x.move .assigned else x.cancelled
  | .holding, .identityReplaced => x.gone now transit
  | _, _ => x

theorem State.admits_iff (s : State) (coach : Nat) :
    s.admits coach = true ↔ s.dep.assignment = some 0 ∨ s.dep.assignment = some coach := by
  unfold State.admits; split <;> simp_all

theorem departureAtSessionEnd_dep (cause : EndCause) (coach : Nat) (s : State) :
    (departureAtSessionEnd cause coach s).dep = s.dep.afterSession cause coach s.now s.start.image.transit := by
  unfold departureAtSessionEnd Departure.afterSession
  cases hs : s.dep.state <;> cases cause <;> dsimp only
  case assigned.bayEmptied =>
    split
    · next h => rw [if_pos ((State.admits_iff s coach).mp h)]; simp
    · next h => rw [if_neg fun k => h ((State.admits_iff s coach).mpr k)]
  case assigned.identityReplaced =>
    by_cases any : s.dep.assignment = some 0
    · rw [if_pos ((State.admits_iff s coach).mpr (.inl any)), if_pos any]
      simp [any, Departure.move_self hs]
    · rw [if_neg any]
      split
      · next h => rw [if_pos (((State.admits_iff s coach).mp h).resolve_left any)]; simp [any]
      · next h => rw [if_neg fun k => h ((State.admits_iff s coach).mpr (.inr k))]
  all_goals simp [Departure.gone]

/-- A session end clears every waiver, and moves the departure as R159 says. -/
def Departure.sessionEnded (cause : EndCause) (coach now transit : Nat) (x : Departure) : Departure :=
  { x.afterSession cause coach now transit with waiveLamp := false, waiveFault := false, waiveHeat := false }

@[simp] theorem endSession_dep (cause : EndCause) (coach : Nat) (s : State) :
    (endSession cause coach s).dep = s.dep.sessionEnded cause coach s.now s.start.image.transit := by
  simp [endSession, clearanceSessionEnd, departureAtSessionEnd_dep, Departure.sessionEnded]

/-! ### The record's invariant -/

theorem Departure.transitTimer_none {x : Departure} (h : x.wellKept) (hs : x.state ≠ .gone) : x.transitTimer = none := by
  obtain ⟨_, _, _, _, _, _, htransit⟩ := h
  by_contra hn
  exact hs (htransit (Option.isSome_iff_ne_none.mpr hn))

/-- After a move the settle timer, the key and the release window stand only in the states they belong to. -/
theorem Departure.wellKept.move_timers {x : Departure} (h : x.wellKept) (d : DepState) :
    ((x.move d).settleTimer.isSome = true → d = .settling) ∧ ((x.move d).key.isSome = true → d = .settling) ∧
      ((x.move d).releaseTimer.isSome = true → d = .holding) := by
  obtain ⟨_, _, _, hsettle, hkey, hrelease, _⟩ := h
  unfold Departure.move
  split
  · next same => rw [same]; exact ⟨hsettle, hkey, hrelease⟩
  · dsimp only
    refine ⟨fun k => ?_, fun k => ?_, fun k => ?_⟩
    · split at k
      · cases k
      · next hn => exact absurd (hsettle k) hn
    · split at k
      · cases k
      · next hn => exact absurd (hkey k) hn
    · split at k
      · cases k
      · next hn => exact absurd (hrelease k) hn

/-- A move between the states that hold an assignment, other than GONE, keeps the record. -/
theorem Departure.wellKept.move {x : Departure} (h : x.wellKept) {d : DepState} (given : x.state ≠ .none)
    (stays : d ≠ .none) (free : x.state ≠ .gone) : (x.move d).wellKept := by
  obtain ⟨hsettle, hkey, hrelease⟩ := Departure.wellKept.move_timers h d
  have still := Departure.transitTimer_none h free
  obtain ⟨ha, hc, hrange, _⟩ := h
  exact ⟨by simpa [stays] using ha.mpr given, by simpa [stays] using hc.mpr given, by simpa using hrange,
    by simpa using hsettle, by simpa using hkey, by simpa using hrelease, by simp [still]⟩

/-- The record with neither assignment nor countdown is kept in NONE. -/
theorem Departure.wellKept.cancelled {x : Departure} (h : x.wellKept) (still : x.transitTimer = Option.none) :
    x.cancelled.wellKept := by
  obtain ⟨hsettle, hkey, hrelease⟩ := Departure.wellKept.move_timers h .none
  exact ⟨by simp [Departure.cancelled], by simp [Departure.cancelled], rfl, by simpa [Departure.cancelled] using hsettle,
    by simpa [Departure.cancelled] using hkey, by simpa [Departure.cancelled] using hrelease,
    by simp [Departure.cancelled, still]⟩

/-- The record in GONE with its transit timer. -/
theorem Departure.wellKept.gone {x : Departure} (h : x.wellKept) (holding : x.state = .holding) (now transit : Nat) :
    (x.gone now transit).wellKept := by
  obtain ⟨ha, hc, hrange, hsettle, hkey, hrelease, _⟩ :=
    Departure.wellKept.move (d := .gone) h (by rw [holding]; decide) (by decide) (by rw [holding]; decide)
  exact ⟨ha, hc, hrange, hsettle, hkey, hrelease, by simp [Departure.gone]⟩

theorem Departure.wellKept.afterSession {x : Departure} (h : x.wellKept) (cause : EndCause) (coach now transit : Nat) :
    (x.afterSession cause coach now transit).wellKept := by
  have still : x.state ≠ .gone → x.transitTimer = none := Departure.transitTimer_none h
  unfold Departure.afterSession
  split
  case h_7 hs => exact h.gone hs now transit
  case h_8 => exact h
  case h_1 hs =>
    split
    · exact h.cancelled (still (by rw [hs]; decide))
    · exact h
  case h_2 hs =>
    split
    · exact h
    · split
      · exact h.cancelled (still (by rw [hs]; decide))
      · exact h
  case h_3 hs => exact h.cancelled (still (by rw [hs]; decide))
  case h_4 hs => exact h.cancelled (still (by rw [hs]; decide))
  case h_5 hs =>
    split
    · exact h.move (by rw [hs]; decide) (by decide) (by rw [hs]; decide)
    · exact h.cancelled (still (by rw [hs]; decide))
  case h_6 hs =>
    split
    · exact h.move (by rw [hs]; decide) (by decide) (by rw [hs]; decide)
    · exact h.cancelled (still (by rw [hs]; decide))

theorem Departure.wellKept.sessionEnded {x : Departure} (h : x.wellKept) (cause : EndCause) (coach now transit : Nat) :
    (x.sessionEnded cause coach now transit).wellKept := h.afterSession cause coach now transit

/-! ### Operations and reactions -/

/-- The departure record is well kept. -/
def State.departureKept (s : State) : Prop := s.dep.wellKept

theorem State.departureKept_congr {s v : State} (h : s.departureKept) (e : v.dep = s.dep) : v.departureKept := by
  unfold State.departureKept; rwa [e]

theorem State.departureKept.changeDep {s : State} (h : s.departureKept) {d : DepState} (moves : s.dep.state.moves = true)
    (stays : d ≠ .none) : (changeDep d s).departureKept := by
  unfold State.departureKept
  rw [changeDep_dep]
  exact Departure.wellKept.move h (by intro e; rw [e] at moves; cases moves) stays (by intro e; rw [e] at moves; cases moves)

theorem State.departureKept.clearanceMove {s : State} (h : s.departureKept) : (clearanceMove s).departureKept := by
  unfold Machine.clearanceMove
  split
  case h_4 => exact h
  case h_1 hs =>
    split
    · exact h.changeDep (by rw [hs]; rfl) (by decide)
    · exact h
  case h_2 hs =>
    split
    · exact h.changeDep (by rw [hs]; rfl) (by decide)
    · split
      · split
        · exact h.changeDep (by rw [hs]; rfl) (by decide)
        · exact h
      · exact h
  case h_3 hs =>
    split
    · exact h.changeDep (by rw [hs]; rfl) (by decide)
    · split
      · exact h.changeDep (by rw [hs]; rfl) (by decide)
      · exact h

theorem State.departureKept.react {s : State} (h : s.departureKept) : (react s).departureKept :=
  State.departureKept.clearanceMove (State.departureKept.clearanceMove (State.departureKept.clearanceMove
    (State.departureKept_congr h (by simp))))

theorem State.departureKept.settle {s : State} (h : s.departureKept) : (settle s).departureKept :=
  State.departureKept_congr h.react.react (by simp [settle_eq])

theorem State.departureKept.endSession {s : State} (h : s.departureKept) (cause : EndCause) (coach : Nat) :
    (endSession cause coach s).departureKept := by
  unfold State.departureKept
  rw [endSession_dep]
  exact Departure.wellKept.sessionEnded h _ _ _ _

theorem State.departureKept.putIdentity {s : State} (h : s.departureKept) (id : Identity) :
    (putIdentity id s).departureKept := by
  unfold Machine.putIdentity
  split
  · exact State.departureKept_congr h (by simp)
  · split
    · exact h
    · next held _ _ => exact State.departureKept_congr (h.endSession .identityReplaced held.coach) (by simp)
  · next held _ => exact State.departureKept_congr (h.endSession .identityReplaced held.coach) (by simp)

theorem State.departureKept.enterGone {s : State} (h : s.departureKept) (holding : s.dep.state = .holding) (coach : Nat) :
    (enterGone coach s).departureKept := by
  unfold State.departureKept
  rw [enterGone_dep]
  exact Departure.wellKept.gone h holding _ _

theorem State.departureKept.enterEmpty {s : State} (h : s.departureKept) : (enterEmpty s).departureKept := by
  unfold Machine.enterEmpty
  dsimp only
  split
  case h_1 hd _ => exact State.departureKept.enterGone (State.departureKept_congr h (by simp)) (by simpa using hd) _
  case h_2 hd _ => exact State.departureKept.enterGone (by exact h) (by exact hd) _
  case h_3 hd _ => exact State.departureKept.enterGone (by exact h) (by exact hd) _
  case h_4 => exact State.departureKept.endSession (by exact h) _ _
  case h_5 => exact h

theorem State.departureKept.transitOver {s : State} (h : s.departureKept) : (transitOver s).departureKept := by
  have k : (enterNone { s with dep := { s.dep with transitTimer := none } }).departureKept := by
    unfold State.departureKept
    rw [enterNone_dep]
    obtain ⟨ha, hc, hrange, hsettle, hkey, hrelease, _⟩ := h
    exact Departure.wellKept.cancelled ⟨ha, hc, hrange, hsettle, hkey, hrelease, by simp⟩ rfl
  unfold Machine.transitOver
  dsimp only
  split
  · exact k.endSession _ _
  · exact k

theorem State.departureKept.loopClear {s : State} (h : s.departureKept) : (loopClear s).departureKept := by
  unfold Machine.loopClear
  split
  · exact h.enterEmpty
  all_goals exact h

theorem State.departureKept.bayPlugOut {s : State} (h : s.departureKept) : (bayPlugOut s).departureKept := by
  unfold Machine.bayPlugOut
  split
  · exact h
  · exact h
  all_goals
    dsimp only
    split
    · exact State.departureKept.enterEmpty (by exact h)
    · exact h

theorem State.departureKept.departFinished {s : State} (h : s.departureKept) (state : ClaimState) (countdown : Int) :
    (departFinished state countdown s).departureKept := by
  unfold Machine.departFinished
  split
  · next hs =>
    obtain ⟨_, hstate, _⟩ := hs
    obtain ⟨ha, hc, hrange, _, _, hrelease, htransit⟩ := h
    exact ⟨ha, hc, hrange, fun _ => hstate, fun _ => hstate, hrelease, htransit⟩
  · exact h

theorem State.departureKept.finishFrame {s : State} (h : s.departureKept) (f : Flight) : (finishFrame f s).departureKept := by
  unfold Machine.finishFrame frameGone
  split
  case h_1 => exact State.departureKept.departFinished (by exact h) _ _
  case h_4 => split <;> exact State.departureKept_congr h (by simp)
  all_goals exact h

theorem State.departureKept.hearSettling {s : State} (h : s.departureKept) (n : Nat) (countdown : Int) :
    (hearSettling n countdown s).departureKept := by
  unfold Machine.hearSettling
  split
  · next hs =>
    have yields := State.departureKept.changeDep (d := .ready) h (by rw [hs]; rfl) (by decide)
    split
    · exact yields
    · split
      · exact yields
      · exact h
  · exact h

theorem State.departureKept.acceptAssign {s : State} (h : s.departureKept) (coach : Nat) {countdown : Nat}
    (fits : countdown ≤ 65535) (free : s.dep.state ≠ .gone) : (acceptAssign coach countdown s).departureKept := by
  have still := Departure.transitTimer_none h free
  have range : holdsOf (some (countdown : Int)) (fun c => decide (Config.lowestCountdown ≤ c) && decide (c ≤ 65535)) = true := by
    have least : Config.lowestCountdown = -3600 := rfl
    simp only [holdsOf, Bool.and_eq_true, decide_eq_true_eq]
    omega
  obtain ⟨hsettle, hkey, hrelease⟩ := Departure.wellKept.move_timers h .assigned
  unfold State.departureKept
  rw [acceptAssign_dep]
  exact ⟨by simp, by simp, range, by simpa using hsettle, by simpa using hkey, by simpa using hrelease, by simp [still]⟩

/-! ### Every step -/

theorem Quiet.departureKept {s v : State} (h : s.departureKept) (q : Quiet s v) : v.departureKept := by
  cases q
  case beginsMeasure => exact State.departureKept_congr h (by unfold beginMeasure; dsimp only; split <;> rfl)
  all_goals exact State.departureKept_congr h (by simp)

theorem Effect.departureKept {s v : State} (h : s.departureKept) (e : Effect s v) : v.departureKept := by
  cases e
  case loop =>
    split
    · exact State.departureKept_congr h (by simp)
    · exact State.departureKept.loopClear (by exact h)
  case plugsOut =>
    split
    · exact State.departureKept_congr h (by simp)
    · exact State.departureKept_congr (State.departureKept.bayPlugOut (s := { s with
        bay := { s.bay with plug := s.bay.plug.accept false } }) h) (by simp)
  case reidentifies => split <;> exact State.departureKept_congr h (by simp)
  case identifies x id hint _ _ =>
    have k : (linkComesUp (linkSucceeded s)).departureKept := State.departureKept_congr h (by simp)
    refine State.departureKept_congr (s := identifySucceeded id (linkComesUp (linkSucceeded s))) ?_ (by simp)
    unfold identifySucceeded
    split
    case h_3 => exact k
    all_goals exact State.departureKept.putIdentity (by exact k) id
  case rechecksLamps session early idle =>
    have k : (emptySheet s).departureKept := h
    unfold leaveReady
    split
    · next hr => exact k.changeDep (by rw [hr.1]; rfl) (by decide)
    · exact k
  case assigns fits free => exact h.acceptAssign _ fits free.2
  case cancels given =>
    unfold State.departureKept
    rw [enterNone_dep]
    refine Departure.wellKept.cancelled h (Departure.transitTimer_none h ?_)
    rcases given with e | e | e | e <;> rw [e] <;> decide
  case ticks =>
    obtain ⟨ha, hc, hrange, htimers⟩ := h
    refine ⟨ha, by simpa using hc, ?_, htimers⟩
    cases hd : s.dep.countdown with
    | none => simp [holdsOf]
    | some c =>
      have least : Config.lowestCountdown = -3600 := rfl
      simp only [hd, holdsOf, Bool.and_eq_true, decide_eq_true_eq, Option.map_some] at hrange ⊢
      omega
  case goesGreen settling =>
    unfold State.departureKept
    rw [enterHolding_dep]
    obtain ⟨ha, hc, hrange, hsettle, hkey, _, htransit⟩ :=
      Departure.wellKept.move (d := .holding) h (by rw [settling]; decide) (by decide) (by rw [settling]; decide)
    exact ⟨ha, hc, hrange, hsettle, hkey, by simp, htransit⟩
  case lapses holding =>
    unfold State.departureKept
    rw [enterLapsed_dep]
    exact Departure.wellKept.move h (by rw [holding]; decide) (by decide) (by rw [holding]; decide)
  case endsTransit => exact h.transitOver
  case finishes f _ => exact h.finishFrame f
  case hearsDepart n part _ _ =>
    unfold hearDepart
    dsimp only
    split
    · exact State.departureKept.hearSettling (State.departureKept_congr h (by simp)) _ _
    · exact State.departureKept_congr h (by simp)
  case holds => exact h
  case waives => exact h
  all_goals exact State.departureKept_congr h (by simp)

theorem kept_departureKept : Kept State.departureKept where
  queue _ _ h := h
  reset _ _ _ := by simp [State.departureKept, State.afterReset, Departure.wellKept, Departure.atReset, holdsOf]
  arrives s b h a := State.departureKept_congr h (by rw [a.eq.1])
  quietly _ _ h q := q.departureKept h
  event _ _ h e := (e.departureKept h).settle
  round s h := State.departureKept.settle (State.departureKept_congr h (by simp))
  trails s u h t := State.departureKept_congr h (by rw [t.eq.1])

/-- Settles O57: each move stops the timers of the state it leaves, and only entry to NONE gives up the assignment and the countdown. -/
theorem everyStepKeepsTheDepartureRecord : Obligations.EveryStepKeepsTheDepartureRecord :=
  fun _ _ h hs => kept_departureKept.step h hs

end Sys2Proof.Machine
end

section
/-! SUPPORT. The signal head and the lane through a step: what quiet effects and the clock leave of what clearance reads, and the tests of
R150, R151 and R153 taken to their end (R18, R106, R150 to R153). -/

namespace Sys2Proof.Machine

open Sys2Proof

/-! ### A change of a peer's entry that leaves a part alone -/

/-- What every entry gives, and a blank one does not, stays as it is when the change of an entry leaves it. -/
theorem filterMap_changeEntry {α : Type} (g : PeerEntry → Option α) {n : Nat} {f : PeerEntry → PeerEntry}
    (hf : ∀ e, g (f e) = g e) (blank : g (PeerEntry.blank n) = none) (l : List PeerEntry) :
    (changeEntry n f l).filterMap g = l.filterMap g := by
  induction l with
  | nil => simp [changeEntry, hf, blank]
  | cons e rest ih =>
    unfold changeEntry
    split
    · simp [List.filterMap_cons, hf]
    · split
      · rw [List.filterMap_cons, hf, blank]
      · rw [List.filterMap_cons, List.filterMap_cons, ih]

theorem freshHolding_eq_filterMap (p : Peers) :
    p.freshHolding = (p.entries.filterMap (·.depart)).any fun d => decide (d.state = .holding) := by
  unfold Peers.freshHolding
  induction p.entries with
  | nil => rfl
  | cons e rest ih =>
    rw [List.any_cons, List.filterMap_cons, ih]
    cases e.depart <;> simp

theorem lowestAir_eq_filterMap (l : List PeerEntry) :
    lowestAir l = (l.filterMap (·.air)).foldr (fun p v => some (v.elim p.temp (min p.temp))) none := by
  induction l with
  | nil => rfl
  | cons e rest ih =>
    unfold lowestAir
    rw [List.filterMap_cons, ih]
    cases e.air with
    | none => rfl
    | some p =>
      rw [List.foldr_cons]
      cases (rest.filterMap (·.air)).foldr (fun p v => some (v.elim p.temp (min p.temp))) none <;> rfl

/-- A heat claim leaves what the departure parts and the air parts give. -/
theorem changeEntry_heat_keeps (n : Nat) (part : Option HeatPart) (p : Peers) (now : Nat) :
    let q : Peers := { p with entries := changeEntry n (fun e => { e with heat := part }) p.entries }
    q.freshHolding = p.freshHolding ∧ q.contenders now = p.contenders now ∧ lowestAir q.entries = lowestAir p.entries := by
  have keeps : ∀ {α : Type} (g : PeerEntry → Option α), (∀ e : PeerEntry, g { e with heat := part } = g e) →
      g (PeerEntry.blank n) = none →
      (changeEntry n (fun e => { e with heat := part }) p.entries).filterMap g = p.entries.filterMap g :=
    fun g hg hb => filterMap_changeEntry g hg hb p.entries
  dsimp only
  refine ⟨?_, ?_, ?_⟩
  · rw [freshHolding_eq_filterMap, freshHolding_eq_filterMap, keeps _ (fun _ => rfl) rfl]
  · unfold Peers.contenders
    rw [keeps _ (fun _ => rfl) rfl]
  · rw [lowestAir_eq_filterMap, lowestAir_eq_filterMap, keeps _ (fun _ => rfl) rfl]

/-! ### What neither the clock nor a quiet effect moves -/

/-- What an arrival, a quiet effect and a trail leave of a state: everything that the conditions of clearance, of the heat controller, of the
lead and of the notice sources read. -/
structure Stands (a b : State) : Prop where
  start : b.start = a.start
  session : b.bay.session = a.bay.session
  occupancy : b.bay.occupancy = a.bay.occupancy
  aspect : b.bay.aspect = a.bay.aspect
  cache : b.link.cache = a.link.cache
  faults : b.faults = a.faults
  sheet : b.lamps.sheet = a.lamps.sheet
  lead : b.lead = a.lead
  heat : b.heat = a.heat
  dep : b.dep = a.dep
  sag : b.supply.sag = a.supply.sag
  detected : b.supply.detected = a.supply.detected
  lineFault : b.lineFault = a.lineFault
  conflict : b.line.conflict = a.line.conflict
  given : b.peers.lowestGiven = a.peers.lowestGiven
  lowest : lowestAir b.peers.entries = lowestAir a.peers.entries
  freshHolding : b.peers.freshHolding = a.peers.freshHolding
  contenders : ∀ now, b.peers.contenders now = a.peers.contenders now
  later : a.now ≤ b.now

theorem Stands.of_eq {a b : State} (start : b.start = a.start := by simp) (session : b.bay.session = a.bay.session := by simp)
    (occupancy : b.bay.occupancy = a.bay.occupancy := by simp) (aspect : b.bay.aspect = a.bay.aspect := by simp)
    (cache : b.link.cache = a.link.cache := by simp) (faults : b.faults = a.faults := by simp)
    (sheet : b.lamps.sheet = a.lamps.sheet := by simp) (lead : b.lead = a.lead := by simp)
    (heat : b.heat = a.heat := by simp) (dep : b.dep = a.dep := by simp) (sag : b.supply.sag = a.supply.sag := by simp)
    (detected : b.supply.detected = a.supply.detected := by simp) (status : b.line.status = a.line.status := by simp)
    (conflict : b.line.conflict = a.line.conflict := by simp) (peers : b.peers = a.peers := by simp)
    (later : a.now ≤ b.now := by simp) : Stands a b where
  start := start
  session := session
  occupancy := occupancy
  aspect := aspect
  cache := cache
  faults := faults
  sheet := sheet
  lead := lead
  heat := heat
  dep := dep
  sag := sag
  detected := detected
  lineFault := by unfold State.lineFault; rw [status]
  conflict := conflict
  given := by rw [peers]
  lowest := by rw [peers]
  freshHolding := by rw [peers]
  contenders := fun _ => by rw [peers]
  later := later

theorem Arrives.stands {s b : State} (h : Arrives s b) : Stands s b := by
  cases h
  case clock => exact .of_eq
  case frame => exact .of_eq (by rfl) (by rfl) (by rfl) (by rfl) (by rfl) (by rfl) (by rfl) (by rfl) (by rfl) (by rfl)
                  (by rfl) (by rfl) (by rfl) (by rfl) (by rfl) (Nat.le_max_left _ _)

theorem Trails.stands {s u : State} (h : Trails s u) : Stands s u := by
  cases h <;> exact .of_eq

theorem beginMeasure_keeps (p : LampStep) (current : Nat) (s : State) :
    (beginMeasure p current s) = { s with lamps := (beginMeasure p current s).lamps } ∧
      (beginMeasure p current s).lamps.sheet = s.lamps.sheet := by
  unfold beginMeasure; dsimp only; split <;> exact ⟨rfl, rfl⟩

theorem Quiet.stands {s v : State} (q : Quiet s v) : Stands s v := by
  cases q
  case beginsMeasure p current _ _ =>
    obtain ⟨e, k⟩ := beginMeasure_keeps p current s
    rw [e]
    exact .of_eq (sheet := k)
  case probes =>
    have same : State.lineFault { s with line := { s.line with
        quietTimer := none, status := if s.line.status = .quiet then .probing else s.line.status } } = s.lineFault := by
      unfold State.lineFault
      dsimp only
      split
      · next h => rw [h]; rfl
      · rfl
    exact { Stands.of_eq (a := s) (b := s) with lineFault := same }
  case hearsHeat n part _ _ =>
    obtain ⟨fresh, _, lowest⟩ := changeEntry_heat_keeps n (some part) s.peers 0
    exact { Stands.of_eq (a := s) (b := s) with
      freshHolding := fresh, lowest := lowest
      contenders := fun now => (changeEntry_heat_keeps n (some part) s.peers now).2.1 }
  all_goals exact .of_eq

end Sys2Proof.Machine
end

section
/-! SUPPORT. Clearance's tests to their end: one move as a function of four conditions that the moves leave, the end three moves reach, and
the invariants of the head and the lane over every step (R18, R150, R151, R153). -/

namespace Sys2Proof.Machine

open Sys2Proof

/-! ### One move -/

/-- The line conditions hold, no depot hold is set and no fresh part says HOLDING (R151, R153). -/
def State.laneFree (s : State) : Bool := s.lineConditions && !s.dep.hold && !s.peers.freshHolding

/-- What lets a READY bay settle beyond its coach conditions (R151). -/
def State.mayEnter (s : State) : Bool :=
  s.laneFree && s.countdownAtMost s.start.image.allowance && s.dep.countdown.any s.ranksFirst

/-- One move over the coach conditions, the 600 s, the free lane and the leave to enter it (R150, R151, R153). -/
def laneStep (coach near free enter : Bool) (d : DepState) : DepState :=
  match d with
  | .assigned => if coach && near then .ready else .assigned
  | .ready => if !coach then .assigned else if enter then .settling else .ready
  | .settling => if !coach then .assigned else if !free then .ready else .settling
  | d => d

/-- After three moves a fourth stays: from ASSIGNED over READY to SETTLING, or back. -/
theorem laneStep_thrice (coach near free enter : Bool) (h : enter = true → free = true) (d : DepState) :
    let step := laneStep coach near free enter
    step (step (step (step d))) = step (step (step d)) := by
  revert h
  revert coach near free enter
  cases d <;> decide

/-- One move by the conditions of the state. -/
def State.laneMove (s : State) : DepState → DepState :=
  laneStep s.coachConditions (s.countdownAtMost 600) s.laneFree s.mayEnter

theorem State.mayEnter_of_none {s : State} (h : s.dep.countdown = none) : s.mayEnter = false := by
  simp [State.mayEnter, h]

theorem State.mayEnter_of_some {s : State} {c : Int} (h : s.dep.countdown = some c) :
    s.mayEnter = (s.lineConditions && decide (c ≤ (s.start.image.allowance : Int)) && !s.dep.hold && !s.peers.freshHolding &&
      s.ranksFirst c) := by
  unfold State.mayEnter State.laneFree State.countdownAtMost
  rw [h]
  dsimp only [Option.any_some]
  cases s.lineConditions <;> cases s.dep.hold <;> cases s.peers.freshHolding <;> simp

theorem clearanceMove_state (s : State) : (clearanceMove s).dep.state = s.laneMove s.dep.state := by
  unfold State.laneMove laneStep clearanceMove
  cases hs : s.dep.state <;> dsimp only
  case assigned =>
    rw [show Config.readyWindow = 600 from rfl]
    split <;> simp [hs]
  case ready =>
    split
    · simp
    · cases hc : s.dep.countdown with
      | none => simp [State.mayEnter_of_none hc, hs]
      | some c => rw [State.mayEnter_of_some hc]; dsimp only; split <;> simp [hs]
  case settling =>
    have free : (s.peers.freshHolding || s.dep.hold || !s.lineConditions) = !s.laneFree := by
      unfold State.laneFree
      cases s.lineConditions <;> cases s.dep.hold <;> cases s.peers.freshHolding <;> rfl
    rw [free]
    split
    · simp
    · split <;> simp [hs]
  all_goals exact hs

/-- The conditions of a move, which reactions that leave the sheet, the faults, the lead, the heat state and the table leave too. -/
theorem Reacted.laneMove {a b : State} (h : Reacted a b) (coach : b.coachConditions = a.coachConditions)
    (peers : b.peers = a.peers) : b.laneMove = a.laneMove := by
  have near : ∀ limit, b.countdownAtMost limit = a.countdownAtMost limit := fun limit => by
    unfold State.countdownAtMost; rw [h.countdown]
  have free : b.laneFree = a.laneFree := by unfold State.laneFree; rw [h.lineConditions, h.hold, peers]
  have rank : b.ranksFirst = a.ranksFirst := by
    funext c
    unfold State.ranksFirst
    rw [peers, h.now, h.ownNumber]
  unfold State.laneMove State.mayEnter
  rw [coach, near, free, near, h.countdown, h.start, rank]

theorem clearanceMove_laneMove (s : State) : (clearanceMove s).laneMove = s.laneMove :=
  (Reacted.refl s).clearanceMove.laneMove (clearanceMove_coachConditions s) (by simp)

theorem clearanceTests_laneMove (s : State) : (clearanceTests s).laneMove = s.laneMove := by
  simp only [clearanceTests, clearanceMove_laneMove]

theorem State.laneFree_of_mayEnter {s : State} (h : s.mayEnter = true) : s.laneFree = true := by
  simp only [State.mayEnter, Bool.and_eq_true] at h
  exact h.1.1

/-- The tests have been taken to their end. -/
theorem clearanceTests_rests (s : State) :
    (clearanceTests s).laneMove (clearanceTests s).dep.state = (clearanceTests s).dep.state := by
  rw [clearanceTests_laneMove]
  unfold clearanceTests
  rw [clearanceMove_state, clearanceMove_state, clearanceMove_state, clearanceMove_laneMove, clearanceMove_laneMove]
  exact laneStep_thrice _ _ _ _ State.laneFree_of_mayEnter _

/-- A state that no move leaves is one in which what the rules allow has been taken. -/
theorem State.laneTaken_of_rests {s : State} (h : s.laneMove s.dep.state = s.dep.state) : s.laneTaken := by
  unfold State.laneMove laneStep at h
  refine ⟨fun assigned => ?_, fun ready => ?_⟩
  · rw [assigned] at h
    rintro ⟨coach, near⟩
    simp [coach, near] at h
  · rw [ready] at h
    have coach : s.coachConditions = true := by
      by_contra no
      simp [Bool.eq_false_iff.mpr no] at h
    refine ⟨coach, ?_⟩
    rintro ⟨line, near, hold, fresh, rank⟩
    have enter : s.mayEnter = true := by
      unfold State.mayEnter State.laneFree
      cases hc : s.dep.countdown with
      | none => simp [State.countdownAtMost, hc] at near
      | some c => simpa [line, near, hold, fresh, hc] using rank
    simp [coach, enter] at h

/-! ### The end of an event -/

theorem startPass_coachConditions (s : State) : (startPass s).coachConditions = s.coachConditions := by
  have blocks : (startPass s).faults.blocks = s.faults.blocks := by
    unfold startPass raiseFaultNext
    split
    · split <;> exact Faults.beginPass_blocks _
    · rfl
  exact (Reacted.refl s).startPass.coachConditions (by simp) blocks (by simp) (by simp)

theorem arbitrate_sheet (s : State) : (arbitrate s).lamps.sheet = s.lamps.sheet := by
  unfold arbitrate
  split
  · rfl
  · split
    · rfl
    · dsimp only; split <;> rfl

/-- The last steps of an event leave the conditions of a move. -/
theorem last_laneMove (s : State) : (driveHead (giveConditions (arbitrate (startPass s)))).laneMove = s.laneMove := by
  have pass : (startPass s).laneMove = s.laneMove :=
    (Reacted.refl s).startPass.laneMove (startPass_coachConditions s) (by simp)
  have last : Reacted (startPass s) (driveHead (giveConditions (arbitrate (startPass s)))) :=
    (Reacted.refl _).arbitrate.giveConditions.driveHead
  rw [← pass]
  exact last.laneMove (last.coachConditions (by simp [arbitrate_sheet]) (by simp) (by simp) (by simp)) (by simp)

theorem settle_laneTaken (s : State) : (settle s).laneTaken := by
  have state : (settle s).dep.state = (react (react s)).dep.state := by simp [settle_eq]
  apply State.laneTaken_of_rests
  rw [state, settle_eq, last_laneMove, react_eq (react s)]
  exact clearanceTests_rests _

/-! ### What stands while nothing settles -/

theorem Stands.coachConditions {a b : State} (h : Stands a b) : b.coachConditions = a.coachConditions := by
  unfold State.coachConditions State.identityHolds State.heatHolds State.identity
  rw [h.session, h.dep, h.sheet, h.faults, h.lead, h.heat, h.start]

theorem Stands.lineConditions {a b : State} (h : Stands a b) : b.lineConditions = a.lineConditions := by
  unfold State.lineConditions; rw [h.lineFault, h.conflict]

/-- A value heard falls as time passes. -/
theorem ageAdjusted_anti {now later heard : Nat} (h : now ≤ later) (v : Int) :
    ageAdjusted later heard v ≤ ageAdjusted now heard v := by
  unfold ageAdjusted
  have : (now - heard) / 1000 ≤ (later - heard) / 1000 := Nat.div_le_div_right (Nat.sub_le_sub_right h heard)
  omega

theorem mem_insertContender {c x : Nat × ClaimState × Int} {l : List (Nat × ClaimState × Int)} :
    x ∈ insertContender c l ↔ x = c ∨ x ∈ l := by
  induction l with
  | nil => simp [insertContender]
  | cons d rest ih =>
    unfold insertContender
    split
    · simp
    · simp only [List.mem_cons, ih]; tauto

theorem Peers.mem_contenders {now : Nat} {p : Peers} {c : Nat × ClaimState × Int} :
    c ∈ p.contenders now ↔ ∃ e ∈ p.entries, e.contender now = some c := by
  unfold Peers.contenders
  rw [← List.mem_filterMap]
  induction p.entries.filterMap (·.contender now) with
  | nil => simp
  | cons d rest ih => rw [List.foldr_cons, mem_insertContender, ih, List.mem_cons]

/-- The own key ranks first only if it ranked first before: the contenders' values fall with time (R102, R106). -/
theorem Stands.ranksFirst {a b : State} (h : Stands a b) {c : Int} (k : b.ranksFirst c = true) : a.ranksFirst c = true := by
  have own : b.ownNumber = a.ownNumber := by unfold State.ownNumber; rw [h.start]
  unfold State.ranksFirst at k ⊢
  rw [List.all_eq_true] at k ⊢
  intro x hx
  obtain ⟨e, he, hc⟩ := Peers.mem_contenders.mp hx
  unfold PeerEntry.contender at hc
  cases hd : e.depart with
  | none => simp [hd] at hc
  | some d =>
    simp only [hd] at hc
    split at hc
    · next hstate =>
      cases hc
      have later : (e.station, d.state, ageAdjusted b.now d.heard d.countdown) ∈ b.peers.contenders b.now := by
        rw [h.contenders, Peers.mem_contenders]
        exact ⟨e, he, by simp [PeerEntry.contender, hd, hstate]⟩
      have first := k _ later
      have fallen := ageAdjusted_anti (heard := d.heard) h.later d.countdown
      rw [Bool.not_eq_true', Bool.eq_false_iff, ne_eq, keyBefore_iff] at first ⊢
      rw [← own]
      intro hb
      refine first ?_
      dsimp only at hb ⊢
      omega
    · cases hc

theorem Stands.laneTaken {a b : State} (h : Stands a b) (k : a.laneTaken) : b.laneTaken := by
  obtain ⟨assigned, ready⟩ := k
  have near : ∀ limit, b.countdownAtMost limit = a.countdownAtMost limit := fun limit => by
    unfold State.countdownAtMost; rw [h.dep]
  refine ⟨fun hb => ?_, fun hb => ?_⟩
  · rw [h.coachConditions, near]
    exact assigned (by rwa [h.dep] at hb)
  · obtain ⟨coach, shut⟩ := ready (by rwa [h.dep] at hb)
    refine ⟨by rwa [h.coachConditions], fun hall => shut ?_⟩
    rw [h.lineConditions, near, h.start, h.dep, h.freshHolding] at hall
    obtain ⟨line, allowance, hold, fresh, rank⟩ := hall
    exact ⟨line, allowance, hold, fresh, h.ranksFirst rank⟩

/-- The head on its aspect, and SETTLING only in an open lane. -/
def State.headAndLane (s : State) : Prop := s.headRight ∧ s.laneSafe

theorem Stands.headAndLane {a b : State} (h : Stands a b) (k : a.headAndLane) : b.headAndLane := by
  obtain ⟨head, lane⟩ := k
  refine ⟨by unfold State.headRight; rw [h.aspect, h.dep]; exact head, fun hs => ?_⟩
  rw [h.coachConditions, h.lineConditions, h.dep, h.freshHolding]
  exact lane (by rwa [h.dep] at hs)

theorem kept_headAndLane : Kept State.headAndLane where
  queue _ _ h := h
  reset _ _ _ := ⟨rfl, by simp [State.laneSafe, State.afterReset, Departure.atReset]⟩
  arrives _ _ h a := a.stands.headAndLane h
  quietly _ _ h q := q.stands.headAndLane h
  event _ v _ _ := ⟨settle_headRight v, settle_laneSafe v⟩
  round s _ := ⟨settle_headRight _, settle_laneSafe _⟩
  trails _ _ h t := t.stands.headAndLane h

theorem kept_laneTaken : Kept State.laneTaken where
  queue _ _ h := h
  reset _ _ _ := by simp [State.laneTaken, State.afterReset, Departure.atReset]
  arrives _ _ h a := a.stands.laneTaken h
  quietly _ _ h q := q.stands.laneTaken h
  event _ v _ _ := settle_laneTaken v
  round s _ := settle_laneTaken _
  trails _ _ h t := t.stands.laneTaken h

theorem aspectOf_eq_green_iff {d : DepState} : aspectOf d = .green ↔ d = .holding := by cases d <;> simp [aspectOf]

/-- Settles O56: every event that may move what clearance reads ends with the tests taken to their end and the head driven, and what does not
end so leaves what they read; the clock alone can only take the first rank away. -/
theorem everyStepKeepsTheHeadAndTheLane : Obligations.EveryStepKeepsTheHeadAndTheLane := by
  refine fun s u hs => ⟨fun head lane => ?_, fun taken => kept_laneTaken.step taken hs⟩
  obtain ⟨head', lane'⟩ := kept_headAndLane.step ⟨head, lane⟩ hs
  refine ⟨head', lane', ?_⟩
  rw [head', aspectOf_eq_green_iff]

end Sys2Proof.Machine
end

section
/-! SUPPORT. The lamp feed through a step: what each stage's operations make of the feed and the step's timers, and the invariant of the feed
over every step (R66, R67, R74 to R81). -/

namespace Sys2Proof.Machine

open Sys2Proof

/-! ### The lamps' record after the operations of a step -/

/-- The sheet with the verdict of step `n` written (R72). -/
def Sheet.write (n : Nat) (v : Verdict) (current : Nat) (sh : Sheet) : Sheet :=
  { sh with entries := sh.entries.map fun e =>
      if e.step = n then { e with result := some (v, if v = .incomplete then 0 else current) } else e }

@[simp] theorem offerFault_lamps (o : Offer) (s : State) : (offerFault o s).lamps = s.lamps := by simp

@[simp] theorem recordVerdict_lamps (n : Nat) (v : Verdict) (current : Nat) (s : State) :
    (recordVerdict n v current s).lamps = { s.lamps with sheet := s.lamps.sheet.write n v current } := by
  unfold recordVerdict
  dsimp only
  split
  · rfl
  · split
    · rw [offerFault_lamps]; rfl
    · rfl

/-- The sheet with the steps from `n` on written as INCOMPLETE. -/
def Sheet.writeIncomplete : (left : Nat) → (n : Nat) → Sheet → Sheet
  | 0, _, sh => sh
  | left + 1, n, sh => writeIncomplete left (n + 1) (sh.write n .incomplete 0)

@[simp] theorem recordIncomplete_lamps (left n : Nat) (s : State) :
    (recordIncomplete left n s).lamps = { s.lamps with sheet := s.lamps.sheet.writeIncomplete left n } := by
  induction left generalizing n s with
  | zero => rfl
  | succ left ih => rw [recordIncomplete, ih, recordVerdict_lamps]; rfl

@[simp] theorem completeCheck_lamps (s : State) :
    (completeCheck s).lamps =
      { s.lamps with sheet := { s.lamps.sheet with state := .complete }, running := false, step := none, stage := none } := by
  simp [completeCheck]

/-- The lamps' record with no check running, the feed open and every timer of a step stopped. -/
def Lamps.stopped (l : Lamps) (sheet : Sheet) : Lamps :=
  { l with running := false, step := none, stage := none, failures := 0, begunAgain := false, sagRetry := false,
           shortTaken := false, feed := false, sheet := sheet, measured := none, warmTimer := none, meanTimer := none,
           watchTimer := none, linkWaitTimer := none, capture := none, offOwed := false }

/-- A check ended on link failure: this step and those after it INCOMPLETE, the sheet COMPLETE (R75, R79). -/
theorem endCheckIncomplete_lamps {s : State} (h : s.lamps.running = true) :
    (endCheckIncomplete s).lamps = s.lamps.stopped
      { s.lamps.sheet.writeIncomplete (s.lamps.program.length + 1 - s.lamps.step.getD 1) (s.lamps.step.getD 1) with
        state := .complete } := by
  unfold endCheckIncomplete
  rw [if_pos h]
  simp [Lamps.stopped]

theorem endCheckIncomplete_idle {s : State} (h : s.lamps.running = false) : endCheckIncomplete s = s := by
  unfold endCheckIncomplete; simp [h]

/-- A check abandoned: the recorded steps stand, the sheet PARTIAL (R80, R81). -/
theorem abandonCheck_lamps {s : State} (h : s.lamps.running = true) :
    (abandonCheck s).lamps = s.lamps.stopped { s.lamps.sheet with state := .partly } := by
  unfold abandonCheck
  rw [if_pos h]
  simp [Lamps.stopped]

theorem abandonCheck_idle {s : State} (h : s.lamps.running = false) : abandonCheck s = s := by
  unfold abandonCheck; simp [h]

/-! ### The feed -/

theorem State.feedSafe_congr {s v : State} (h : s.feedSafe) (hl : v.lamps = s.lamps) (hs : v.supply.sag = s.supply.sag) :
    v.feedSafe := by
  unfold State.feedSafe; rwa [hl, hs]

/-- The feed open, the short watch ended, and no timer of a step running. -/
def Lamps.dark (l : Lamps) : Prop :=
  l.feed = false ∧ l.watchTimer = none ∧ l.warmTimer = none ∧ l.meanTimer = none ∧ l.capture = none ∧ l.linkWaitTimer = none

/-- With the feed open and no timer running, only a step clearing a loose channel is left to ask about. -/
theorem Lamps.dark.feedSafe {s : State} (h : s.lamps.dark)
    (clear : s.lamps.running = true → s.lamps.stage = some .clearOff → s.lamps.shortTaken = false ∧ s.supply.sag = false) :
    s.feedSafe := by
  obtain ⟨feed, watch, warm, mean, capture, wait⟩ := h
  exact ⟨by simp [feed], clear, by simp [watch], by simp [warm], by simp [mean], by simp [capture], by simp [wait]⟩

theorem Lamps.stopped_feedSafe {s : State} {l : Lamps} {sheet : Sheet} (h : s.lamps = l.stopped sheet) : s.feedSafe :=
  Lamps.dark.feedSafe (by rw [h]; exact ⟨rfl, rfl, rfl, rfl, rfl, rfl⟩) (by rw [h]; simp [Lamps.stopped])

/-- A timer that runs only in another state than this is stopped. -/
theorem eq_none_of_isSome_imp {α : Type} {o : Option α} {p : Prop} (h : o.isSome = true → p) (n : ¬p) : o = none := by
  cases o with
  | none => rfl
  | some _ => exact absurd (h rfl) n

/-- The warm timer, the measurements and the link wait are stopped. -/
def Lamps.untimed (l : Lamps) : Prop :=
  l.warmTimer = none ∧ l.meanTimer = none ∧ l.capture = none ∧ l.linkWaitTimer = none

theorem State.feedSafe.linkWait {s : State} (h : s.feedSafe) :
    s.lamps.linkWaitTimer.isSome = true → s.lamps.running = true ∧ s.lamps.stage = some .linkWait := h.2.2.2.2.2.2

theorem State.feedSafe.clearing {s : State} (h : s.feedSafe) :
    s.lamps.running = true → s.lamps.stage = some .clearOff → s.lamps.shortTaken = false ∧ s.supply.sag = false := h.2.1

/-- Outside WARM, MEASURE and LINK_WAIT no timer of a step runs. -/
theorem State.feedSafe.untimed {s : State} (h : s.feedSafe) (warm : s.lamps.stage ≠ some .warm)
    (measure : s.lamps.stage ≠ some .measure) (wait : s.lamps.stage ≠ some .linkWait) : s.lamps.untimed := by
  obtain ⟨_, _, _, hwarm, hmean, hcapture, hwait⟩ := h
  exact ⟨eq_none_of_isSome_imp hwarm fun k => warm k.2, eq_none_of_isSome_imp hmean fun k => measure k.2,
    eq_none_of_isSome_imp hcapture fun k => measure k.2, eq_none_of_isSome_imp hwait fun k => wait k.2⟩

/-- Outside a fed stage the feed is open, and the short watch has ended. -/
theorem State.feedSafe.feed_open {s : State} (h : s.feedSafe) (unfed : s.lamps.stage.any Stage.fed = false) :
    s.lamps.feed = false ∧ s.lamps.watchTimer = none := by
  obtain ⟨hfeed, _, hwatch, _⟩ := h
  have feed : s.lamps.feed = false := by
    by_contra no
    obtain ⟨_, _, _, fed⟩ := hfeed (by simpa using no)
    rw [fed] at unfed
    cases unfed
  exact ⟨feed, eq_none_of_isSome_imp hwatch (by simp [feed])⟩

/-- In a stage that is neither fed nor LINK_WAIT everything is dark. -/
theorem State.feedSafe.dark {s : State} (h : s.feedSafe) (unfed : s.lamps.stage.any Stage.fed = false)
    (wait : s.lamps.stage ≠ some .linkWait) : s.lamps.dark := by
  obtain ⟨feed, watch⟩ := h.feed_open unfed
  obtain ⟨warm, mean, capture, wait⟩ := h.untimed (by rintro e; rw [e] at unfed; cases unfed)
    (by rintro e; rw [e] at unfed; cases unfed) wait
  exact ⟨feed, watch, warm, mean, capture, wait⟩

/-- With no check running everything is dark. -/
theorem State.feedSafe.dark_of_idle {s : State} (h : s.feedSafe) (idle : s.lamps.running = false) : s.lamps.dark := by
  obtain ⟨hfeed, _, hwatch, hwarm, hmean, hcapture, hwait⟩ := h
  have stopped : ∀ {α : Type} {o : Option α} {p : Prop}, (o.isSome = true → s.lamps.running = true ∧ p) → o = none :=
    fun k => eq_none_of_isSome_imp k (by simp [idle])
  have feed : s.lamps.feed = false := by
    by_contra no
    have on := (hfeed (by simpa using no)).1
    rw [idle] at on
    cases on
  exact ⟨feed, eq_none_of_isSome_imp hwatch (by simp [feed]), stopped hwarm, stopped hmean, stopped hcapture, stopped hwait⟩

/-! ### Ending a check -/

theorem State.feedSafe.endCheckIncomplete {s : State} (h : s.feedSafe) : (endCheckIncomplete s).feedSafe := by
  cases hr : s.lamps.running with
  | true => exact Lamps.stopped_feedSafe (endCheckIncomplete_lamps hr)
  | false => rw [endCheckIncomplete_idle hr]; exact h

theorem State.feedSafe.abandonCheck {s : State} (h : s.feedSafe) : (abandonCheck s).feedSafe := by
  cases hr : s.lamps.running with
  | true => exact Lamps.stopped_feedSafe (abandonCheck_lamps hr)
  | false => rw [abandonCheck_idle hr]; exact h

theorem State.feedSafe.raiseLampSet {s : State} (h : s.feedSafe) (channel : Nat) (on : Bool) :
    (raiseLampSet channel on s).feedSafe := by
  unfold Machine.raiseLampSet
  split
  · exact State.feedSafe_congr h (by simp) (by simp)
  · split
    · exact State.feedSafe.endCheckIncomplete h
    · exact State.feedSafe.abandonCheck h

/-! ### The stages -/

/-- A running step goes to SWITCH_OFF with the feed as it stands, its timers stopped. -/
theorem State.feedSafe.enterSwitchOff {s : State} (h : s.feedSafe) (untimed : s.lamps.untimed) : (enterSwitchOff s).feedSafe := by
  unfold Machine.enterSwitchOff
  split
  · obtain ⟨hfeed, _, hwatch, _⟩ := h
    obtain ⟨warm, mean, capture, wait⟩ := untimed
    refine State.feedSafe.raiseLampSet ?_ _ _
    refine ⟨fun on => ?_, by simp, hwatch, by simp [warm], by simp [mean], by simp [capture], by simp [wait]⟩
    obtain ⟨running, short, sag, _⟩ := hfeed on
    exact ⟨running, short, sag, rfl⟩
  · exact h

/-- A running step with no short taken and no sag present closes the feed. -/
theorem Lamps.untimed.enterFeedOn {s : State} (untimed : s.lamps.untimed) (running : s.lamps.running = true)
    (short : s.lamps.shortTaken = false) (sag : s.supply.sag = false) (h : s.feedSafe) : (enterFeedOn s).feedSafe := by
  unfold Machine.enterFeedOn
  split
  · obtain ⟨warm, mean, capture, wait⟩ := untimed
    refine State.feedSafe.raiseLampSet ?_ _ _
    exact ⟨fun _ => ⟨running, short, sag, rfl⟩, by simp, fun _ => rfl, by simp [warm], by simp [mean], by simp [capture],
      by simp [wait]⟩
  · exact h

theorem Lamps.dark.untimed {l : Lamps} (h : l.dark) : l.untimed := by
  obtain ⟨_, _, warm, mean, capture, wait⟩ := h
  exact ⟨warm, mean, capture, wait⟩

/-- A step starts from the dark. -/
theorem Lamps.dark.startStep {s : State} (dark : s.lamps.dark) (running : s.lamps.running = true) (sag : s.supply.sag = false)
    (clear : s.lamps.stage = some .clearOff → s.lamps.shortTaken = false) : (startStep s).feedSafe := by
  unfold Machine.startStep
  split
  · exact State.feedSafe.enterSwitchOff (dark.feedSafe fun _ e => ⟨clear e, sag⟩) dark.untimed
  · next short =>
    have short : s.lamps.shortTaken = false := by simpa using short
    dsimp only
    split
    · exact State.feedSafe.raiseLampSet (by exact Lamps.dark.feedSafe dark fun _ _ => ⟨short, sag⟩) _ _
    · exact Lamps.untimed.enterFeedOn (by exact dark.untimed) running short sag (Lamps.dark.feedSafe dark fun _ _ => ⟨short, sag⟩)

theorem Lamps.dark.beginStep {s : State} (dark : s.lamps.dark) (running : s.lamps.running = true)
    (short : s.lamps.stage = some .clearOff → s.lamps.shortTaken = false) : (beginStep s).feedSafe := by
  unfold Machine.beginStep
  split
  · exact Lamps.dark.feedSafe dark (by simp)
  · next sag => exact dark.startStep running (by simpa using sag) short

theorem Lamps.dark.finishStep {s : State} (dark : s.lamps.dark) (running : s.lamps.running = true) : (finishStep s).feedSafe := by
  obtain ⟨feed, watch, warm, mean, capture, wait⟩ := dark
  unfold Machine.finishStep
  dsimp only
  split
  · exact Lamps.dark.beginStep ⟨by simpa using feed, by simpa using watch, by simpa using warm, by simpa using mean,
      by simpa using capture, by simpa using wait⟩ (by simpa using running) (by simp)
  · exact Lamps.dark.feedSafe ⟨by simpa using feed, by simpa using watch, by simpa using warm, by simpa using mean,
      by simpa using capture, by simpa using wait⟩ (by simp)

theorem State.feedSafe.startCheck {s : State} (h : s.feedSafe) : (startCheck s).feedSafe := by
  unfold Machine.startCheck
  split
  · next allowed =>
    have idle : s.lamps.running = false := by simp_all [State.checkAllowed]
    obtain ⟨feed, watch, warm, mean, capture, wait⟩ := h.dark_of_idle idle
    dsimp only
    split
    · exact Lamps.dark.feedSafe ⟨by simpa using feed, by simpa using watch, by simpa using warm, by simpa using mean,
        by simpa using capture, by simpa using wait⟩ (by simp)
    · exact Lamps.dark.beginStep ⟨by simpa using feed, by simpa using watch, by simpa using warm, by simpa using mean,
        by simpa using capture, by simpa using wait⟩ (by simp) (by simp)
  · exact h

/-! ### Results of LAMP_SET -/

theorem State.feedSafe.advanceStage {s : State} (h : s.feedSafe) (running : s.lamps.running = true) : (advanceStage s).feedSafe := by
  unfold Machine.advanceStage
  split
  · next stage =>
    obtain ⟨short, sag⟩ := h.clearing running stage
    exact (h.untimed (by simp [stage]) (by simp [stage]) (by simp [stage])).enterFeedOn running short sag h
  · next stage =>
    have untimed := h.untimed (by simp [stage]) (by simp [stage]) (by simp [stage])
    split
    · exact h.enterSwitchOff untimed
    · obtain ⟨hfeed, _, hwatch, _⟩ := h
      obtain ⟨_, mean, capture, wait⟩ := untimed
      refine ⟨fun on => ?_, by simp, hwatch, fun _ => ⟨running, rfl⟩, by simp [mean], by simp [capture], by simp [wait]⟩
      obtain ⟨_, short, sag, _⟩ := hfeed on
      exact ⟨running, short, sag, rfl⟩
  · next stage =>
    obtain ⟨warm, mean, capture, wait⟩ := h.untimed (by simp [stage]) (by simp [stage]) (by simp [stage])
    exact Lamps.dark.finishStep (s := openFeed s) ⟨rfl, rfl, warm, mean, capture, wait⟩ running
  · exact h

theorem State.feedSafe.payOff {s : State} (h : s.feedSafe) : (payOff s).feedSafe := by
  unfold Machine.payOff
  split
  · exact State.feedSafe_congr (s := { s with lamps := { s.lamps with offOwed := false } }) h (by simp) (by simp)
  · exact h

theorem State.feedSafe.lampAcknowledged {s : State} (h : s.feedSafe) (channel : Nat) (on live : Bool) :
    (lampAcknowledged channel on live s).feedSafe := by
  have k : (clearLoose channel on s).feedSafe := by unfold clearLoose; split <;> exact h
  unfold Machine.lampAcknowledged
  dsimp only
  split
  · next hr => exact State.feedSafe.advanceStage k (by simp only [Bool.and_eq_true] at hr; exact hr.2)
  · exact State.feedSafe.payOff k

theorem State.feedSafe.raiseAgain {s : State} (h : s.feedSafe) (channel : Nat) (on : Bool) : (raiseAgain channel on s).feedSafe := by
  unfold Machine.raiseAgain
  split
  · next stage =>
    split
    · exact h.enterSwitchOff (h.untimed (by simp [stage]) (by simp [stage]) (by simp [stage]))
    · exact h.raiseLampSet _ _
  · exact h.raiseLampSet _ _
  · exact h.raiseLampSet _ _
  · exact h

theorem State.feedSafe.enterLinkWait {s : State} (running : s.lamps.running = true) : (enterLinkWait s).feedSafe := by
  unfold State.feedSafe
  simp [Machine.enterLinkWait, running]

theorem State.feedSafe.lampFailed {s : State} (h : s.feedSafe) (channel : Nat) (on live : Bool) :
    (lampFailed channel on live s).feedSafe := by
  unfold Machine.lampFailed
  split
  · next hr =>
    have running : s.lamps.running = true := by simp only [Bool.and_eq_true] at hr; exact hr.2
    split
    case h_5 => exact h
    all_goals
      dsimp only
      split
      · exact State.feedSafe.enterLinkWait running
      · exact State.feedSafe.raiseAgain (by exact h) _ _
  · exact State.feedSafe.payOff h

/-! ### Measuring, link wait and sag -/

theorem State.feedSafe.measureEnds {s : State} (h : s.feedSafe) (measuring : s.lamps.stage = some .measure) (v : Verdict)
    (current : Nat) : (measureEnds v current s).feedSafe := by
  obtain ⟨hfeed, hclear, hwatch, _, _, _, hwait⟩ := h
  have wait : s.lamps.linkWaitTimer = none := eq_none_of_isSome_imp hwait (by simp [measuring])
  exact State.feedSafe.enterSwitchOff ⟨hfeed, hclear, hwatch, by simp [stopStepTimers], by simp [stopStepTimers],
    by simp [stopStepTimers], by simp [stopStepTimers, wait]⟩ ⟨rfl, rfl, rfl, wait⟩

theorem State.feedSafe.shortReading {s : State} (h : s.feedSafe) (watch : s.lamps.watchTimer.isSome = true) (mean : Nat) :
    (shortReading mean s).feedSafe := by
  obtain ⟨hfeed, _, hwatch, _, _, _, hwait⟩ := id h
  obtain ⟨running, _, _, fed⟩ := hfeed (hwatch watch)
  have wait : s.lamps.linkWaitTimer = none :=
    eq_none_of_isSome_imp hwait fun k => by rw [k.2] at fed; cases fed
  have dark : (openFeed (stopStepTimers { s with lamps :=
      { s.lamps with shortTaken := true, measured := some (.short, mean) } })).lamps.dark := ⟨rfl, rfl, rfl, rfl, rfl, wait⟩
  have safe := dark.feedSafe fun _ e => by
    have e : s.lamps.stage = some .clearOff := e
    rw [e] at fed
    cases fed
  unfold Machine.shortReading
  dsimp only
  split
  case h_4 => exact safe
  all_goals
    split
    · exact safe
    · exact State.feedSafe.enterSwitchOff safe dark.untimed

theorem State.feedSafe.linkWaitOver {s : State} (h : s.feedSafe) (runs : s.lamps.linkWaitTimer.isSome = true) :
    (linkWaitOver s).feedSafe := by
  obtain ⟨running, stage⟩ := h.linkWait runs
  obtain ⟨feed, watch⟩ := h.feed_open (by simp [stage, Stage.fed])
  obtain ⟨_, _, _, hwarm, hmean, hcapture, _⟩ := h
  have dark : Lamps.dark { s.lamps with linkWaitTimer := none } :=
    ⟨feed, watch, eq_none_of_isSome_imp hwarm (by simp [stage]), eq_none_of_isSome_imp hmean (by simp [stage]),
      eq_none_of_isSome_imp hcapture (by simp [stage]), rfl⟩
  unfold Machine.linkWaitOver
  dsimp only
  split
  · exact State.feedSafe.endCheckIncomplete (Lamps.dark.feedSafe dark (by simp [stage]))
  · exact Lamps.dark.beginStep dark running (by simp [stage])

theorem State.feedSafe.lampSag {s : State} (h : s.feedSafe) (x : Supply) :
    (lampSag { s with supply := x }).feedSafe := by
  unfold Machine.lampSag
  dsimp only
  split
  · next running =>
    have unfed : s.lamps.stage.any Stage.fed = false → s.lamps.stage ≠ some .clearOff →
        State.feedSafe { s with supply := x } := fun unfed clear => by
      obtain ⟨feed, watch⟩ := h.feed_open unfed
      obtain ⟨_, _, _, hwarm, hmean, hcapture, hwait⟩ := h
      exact ⟨by simp [feed], fun _ e => absurd e clear, by simp [watch], hwarm, hmean, hcapture, hwait⟩
    have caught : s.lamps.stage ≠ some .linkWait → (sagCatches { s with supply := x }).feedSafe := fun wait => by
      have still : s.lamps.linkWaitTimer = none := eq_none_of_isSome_imp h.linkWait fun k => wait k.2
      rw [sagCatches_eq]
      split
      · exact Lamps.dark.finishStep (by simp [Lamps.dark, still]) (by simpa using running)
      · exact Lamps.dark.feedSafe (by simp [Lamps.dark, still]) (by simp)
    split
    case h_1 stage => exact caught (by simp [stage])
    case h_2 stage => exact caught (by simp [stage])
    case h_3 stage => exact caught (by simp [stage])
    case h_4 stage => exact caught (by simp [stage])
    case h_5 stage =>
      exact Lamps.dark.feedSafe (by exact h.dark (by simp [stage, Stage.fed]) (by simp [stage])) (by simp)
    case h_6 feedOn warm measure switchOff clearOff =>
      refine unfed ?_ clearOff
      cases hst : s.lamps.stage with
      | none => rfl
      | some st => cases st <;> simp_all [Stage.fed]
  · next idle =>
    exact Lamps.dark.feedSafe (by exact h.dark_of_idle (by simpa using idle)) fun on => absurd on idle

theorem State.feedSafe.lampRecovered {s : State} (h : s.feedSafe) (x : Supply) (sag : x.sag = false) :
    (lampRecovered { s with supply := x }).feedSafe := by
  have same : State.feedSafe { s with supply := x } := by
    obtain ⟨hfeed, hclear, hrest⟩ := h
    refine ⟨fun on => ?_, fun running stage => ⟨(hclear running stage).1, sag⟩, hrest⟩
    obtain ⟨running, short, _, fed⟩ := hfeed on
    exact ⟨running, short, sag, fed⟩
  unfold Machine.lampRecovered
  dsimp only
  split
  · next running =>
    split
    case h_1 stage =>
      exact Lamps.dark.startStep (by exact h.dark (by simp [stage, Stage.fed]) (by simp [stage])) running sag (by simp [stage])
    case h_2 stage =>
      exact Lamps.dark.startStep (by exact h.dark (by simp [stage, Stage.fed]) (by simp [stage])) running sag (by simp [stage])
    case h_3 => exact same
  · exact same

theorem State.feedSafe.beginMeasure {s : State} (h : s.feedSafe) (warm : s.lamps.warmTimer.isSome = true) (p : LampStep)
    (current : Nat) : (beginMeasure p current s).feedSafe := by
  obtain ⟨hfeed, _, hwatch, hwarm, _, _, hwait⟩ := h
  obtain ⟨running, stage⟩ := hwarm warm
  have wait : s.lamps.linkWaitTimer = none := eq_none_of_isSome_imp hwait (by simp [stage])
  have fed : s.lamps.feed = true → s.lamps.running = true ∧ s.lamps.shortTaken = false ∧ s.supply.sag = false ∧
      (some Stage.measure).any Stage.fed = true := fun on => by
    obtain ⟨_, short, sag, _⟩ := hfeed on
    exact ⟨running, short, sag, rfl⟩
  unfold Machine.beginMeasure
  dsimp only
  split
  · exact ⟨fed, by simp, hwatch, by simp, fun _ => ⟨running, rfl⟩, fun _ => ⟨running, rfl⟩, by simp [wait]⟩
  · exact ⟨fed, by simp, hwatch, by simp, fun _ => ⟨running, rfl⟩, fun _ => ⟨running, rfl⟩, by simp [wait]⟩

/-! ### Sessions, failures and the plug -/

/-- The lamps' record after a running check is abandoned (R80, R81). -/
def Lamps.abandoned (l : Lamps) : Lamps := if l.running then l.stopped { l.sheet with state := .partly } else l

theorem abandonCheck_lamps_eq (s : State) : (abandonCheck s).lamps = s.lamps.abandoned := by
  unfold Lamps.abandoned
  cases hr : s.lamps.running with
  | true => rw [abandonCheck_lamps hr]; rfl
  | false => rw [abandonCheck_idle hr]; rfl

/-- The lamps' record after a session end (R76, R81). -/
def Lamps.sessionEnded (l : Lamps) : Lamps :=
  { l.abandoned with sheet := { state := .empty, entries := [] }, loose := none, offOwed := false }

@[simp] theorem lampSessionEnd_lamps (s : State) : (lampSessionEnd s).lamps = s.lamps.sessionEnded := by
  simp [lampSessionEnd, abandonCheck_lamps_eq, Lamps.sessionEnded]

@[simp] theorem endSession_lamps (cause : EndCause) (coach : Nat) (s : State) :
    (endSession cause coach s).lamps = s.lamps.sessionEnded := by
  simp [endSession]

theorem State.feedSafe.endSession {s : State} (h : s.feedSafe) (cause : EndCause) (coach : Nat) :
    (endSession cause coach s).feedSafe := by
  have k : (Machine.abandonCheck s).feedSafe := h.abandonCheck
  unfold State.feedSafe at k ⊢
  rw [endSession_lamps]
  simpa [abandonCheck_lamps_eq, Lamps.sessionEnded] using k

theorem State.feedSafe.putIdentity {s : State} (h : s.feedSafe) (id : Identity) : (putIdentity id s).feedSafe := by
  unfold Machine.putIdentity
  split
  · exact State.feedSafe_congr h (by simp) (by simp)
  · split
    · exact h
    · next held _ _ => exact State.feedSafe_congr (h.endSession .identityReplaced held.coach) (by simp) (by simp)
  · next held _ => exact State.feedSafe_congr (h.endSession .identityReplaced held.coach) (by simp) (by simp)

theorem State.feedSafe.enterEmpty {s : State} (h : s.feedSafe) : (enterEmpty s).feedSafe := by
  unfold Machine.enterEmpty
  dsimp only
  split
  case h_4 => exact State.feedSafe.endSession (by exact h) _ _
  case h_5 => exact h
  all_goals exact State.feedSafe_congr h (by simp) (by simp)

theorem State.feedSafe.loopClear {s : State} (h : s.feedSafe) : (loopClear s).feedSafe := by
  unfold Machine.loopClear
  split
  · exact h.enterEmpty
  all_goals exact h

theorem State.feedSafe.bayPlugOut {s : State} (h : s.feedSafe) : (bayPlugOut s).feedSafe := by
  unfold Machine.bayPlugOut
  split
  · exact h
  · exact h
  all_goals
    dsimp only
    split
    · exact State.feedSafe.enterEmpty (by exact h)
    · exact h

theorem State.feedSafe.linkPlugOut {s : State} (h : s.feedSafe) : (linkPlugOut s).feedSafe := by
  unfold Machine.linkPlugOut
  split
  · exact h
  · have k : (Machine.abandonCheck (idleLink s)).feedSafe := State.feedSafe.abandonCheck h
    unfold State.feedSafe at k ⊢
    simpa using k

theorem State.feedSafe.countFailure {s : State} (h : s.feedSafe) : (countFailure s).feedSafe := by
  unfold Machine.countFailure
  split
  · exact h
  · split
    · exact h
    · exact State.feedSafe.endCheckIncomplete (State.feedSafe_congr h (by simp) (by simp))

theorem State.feedSafe.handFailure {s : State} (h : s.feedSafe) (x : Transaction) : (handFailure x s).feedSafe := by
  unfold Machine.handFailure
  split
  · exact State.feedSafe_congr h (by simp) (by simp)
  · exact h.lampFailed _ _ _
  · exact h
  · split
    · split
      · exact State.feedSafe_congr h (by simp) (by simp)
      · exact h
    · exact h

/-- The lane transit over: the departure in NONE (R157). -/
def afterTransit (s : State) : State := enterNone { s with dep := { s.dep with transitTimer := none } }

@[simp] theorem afterTransit_keeps (s : State) :
    KeepsCore s (afterTransit s) ∧ (afterTransit s).bay = s.bay ∧ (afterTransit s).link = s.link ∧
      (afterTransit s).faults = s.faults ∧ (afterTransit s).lamps = s.lamps ∧ (afterTransit s).peers = s.peers ∧
      (afterTransit s).lead = s.lead ∧ (afterTransit s).heat = s.heat ∧ (afterTransit s).meter = s.meter ∧
      (afterTransit s).notices = s.notices ∧ ClaimsOnly s.line (afterTransit s).line ∧
      (afterTransit s).line.heatSlot = s.line.heatSlot ∧ (afterTransit s).line.airSlot = s.line.airSlot := by
  simp [afterTransit]

theorem afterTransit_dep (s : State) : (afterTransit s).dep = { s.dep.cancelled with transitTimer := none } := by
  unfold afterTransit
  rw [enterNone_dep]
  unfold Departure.cancelled Departure.move
  dsimp only
  split <;> rfl

/-- The transit over, the departure is cancelled, and a departing session ends (R14, R157). -/
theorem transitOver_cases (s : State) :
    (∃ id, s.bay.session = .departing id ∧ transitOver s = endSession .departureCompleted id.coach (afterTransit s)) ∨
      (∀ id, s.bay.session ≠ .departing id) ∧ transitOver s = afterTransit s := by
  have same : (afterTransit s).bay.session = s.bay.session := by simp
  have e : transitOver s = match (afterTransit s).bay.session with
      | .departing id => endSession .departureCompleted id.coach (afterTransit s)
      | _ => afterTransit s := rfl
  rw [e, same]
  cases s.bay.session
  case departing id => exact .inl ⟨id, rfl, rfl⟩
  all_goals exact .inr ⟨by simp, rfl⟩

theorem State.feedSafe.transitOver {s : State} (h : s.feedSafe) : (transitOver s).feedSafe := by
  have k : (afterTransit s).feedSafe := State.feedSafe_congr h (by simp) (by simp)
  rcases transitOver_cases s with ⟨id, _, e⟩ | ⟨_, e⟩ <;> rw [e]
  · exact k.endSession _ _
  · exact k

/-! ### Every step -/

theorem arbitrate_lamps (s : State) : ∃ loose, (arbitrate s).lamps = { s.lamps with loose := loose } := by
  unfold arbitrate
  split
  · exact ⟨_, rfl⟩
  · split
    · exact ⟨_, rfl⟩
    · dsimp only; split <;> exact ⟨_, rfl⟩

theorem State.feedSafe.react {s : State} (h : s.feedSafe) : (react s).feedSafe := by
  have k : (Machine.startCheck (startPass s)).feedSafe := State.feedSafe.startCheck (State.feedSafe_congr h (by simp) (by simp))
  exact State.feedSafe_congr k (by simp [react_eq]) (by simp [react_eq])

theorem State.feedSafe.settle {s : State} (h : s.feedSafe) : (settle s).feedSafe := by
  have twice : (Machine.react (Machine.react s)).feedSafe := h.react.react
  obtain ⟨loose, e⟩ := arbitrate_lamps (startPass (Machine.react (Machine.react s)))
  have k : (arbitrate (startPass (Machine.react (Machine.react s)))).feedSafe := by
    unfold State.feedSafe at twice ⊢
    rw [e]
    simpa using twice
  rw [settle_eq]
  exact State.feedSafe_congr k (by simp) (by simp [driveHead])

/-- The feed is safe. -/
def State.feedKept (s : State) : Prop := s.feedSafe

theorem Quiet.feedSafe {s v : State} (h : s.feedSafe) (q : Quiet s v) : v.feedSafe := by
  cases q
  case beginsMeasure p current warm _ => exact h.beginMeasure warm p current
  case watchesOn runs =>
    unfold State.feedSafe at h ⊢
    simpa using h
  case timesEdge x lit open_ =>
    unfold State.feedSafe at h ⊢
    rw [open_] at h
    exact h
  all_goals exact State.feedSafe_congr h (by simp) (by simp)

theorem Effect.feedSafe {s v : State} (h : s.feedSafe) (e : Effect s v) : v.feedSafe := by
  cases e
  case loop =>
    split
    · exact State.feedSafe_congr h (by simp) (by simp)
    · exact State.feedSafe.loopClear (by exact h)
  case plugsOut =>
    apply State.feedSafe.linkPlugOut
    split
    · exact h
    · exact State.feedSafe.bayPlugOut (by exact h)
  case reidentifies => split <;> exact State.feedSafe_congr h (by simp) (by simp)
  case fails x _ =>
    have k : (idleLink s).feedSafe := h
    exact State.feedSafe.handFailure (State.feedSafe.countFailure k) x
  case identifies x id hint _ _ =>
    have k : (linkComesUp (linkSucceeded s)).feedSafe := State.feedSafe_congr h (by simp) (by simp)
    refine State.feedSafe_congr (s := identifySucceeded id (linkComesUp (linkSucceeded s))) ?_ (by simp) (by simp)
    unfold identifySucceeded
    split
    case h_3 => exact k
    all_goals exact State.feedSafe.putIdentity (by exact k) id
  case acknowledges x channel on _ _ => exact State.feedSafe.lampAcknowledged (s := linkSucceeded s) h channel on x.live
  case measuresSteady mean runs => exact h.measureEnds (h.2.2.2.2.1 runs).2 _ _
  case endsCapture x y onMean tailMean open_ => exact h.measureEnds (h.2.2.2.2.2.1 (by simp [open_])).2 _ _
  case readsShort mean runs => exact h.shortReading runs mean
  case waitsNoLonger runs => exact h.linkWaitOver runs
  case rechecksLamps =>
    exact State.feedSafe_congr (s := emptySheet s) h (by simp) (by simp)
  case goesGreen =>
    exact State.feedSafe.abandonCheck (State.feedSafe_congr h (by simp) (by simp))
  case endsTransit => exact h.transitOver
  case sags => exact h.lampSag _
  case recovers => exact h.lampRecovered _ rfl
  all_goals exact State.feedSafe_congr h (by simp) (by simp)

theorem kept_feedKept : Kept State.feedKept where
  queue _ _ h := h
  reset _ _ _ := by simp [State.feedKept, State.feedSafe, State.afterReset, Lamps.atReset]
  arrives s b h a := State.feedSafe_congr h (by rw [a.eq.1]) (by rw [a.eq.1])
  quietly _ _ h q := q.feedSafe h
  event _ _ h e := State.feedSafe.settle (e.feedSafe h)
  round s h := State.feedSafe.settle (State.feedSafe_congr h (by simp) (by simp))
  trails s u h t := by
    obtain ⟨e, _, _, _, capture⟩ := t.eq
    unfold State.feedKept State.feedSafe at *
    rw [e]
    simpa [capture] using h

/-- Settles O55: each stage's operations open or close the feed and stop the timers of the stage they leave, and whatever cuts a step or a
check short leaves everything dark. -/
theorem everyStepKeepsTheFeedSafe : Obligations.EveryStepKeepsTheFeedSafe :=
  fun _ _ h hs => kept_feedKept.step h hs

end Sys2Proof.Machine
end

section
/-! SUPPORT. The heat record through a step: what each of the heat controller's operations makes of drawn, the grant, intended and the
announcements, and drawn within the grant over every step (R122 to R134). -/

namespace Sys2Proof.Machine

open Sys2Proof

/-! ### The marks of a cabin reading -/

/-- The heat record but for its three marks. -/
@[simp] abbrev MarksOnly (a b : Heat) : Prop :=
  b.state = a.state ∧ b.heaterFault = a.heaterFault ∧ b.weakFound = a.weakFound ∧ b.wanted = a.wanted ∧
  b.grant = a.grant ∧ b.intended = a.intended ∧ b.drawn = a.drawn ∧ b.announced = a.announced ∧
  b.claimTimer = a.claimTimer ∧ b.starvedRound = a.starvedRound

@[simp] theorem setAtTarget_heat (reading target : Int) (s : State) :
    (setAtTarget reading target s).heat =
      { s.heat with atTarget := true, keepWarm := decide (0 < s.heat.drawn) && decide (reading < target + 2) } := rfl

@[simp] theorem clearAtTarget_heat (s : State) :
    (clearAtTarget s).heat = { s.heat with atTarget := false, keepWarm := false } := rfl

@[simp] theorem updateCalled_marks (s : State) : MarksOnly s.heat (updateCalled s).heat := by
  unfold updateCalled
  split
  · dsimp only; split
    · split <;> simp
    · simp
  · simp

@[simp] theorem holdWarm_marks (reading target : Int) (s : State) :
    MarksOnly s.heat (holdWarm reading target s).heat ∧ (holdWarm reading target s).heat.called = s.heat.called ∧
      (holdWarm reading target s).heat.atTarget = s.heat.atTarget := by
  unfold holdWarm; split
  · simp
  · split <;> simp

@[simp] theorem readingMarks_marks (reading : Int) (s : State) : MarksOnly s.heat (readingMarks reading s).heat := by
  unfold readingMarks; split
  · simp
  · split
    · simp
    · dsimp only; split <;> simp

@[simp] theorem cacheWentStale_heat (s : State) :
    (cacheWentStale s).heat = { s.heat with atTarget := false, keepWarm := false } := by
  simp [cacheWentStale]

theorem staleCache_heat (s : State) :
    (staleCache s).heat =
      if s.link.cache.fresh then { s.heat with atTarget := false, keepWarm := false } else s.heat := by
  unfold staleCache; split <;> simp

theorem takeNoSensor_heat (s : State) :
    (takeNoSensor s).heat =
      if s.link.cache.fresh then { s.heat with atTarget := false, keepWarm := false } else s.heat := by
  unfold takeNoSensor; dsimp only; split <;> simp

theorem emptyCache_heat (s : State) :
    (emptyCache s).heat =
      if s.link.cache.fresh then { s.heat with atTarget := false, keepWarm := false } else s.heat := by
  unfold emptyCache; dsimp only; split <;> simp

@[simp] theorem staleCache_marks (s : State) : MarksOnly s.heat (staleCache s).heat := by
  rw [staleCache_heat]; split <;> simp

@[simp] theorem takeNoSensor_marks (s : State) : MarksOnly s.heat (takeNoSensor s).heat := by
  rw [takeNoSensor_heat]; split <;> simp

@[simp] theorem emptyCache_marks (s : State) : MarksOnly s.heat (emptyCache s).heat := by
  rw [emptyCache_heat]; split <;> simp

@[simp] theorem takeReading_marks (temp : Int) (s : State) : MarksOnly s.heat (takeReading temp s).heat := by
  simp [takeReading]

/-! ### What is drawn -/

/-- An announcement is not made, at most made none. -/
def Heat.AnnouncesLess (a b : Heat) : Prop := ∀ level t, b.announcement level = some t → a.announcement level = some t

theorem Heat.AnnouncesLess.of_eq {a b : Heat} (h : b.announced = a.announced) : a.AnnouncesLess b := fun level t k => by
  unfold Heat.announcement at k ⊢; rwa [h] at k

theorem Heat.AnnouncesLess.trans {a b c : Heat} (h : a.AnnouncesLess b) (k : b.AnnouncesLess c) : a.AnnouncesLess c :=
  fun level t e => h level t (k level t e)

theorem Heat.announcesLess_overrule (h : Heat) (grant : Nat) : h.AnnouncesLess (h.overrule grant) := by
  intro level t k
  unfold Heat.announcement Heat.overrule at k
  unfold Heat.announcement
  split at k <;> simp at k <;> simp [k]

/-- A heat state that draws nothing is entered with drawn, the grant and intended at 0 and every announcement none; any other with all of
them as they stood, as is a state that stays (R134). -/
theorem enterHeatState_drawing (new : HeatState) (s : State) :
    ((enterHeatState new s).heat.drawn = s.heat.drawn ∧ (enterHeatState new s).heat.grant = s.heat.grant ∧
      (enterHeatState new s).heat.intended = s.heat.intended ∧ (enterHeatState new s).heat.announced = s.heat.announced ∧
      (HeatState.drawsNothing new = true → new = s.heat.state)) ∨
    ((enterHeatState new s).heat.drawn = 0 ∧ (enterHeatState new s).heat.grant = 0 ∧
      (enterHeatState new s).heat.intended = 0 ∧
      (enterHeatState new s).heat.announced = #v[none, none, none, none] ∧ HeatState.drawsNothing new = true) := by
  unfold enterHeatState
  split
  · next h => exact .inl ⟨rfl, rfl, rfl, rfl, fun _ => h⟩
  · cases new <;> dsimp only <;> split <;>
      simp [dropAll_heat, HeatState.drawsNothing, Heat.overrule]

/-- The heat record given afresh: drawn no higher, the grant, intended and the announcements as they stood or all dropped. -/
theorem evalHeat_drawing (s : State) :
    (evalHeat s).heat.drawn ≤ s.heat.drawn ∧ s.heat.AnnouncesLess (evalHeat s).heat ∧
      (((evalHeat s).heat.grant = s.heat.grant ∧ (evalHeat s).heat.intended = s.heat.intended ∧
          (HeatState.drawsNothing (evalHeat s).heat.state = true → (evalHeat s).heat.state = s.heat.state)) ∨
        ((evalHeat s).heat.grant = 0 ∧ (evalHeat s).heat.intended = 0 ∧ (evalHeat s).heat.drawn = 0)) := by
  have drawn : (evalHeat s).heat.drawn ≤ s.heat.drawn := ((Reacted.refl s).evalHeat).drawn
  have state : (evalHeat s).heat.state = (updateCalled s).heatTest := by
    unfold evalHeat
    dsimp only
    rw [updateWanted_heat]
    exact (enterHeatState_heat _ _).1
  refine ⟨drawn, ?_, ?_⟩
  · rcases enterHeatState_drawing (updateCalled s).heatTest (updateCalled s) with ⟨_, _, _, e, _⟩ | ⟨_, _, _, e, _⟩
    · exact .of_eq (by unfold evalHeat; dsimp only; rw [updateWanted_heat]; exact e.trans (by simp))
    · intro level t k
      have none : (evalHeat s).heat.announced = #v[none, none, none, none] := by
        unfold evalHeat; dsimp only; rw [updateWanted_heat]; exact e
      unfold Heat.announcement at k
      rw [none] at k
      split at k <;> simp at k
  · rw [state]
    unfold evalHeat
    dsimp only
    rw [updateWanted_heat]
    rcases enterHeatState_drawing (updateCalled s).heatTest (updateCalled s) with ⟨_, hg, hi, _, hn⟩ | ⟨hd, hg, hi, _, _⟩
    · exact .inl ⟨hg.trans (by simp), hi.trans (by simp), fun k => (hn k).trans (by simp)⟩
    · exact .inr ⟨hg, hi, by simp [hd]⟩

/-! ### Drawn within the grant -/

/-- The heat record is well kept. -/
def State.heatKept (s : State) : Prop := s.heat.wellKept

theorem State.heatKept_congr {s v : State} (h : s.heatKept) (hs : v.heat.state = s.heat.state) (hd : v.heat.drawn = s.heat.drawn)
    (hg : v.heat.grant = s.heat.grant) (hi : v.heat.intended = s.heat.intended) : v.heatKept := by
  unfold State.heatKept Heat.wellKept at *
  rwa [hs, hd, hg, hi]

theorem State.heatKept.evalHeat {s : State} (h : s.heatKept) : (evalHeat s).heatKept := by
  obtain ⟨hle, hintended, hnothing⟩ := h
  obtain ⟨drawn, _, ⟨grant, intended, same⟩ | ⟨grant, intended, zero⟩⟩ := evalHeat_drawing s
  · exact ⟨by omega, by omega, fun k => by rw [grant]; exact hnothing (by rwa [same k] at k)⟩
  · exact ⟨by omega, by omega, fun _ => grant⟩

/-- Drawn no higher, and kept within the grant if it was. -/
def Eases (a b : State) : Prop := b.heat.drawn ≤ a.heat.drawn ∧ (a.heatKept → b.heatKept)

theorem Eases.trans {a b c : State} (h : Eases a b) (k : Eases b c) : Eases a c :=
  ⟨k.1.trans h.1, fun ha => k.2 (h.2 ha)⟩

theorem Eases.of_eq {a b : State} (hs : b.heat.state = a.heat.state := by simp) (hd : b.heat.drawn = a.heat.drawn := by simp)
    (hg : b.heat.grant = a.heat.grant := by simp) (hi : b.heat.intended = a.heat.intended := by simp) : Eases a b :=
  ⟨hd.le, fun h => State.heatKept_congr h hs hd hg hi⟩

theorem evalHeat_eases (s : State) : Eases s (evalHeat s) := ⟨(evalHeat_drawing s).1, fun h => h.evalHeat⟩

/-- Operations that leave the record but for its marks, then the state given afresh, then more that leave the record. -/
theorem Eases.of_evalHeat {a b c : State} (before : Eases a b) (after : Eases (evalHeat b) c) : Eases a c :=
  (before.trans (evalHeat_eases b)).trans after

theorem react_eases (s : State) : Eases s (react s) :=
  Eases.of_evalHeat (b := deriveLatest (readPeers (startCheck (startPass s)))) .of_eq (by rw [react_eq]; exact .of_eq)

theorem settle_eases (s : State) : Eases s (settle s) := by
  have last : Eases (react (react s)) (settle s) := by rw [settle_eq]; exact .of_eq
  exact ((react_eases s).trans (react_eases _)).trans last

theorem heatSessionEnd_eases (s : State) : Eases s (heatSessionEnd s) :=
  Eases.trans (b := recomputeLead { s with heat := { s.heat with heaterFault := false, weakFound := false },
                                           meter := { s.meter with overdrawRun := 0 } }) .of_eq (evalHeat_eases _)

theorem endSession_eases (cause : EndCause) (coach : Nat) (s : State) : Eases s (endSession cause coach s) := by
  have told : Eases s (clearanceSessionEnd cause coach (lampSessionEnd (emptyCache
      { s with bay := { s.bay with session := .none }, faults := s.faults.endSession, link := s.link.discardPass }))) := .of_eq
  exact (told.trans (heatSessionEnd_eases _)).trans (by unfold endSession; exact .of_eq)

/-- An identity put to the session: the same continues it, any other opens one, after the end of one held (R10, R12). -/
theorem putIdentity_cases (id : Identity) (s : State) :
    (s.bay.session = .opened id ∧ putIdentity id s = s) ∨ (s.bay.session = .none ∧ putIdentity id s = openSession id s) ∨
      ∃ held : Identity, (s.bay.session = .opened held ∧ held ≠ id ∨ s.bay.session = .departing held) ∧
        putIdentity id s = openSession id (endSession .identityReplaced held.coach s) := by
  unfold putIdentity
  cases hs : s.bay.session with
  | none => exact .inr (.inl ⟨rfl, rfl⟩)
  | opened held =>
    dsimp only
    split
    · next h => exact .inl ⟨by rw [h], rfl⟩
    · next h => exact .inr (.inr ⟨held, .inl ⟨rfl, h⟩, rfl⟩)
  | departing held => exact .inr (.inr ⟨held, .inr rfl, rfl⟩)

theorem putIdentity_eases (id : Identity) (s : State) : Eases s (putIdentity id s) := by
  rcases putIdentity_cases id s with ⟨_, e⟩ | ⟨_, e⟩ | ⟨held, _, e⟩ <;> rw [e]
  · exact .of_eq
  · exact .of_eq
  · exact (endSession_eases .identityReplaced held.coach s).trans .of_eq

theorem enterEmpty_eases (s : State) : Eases s (enterEmpty s) := by
  unfold enterEmpty
  dsimp only
  split
  case h_4 => exact Eases.trans (b := { s with bay := { s.bay with occupancy := .empty, implied := false } }) .of_eq (endSession_eases _ _ _)
  all_goals exact .of_eq

theorem loopClear_eases (s : State) : Eases s (loopClear s) := by
  unfold loopClear
  split
  · exact enterEmpty_eases s
  all_goals exact .of_eq

theorem bayPlugOut_eases (s : State) : Eases s (bayPlugOut s) := by
  unfold bayPlugOut
  split
  · exact .of_eq
  · exact .of_eq
  all_goals
    dsimp only
    split
    · exact Eases.trans (b := { s with link := { s.link with identifyReq := false }, bay := { s.bay with reidentify := none } })
        .of_eq (enterEmpty_eases _)
    · exact .of_eq

theorem linkPlugOut_eases (s : State) : Eases s (linkPlugOut s) := by
  unfold linkPlugOut; split <;> exact .of_eq

theorem identifySucceeded_eases (id : Identity) (s : State) : Eases s (identifySucceeded id s) := by
  unfold identifySucceeded
  split
  case h_3 => exact .of_eq
  all_goals
    exact Eases.trans (b := { s with bay := { s.bay with occupancy := .connected, reidentify := none } }) .of_eq
      (putIdentity_eases _ _)

theorem transitOver_eases (s : State) : Eases s (transitOver s) := by
  rcases transitOver_cases s with ⟨id, _, e⟩ | ⟨_, e⟩ <;> rw [e]
  · exact Eases.trans (b := afterTransit s) .of_eq (endSession_eases _ _ _)
  · exact .of_eq

theorem countFailure_eases (s : State) : Eases s (countFailure s) := by
  unfold countFailure
  split
  · exact .of_eq
  · split
    · exact .of_eq
    · unfold declareLost; exact .of_eq

theorem transactionFails_eases (x : Transaction) (s : State) : Eases s (transactionFails x s) :=
  have counted : Eases s (countFailure (idleLink s)) := Eases.trans (b := idleLink s) .of_eq (countFailure_eases _)
  counted.trans (by unfold transactionFails; exact .of_eq)

theorem heaterOverdrawn_eases (metered : Nat) (s : State) : Eases s (heaterOverdrawn metered s) := by
  have fault : Eases s { s with heat := { s.heat with heaterFault := true }, meter := { s.meter with overdrawRun := 0 } } := .of_eq
  exact fault.of_evalHeat (by unfold heaterOverdrawn; exact .of_eq)

theorem applyVerdict_eases (v : MeterVerdict) (metered : Nat) (s : State) : Eases s (applyVerdict v metered s) := by
  unfold applyVerdict
  split
  · split
    · exact .of_eq
    · exact heaterOverdrawn_eases metered s
  · dsimp only; split <;> exact .of_eq
  all_goals exact .of_eq

@[simp] theorem Heat.announce_keeps (h : Heat) (intended now : Nat) :
    (h.announce intended now).state = h.state ∧ (h.announce intended now).called = h.called ∧
      (h.announce intended now).atTarget = h.atTarget ∧ (h.announce intended now).keepWarm = h.keepWarm ∧
      (h.announce intended now).heaterFault = h.heaterFault ∧ (h.announce intended now).weakFound = h.weakFound ∧
      (h.announce intended now).wanted = h.wanted ∧ (h.announce intended now).grant = h.grant ∧
      (h.announce intended now).intended = h.intended ∧ (h.announce intended now).drawn = h.drawn ∧
      (h.announce intended now).claimTimer = h.claimTimer ∧ (h.announce intended now).starvedRound = h.starvedRound := by
  simp [Heat.announce]

theorem finishFrame_eases (f : Flight) (s : State) : Eases s (finishFrame f s) := by
  unfold finishFrame frameGone
  split
  case h_4 => split <;> exact .of_eq
  all_goals exact .of_eq

/-- No effect but a round lets drawn rise. -/
theorem Effect.eases {s v : State} (e : Effect s v) : Eases s v := by
  cases e
  case bringsUp => unfold bringUpEffect; dsimp only; split <;> exact .of_eq
  case loop =>
    split
    · exact .of_eq
    · exact Eases.trans .of_eq (loopClear_eases _)
  case plugsOut =>
    refine Eases.trans ?_ (linkPlugOut_eases _)
    split
    · exact .of_eq
    · exact Eases.trans .of_eq (bayPlugOut_eases _)
  case reidentifies => split <;> exact .of_eq
  case fails => exact transactionFails_eases _ _
  case identifies x id hint _ _ =>
    exact Eases.trans (Eases.trans (b := linkComesUp (linkSucceeded s)) .of_eq (identifySucceeded_eases id _)) .of_eq
  case endsTransit => exact transitOver_eases s
  case closesWindow => exact Eases.trans (b := { s with meter := { s.meter with
    count := 0, window := some (s.now + Config.meterWindow) } }) .of_eq (applyVerdict_eases _ _ _)
  case finishes => exact finishFrame_eases _ _
  all_goals exact .of_eq

theorem Quiet.heat {s v : State} (q : Quiet s v) : v.heat = s.heat := q.stands.heat

/-! ### The round -/

/-- Nothing but a candidate is granted anything (R129, R130). -/
theorem ownGrant_of_drawsNothing {s : State} (h : HeatState.drawsNothing s.heat.state = true) : s.ownGrant = 0 := by
  have no : s.ownCandidate = none := by
    unfold State.ownCandidate
    cases hs : s.heat.state <;> simp_all [HeatState.drawsNothing]
  unfold State.ownGrant
  rw [no]

/-- The record after the update of drawing (R131). -/
theorem updateDrawing_heat_eq (grant : Nat) (s : State) :
    (updateDrawing grant s).heat = { Heat.overrule { s.heat with drawn := min s.heat.drawn grant } grant with
      grant := grant, intended := grant } := by
  have lowered : (if grant < s.heat.drawn then setDrawn grant s else s).heat =
      { s.heat with drawn := min s.heat.drawn grant } := by
    split
    · next lt => rw [setDrawn_heat, Nat.min_eq_right (Nat.le_of_lt lt)]
    · next ge => rw [Nat.min_eq_left (Nat.not_lt.mp ge)]
  unfold updateDrawing
  dsimp only
  split <;> simp [lowered]

theorem updateDrawing_heat (grant : Nat) (s : State) :
    (updateDrawing grant s).heat.state = s.heat.state ∧ (updateDrawing grant s).heat.grant = grant ∧
      (updateDrawing grant s).heat.intended = grant ∧ (updateDrawing grant s).heat.drawn = min s.heat.drawn grant ∧
      s.heat.AnnouncesLess (updateDrawing grant s).heat := by
  rw [updateDrawing_heat_eq]
  exact ⟨rfl, rfl, rfl, rfl, Heat.announcesLess_overrule { s.heat with drawn := min s.heat.drawn grant } grant⟩

/-- Drawn rises by one stage, in HEATING or MAINTAIN, to a level below what is intended that was announced 4 s ago or earlier, or the state
stands (R133). -/
theorem raiseDrawn_cases (s : State) :
    raiseDrawn s = s ∨
      ((s.heat.state = .heating ∨ s.heat.state = .maintain) ∧ s.heat.drawn < s.heat.intended ∧
        s.heat.drawn < s.heat.wanted ∧ ∃ a, s.heat.announcement (s.heat.drawn + 1) = some a ∧ a + 4000 ≤ s.now ∧
          raiseDrawn s = setDrawn (s.heat.drawn + 1) s) := by
  unfold raiseDrawn
  split
  · next h =>
    obtain ⟨state, intended, wanted⟩ := h
    split
    · next a ha =>
      split
      · next due => exact .inr ⟨state, intended, wanted, a, ha, due, rfl⟩
      · exact .inl rfl
    · exact .inl rfl
  · exact .inl rfl

theorem State.heatKept.updateDrawing {s : State} (nothing : HeatState.drawsNothing s.heat.state = true → grant = 0) :
    (updateDrawing grant s).heatKept := by
  obtain ⟨hs, hg, hi, hd, _⟩ := updateDrawing_heat grant s
  refine ⟨by rw [hd, hg]; exact Nat.min_le_right .., by rw [hi, hg], fun k => ?_⟩
  rw [hg]
  exact nothing (by rwa [hs] at k)

theorem State.heatKept.raiseDrawn {s : State} (h : s.heatKept) : (raiseDrawn s).heatKept := by
  rcases raiseDrawn_cases s with e | ⟨_, lt, _, _, _, _, e⟩ <;> rw [e]
  · exact h
  · obtain ⟨_, hi, hn⟩ := h
    refine ⟨?_, ?_, ?_⟩ <;> rw [setDrawn_heat]
    · dsimp only; omega
    · exact hi
    · exact hn

/-- The round's stages in order: the table read, the update of drawing, the state given afresh (R128, R131). -/
def roundRead (s : State) : State := evalHeat (readPeers s)
def roundDrawn (s : State) : State := updateDrawing (roundRead s).ownGrant (markStarvedRound (roundRead s))

theorem takeRound_eq (s : State) : takeRound s = raiseDrawn (evalHeat (roundDrawn s)) := rfl

theorem markStarvedRound_heat (s : State) :
    (markStarvedRound s).heat = { s.heat with starvedRound := if s.heat.state = .starved then true else s.heat.starvedRound } := by
  unfold markStarvedRound; split <;> rfl

theorem roundDrawn_heatKept (s : State) : (roundDrawn s).heatKept :=
  State.heatKept.updateDrawing fun k => ownGrant_of_drawsNothing (by simpa [markStarvedRound_heat] using k)

/-- A round's update of drawing lets nothing rise and announces nothing. -/
theorem roundDrawn_drawing (s : State) :
    (roundDrawn s).heat.drawn ≤ s.heat.drawn ∧ s.heat.AnnouncesLess (roundDrawn s).heat := by
  have read : (roundRead s).heat.drawn ≤ s.heat.drawn ∧ s.heat.AnnouncesLess (roundRead s).heat := by
    obtain ⟨hle, hless, _⟩ := evalHeat_drawing (readPeers s)
    have e : (readPeers s).heat = s.heat := by simp
    exact ⟨e ▸ hle, e ▸ hless⟩
  unfold roundDrawn
  generalize roundRead s = r at read ⊢
  obtain ⟨hle, hless⟩ := read
  obtain ⟨_, _, _, hd, ha⟩ := updateDrawing_heat r.ownGrant (markStarvedRound r)
  rw [markStarvedRound_heat] at hd ha
  exact ⟨hd.le.trans ((Nat.min_le_left _ _).trans hle), hless.trans ((Heat.AnnouncesLess.of_eq rfl).trans ha)⟩

theorem takeRound_heatKept (s : State) : (takeRound s).heatKept := by
  rw [takeRound_eq]
  exact (roundDrawn_heatKept s).evalHeat.raiseDrawn

theorem kept_heatKept : Kept State.heatKept where
  queue _ _ h := h
  reset _ _ _ := ⟨Nat.le_refl _, rfl, fun _ => rfl⟩
  arrives s b h a := State.heatKept_congr h (by rw [a.eq.1]) (by rw [a.eq.1]) (by rw [a.eq.1]) (by rw [a.eq.1])
  quietly s v h q := State.heatKept_congr h (by rw [q.heat]) (by rw [q.heat]) (by rw [q.heat]) (by rw [q.heat])
  event s v h e := (settle_eases v).2 (e.eases.2 h)
  round s h := (settle_eases _).2 (State.heatKept_congr (takeRound_heatKept s) (by simp [claimPeriodEffect])
    (by simp [claimPeriodEffect]) (by simp [claimPeriodEffect]) (by simp [claimPeriodEffect]))
  trails s u h t := State.heatKept_congr h (by rw [t.eq.1]) (by rw [t.eq.1]) (by rw [t.eq.1]) (by rw [t.eq.1])

/-! ### Where drawn rises -/

theorem Runs.drawn_le {s u : State} (h : Runs s u) : u.heat.drawn ≤ s.heat.drawn := by
  obtain ⟨b, v, ha, hh, ht⟩ := h
  rw [ht.stands.heat, ← ha.stands.heat]
  cases hh with
  | nothing => exact Nat.le_refl _
  | quietly q => rw [q.heat]
  | event e => exact (settle_eases _).1.trans e.eases.1

theorem updateCalled_of_called {s : State} (h : s.heat.called = true) : updateCalled s = s := by
  unfold updateCalled; simp [h]

/-- A called station whose state is that of R123's table keeps it when it is given afresh, and with it all but wanted and drawn. -/
theorem evalHeat_of_standing {s : State} (called : s.heat.called = true) (state : s.heat.state = s.heatTest) :
    (evalHeat s).heat = { s.heat with wanted := s.wantedNow, drawn := min s.wantedNow s.heat.drawn } := by
  unfold evalHeat
  dsimp only
  rw [updateCalled_of_called called]
  have same : enterHeatState s.heatTest s = s := by unfold enterHeatState; rw [if_pos state.symm]
  rw [same, updateWanted_heat]

/-- The heat record but for wanted and drawn, the state being called and that of R123's table: reactions keep all three. -/
theorem react_of_standing {s : State} (called : s.heat.called = true) (state : s.heat.state = s.heatTest) :
    (react s).heat.state = s.heat.state ∧ (react s).heat.grant = s.heat.grant ∧ (react s).heat.called = true ∧
      (react s).heat.state = (react s).heatTest := by
  have before : Reacted s (deriveLatest (readPeers (startCheck (startPass s)))) :=
    (Reacted.refl s).startPass.startCheck.readPeers.deriveLatest
  have heat : (deriveLatest (readPeers (startCheck (startPass s)))).heat = s.heat := by simp
  have e : (react s).heat = (evalHeat (deriveLatest (readPeers (startCheck (startPass s))))).heat := by
    rw [react_eq, clearanceTests_heat]
  have test : (react s).heatTest = (evalHeat (deriveLatest (readPeers (startCheck (startPass s))))).heatTest :=
    Reacted.heatTest (by rw [react_eq]; exact (Reacted.refl _).clearanceTests) e
  have k := evalHeat_of_standing (s := deriveLatest (readPeers (startCheck (startPass s)))) (by rw [heat]; exact called)
    (by rw [before.heatTest heat, heat]; exact state)
  refine ⟨by rw [e, k, heat], by rw [e, k, heat], by rw [e, k, heat]; exact called, ?_⟩
  rw [test, e]
  exact evalHeat_state _

theorem settle_of_standing {s : State} (called : s.heat.called = true) (state : s.heat.state = s.heatTest) :
    (settle s).heat.state = s.heat.state ∧ (settle s).heat.grant = s.heat.grant := by
  obtain ⟨hs, hg, hc, ht⟩ := react_of_standing called state
  obtain ⟨hs', hg', _, _⟩ := react_of_standing hc ht
  have e : (settle s).heat = (react (react s)).heat := by simp [settle_eq]
  exact ⟨by rw [e, hs', hs], by rw [e, hg', hg]⟩

/-- A state that draws has been called. -/
theorem called_of_heatTest {s : State} (h : s.heatTest = .heating ∨ s.heatTest = .maintain) : s.heat.called = true := by
  unfold State.heatTest at h
  by_contra no
  rw [Bool.not_eq_true] at no
  simp only [no, Bool.not_false, if_true] at h
  split at h
  · simp at h
  · split at h <;> simp at h

/-- The test of R123 reads drawn and the claim timer no more than the claims. -/
theorem claimPeriodEffect_heatTest {s : State} {drawn : Nat}
    (e : (takeRound s).heat = { (evalHeat (roundDrawn s)).heat with drawn := drawn }) :
    (claimPeriodEffect s).heatTest = (evalHeat (roundDrawn s)).heatTest := by
  have heat : (claimPeriodEffect s).heat =
      { (takeRound s).heat with claimTimer := some (s.now + Config.claimPeriod) } := by simp [claimPeriodEffect]
  unfold State.heatTest State.offCondition State.pluggedForHeat State.sessionOpen State.identity State.configured State.lineFault
  rw [heat, e]
  simp [roundDrawn, roundRead]

/-- A state that draws, given by R123's table, stands at the end of the event that only raised drawn. -/
theorem settle_of_raised {d e : State} (draws : d.heat.state = .heating ∨ d.heat.state = .maintain)
    (standing : d.heat.state = d.heatTest) (test : e.heatTest = d.heatTest) (state : e.heat.state = d.heat.state) :
    ((settle e).heat.state = .heating ∨ (settle e).heat.state = .maintain) ∧ (settle e).heat.grant = e.heat.grant := by
  rw [← state] at draws
  rw [← test, ← state] at standing
  obtain ⟨hs, hg⟩ := settle_of_standing (called_of_heatTest (by rwa [← standing])) standing
  exact ⟨by rwa [hs], hg⟩

/-- What a round that lets drawn rise leaves, before its end (R133). -/
theorem takeRound_rises {s : State} (rises : s.heat.drawn < (takeRound s).heat.drawn) :
    (takeRound s).heat = { (evalHeat (roundDrawn s)).heat with drawn := (evalHeat (roundDrawn s)).heat.drawn + 1 } ∧
      (evalHeat (roundDrawn s)).heat.drawn = s.heat.drawn ∧ s.heat.drawn < (evalHeat (roundDrawn s)).heat.grant ∧
      ((evalHeat (roundDrawn s)).heat.state = .heating ∨ (evalHeat (roundDrawn s)).heat.state = .maintain) ∧
      ∃ a, s.heat.announcement (s.heat.drawn + 1) = some a ∧ a + 4000 ≤ s.now := by
  obtain ⟨updated, less⟩ := roundDrawn_drawing s
  obtain ⟨evaluated, less', _⟩ := evalHeat_drawing (roundDrawn s)
  obtain ⟨_, granted, _⟩ := (roundDrawn_heatKept s).evalHeat
  have now : (evalHeat (roundDrawn s)).now = s.now := by simp [roundDrawn, roundRead]
  rw [takeRound_eq] at rises ⊢
  generalize evalHeat (roundDrawn s) = d at *
  have fell : d.heat.drawn ≤ s.heat.drawn := evaluated.trans updated
  rcases raiseDrawn_cases d with e | ⟨state, intended, _, a, ha, due, e⟩
  · rw [e] at rises
    exact absurd fell (Nat.not_le.mpr rises)
  · have heat : (raiseDrawn d).heat = { d.heat with drawn := d.heat.drawn + 1 } := by rw [e, setDrawn_heat]
    have level : (raiseDrawn d).heat.drawn = d.heat.drawn + 1 := by rw [heat]
    have same : d.heat.drawn = s.heat.drawn := by omega
    rw [same] at ha
    exact ⟨heat, same, by omega, state, a, less _ _ (less' _ _ ha), by rw [← now]; exact due⟩

theorem settle_drawn_le (s : State) : (settle s).heat.drawn ≤ s.heat.drawn := (settle_reacted s).drawn

/-- A round that lets drawn rise raises it by one stage, and leaves the state and the grant it raised it under. -/
theorem round_rises {s : State} (rises : s.heat.drawn < (settle (claimPeriodEffect s)).heat.drawn) :
    (settle (claimPeriodEffect s)).heat.drawn = s.heat.drawn + 1 ∧
      s.heat.drawn + 1 ≤ (settle (claimPeriodEffect s)).heat.grant ∧
      ((settle (claimPeriodEffect s)).heat.state = .heating ∨ (settle (claimPeriodEffect s)).heat.state = .maintain) ∧
      ∃ a, s.heat.announcement (s.heat.drawn + 1) = some a ∧ a + 4000 ≤ s.now := by
  have effect : (claimPeriodEffect s).heat =
      { (takeRound s).heat with claimTimer := some (s.now + Config.claimPeriod) } := by simp [claimPeriodEffect]
  have settled : (settle (claimPeriodEffect s)).heat.drawn ≤ (takeRound s).heat.drawn := by
    have drawn : (claimPeriodEffect s).heat.drawn = (takeRound s).heat.drawn := by simp [claimPeriodEffect]
    rw [← drawn]
    exact settle_drawn_le _
  obtain ⟨heat, same, granted, draws, announced⟩ := takeRound_rises (rises.trans_le settled)
  have level : (takeRound s).heat.drawn = s.heat.drawn + 1 := by rw [heat, ← same]
  have test := claimPeriodEffect_heatTest heat
  have standing := evalHeat_state (roundDrawn s)
  generalize evalHeat (roundDrawn s) = d at *
  generalize takeRound s = r at *
  generalize claimPeriodEffect s = e at *
  obtain ⟨state, grant⟩ := settle_of_raised draws standing test (by rw [effect, heat])
  rw [level] at settled
  rw [effect, heat] at grant
  exact ⟨Nat.le_antisymm settled rises, grant.symm.le.trans' granted, state, announced⟩

/-- Settles O34: outside a round drawn is only put lower, and the round raises it by one stage in a state that the end of the event keeps. -/
theorem drawnRisesOnlyToAnAnnouncedLevel : Obligations.DrawnRisesOnlyToAnAnnouncedLevel := by
  intro c s u h rises
  rcases exec_cases h with ⟨cause, rfl⟩ | ⟨t, _, hc, _, _, rfl⟩ | hr
  · exact absurd rises (Nat.not_lt_zero _)
  · obtain ⟨up, granted, state, a, announced, due⟩ := round_rises (s := s.advance t) rises
    have now : (settle (claimPeriodEffect (s.advance t))).now = (s.advance t).now := by
      rw [(settle_reacted _).now]; simp
    exact ⟨⟨t, hc⟩, up, up.le.trans granted, state, a, by rw [up]; exact announced, now.symm ▸ due⟩
  · exact absurd hr.drawn_le (Nat.not_le.mpr rises)

end Sys2Proof.Machine
end

section
/-! SUPPORT. The lead record and the marks of the heat controller through a step: the lead is that of its inputs after each change of
one of them, and called, at target and the keep-warm call stand as R123 to R125 let them (R110 to R118, R123 to R126). -/

namespace Sys2Proof.Machine

open Sys2Proof

/-! ### The lead of its inputs -/

/-- Lead, mark and cabin used, of the inputs as they stand (R110 to R113, R120). -/
def State.leadOf (s : State) : Nat × LeadMark × Option (Int × CabinSource) :=
  match s.configured, s.figures with
  | true, some fig =>
      let r := computeLead fig.target s.cabinUsed.1 s.outdoor fig.demand fig.loss s.rating
      (r.1, r.2, some s.cabinUsed)
  | _, _ => (0, .none, none)

/-- The lead record holds what its inputs give. -/
def State.leadTaken (s : State) : Prop := (s.lead.lead, s.lead.mark, s.lead.cabin) = s.leadOf

theorem State.leadOf_unconfigured {s : State} (h : s.configured = false) : s.leadOf = (0, .none, none) := by
  unfold State.leadOf; rw [h]

theorem leadFromInputs_lead (s : State) :
    ((leadFromInputs s).lead.lead, (leadFromInputs s).lead.mark, (leadFromInputs s).lead.cabin) =
      if s.configured then s.leadOf else (s.lead.lead, s.lead.mark, s.lead.cabin) := by
  unfold leadFromInputs State.leadOf
  cases s.configured with
  | false => rfl
  | true => cases s.figures <;> rfl

/-- The inputs of the lead but for the lowest air temperature (R110 to R112). -/
structure SameInputs (a b : State) : Prop where
  phase : b.start.phase = a.start.phase
  image : b.start.image = a.start.image
  session : b.bay.session = a.bay.session
  cache : b.link.cache.fresh = true ∨ a.link.cache.fresh = true → b.link.cache = a.link.cache
  probe : b.lead.probe = a.lead.probe

theorem SameInputs.leadOf {a b : State} (h : SameInputs a b) (given : b.peers.lowestGiven = a.peers.lowestGiven) :
    b.leadOf = a.leadOf := by
  obtain ⟨phase, image, session, cache, probe⟩ := h
  have outdoor : b.outdoor = a.outdoor := by unfold State.outdoor; rw [image, probe, given]
  have cabin : b.cabinUsed = a.cabinUsed := by
    unfold State.cabinUsed
    rw [outdoor]
    cases hb : b.link.cache.fresh with
    | true => rw [cache (.inl hb)] at *; rw [hb]
    | false =>
      cases ha : a.link.cache.fresh with
      | true => rw [cache (.inr ha), ha] at hb; cases hb
      | false => rfl
  unfold State.leadOf State.configured State.figures State.identity State.rating
  rw [phase, image, session, outdoor, cabin]

theorem State.leadTaken_congr {a b : State} (h : a.leadTaken) (inputs : SameInputs a b)
    (given : b.peers.lowestGiven = a.peers.lowestGiven) (lead : b.lead.lead = a.lead.lead) (mark : b.lead.mark = a.lead.mark)
    (cabin : b.lead.cabin = a.lead.cabin) : b.leadTaken := by
  unfold State.leadTaken
  rw [lead, mark, cabin, inputs.leadOf given]
  exact h

/-- A recomputation takes the lead of the inputs as they stand; before the part is configured there is none to take (R117, R120). -/
theorem leadFromInputs_taken {s : State} (h : s.configured = false → s.leadTaken) : (leadFromInputs s).leadTaken := by
  have inputs : SameInputs s (leadFromInputs s) := by constructor <;> simp
  unfold State.leadTaken
  rw [leadFromInputs_lead, inputs.leadOf (by simp)]
  cases hc : s.configured with
  | false => exact h hc
  | true => rfl

theorem deriveLatest_taken {s : State} (h : s.leadTaken) : (deriveLatest s).leadTaken :=
  State.leadTaken_congr h (by constructor <;> simp) (by simp) (by simp) (by simp) (by simp)

/-- What a part without figures holds, it holds whatever its other inputs are. -/
theorem State.leadTaken_unconfigured {a b : State} (h : a.leadTaken) (hb : b.configured = false) (phase : b.start.phase = a.start.phase)
    (lead : b.lead.lead = a.lead.lead) (mark : b.lead.mark = a.lead.mark) (cabin : b.lead.cabin = a.lead.cabin) : b.leadTaken := by
  have ha : a.configured = false := by unfold State.configured at *; rwa [phase] at hb
  unfold State.leadTaken at *
  rw [lead, mark, cabin, h, State.leadOf_unconfigured ha, State.leadOf_unconfigured hb]

/-- Reading the table takes the lead afresh when the lowest air temperature has moved (R104, R107, R117). -/
theorem readPeers_taken {s : State} (h : s.leadTaken) : (readPeers s).leadTaken := by
  unfold readPeers
  dsimp only
  split
  · exact State.leadTaken_congr h (by constructor <;> simp) rfl rfl rfl rfl
  · exact deriveLatest_taken (leadFromInputs_taken fun hc => State.leadTaken_unconfigured h hc rfl rfl rfl rfl)

/-- The table read before the lead is taken afresh leaves a part without figures as it was. -/
theorem readPeers_unconfigured {s : State} (h : s.configured = false → s.leadTaken) :
    (readPeers s).configured = false → (readPeers s).leadTaken := fun hc =>
  readPeers_taken (h (by simpa [State.configured] using hc))

theorem recomputeLead_taken {s : State} (h : s.configured = false → s.leadTaken) : (recomputeLead s).leadTaken :=
  deriveLatest_taken (leadFromInputs_taken (readPeers_unconfigured h))

/-- A cabin used from a reading is a fresh one (R110). -/
theorem State.leadTaken.fresh {s : State} (h : s.leadTaken) {v : Int} (e : s.lead.cabin = some (v, .cabin)) :
    s.link.cache.fresh = true := by
  have k : s.leadOf.2.2 = some (v, .cabin) := by rw [← h]; exact e
  unfold State.leadOf at k
  cases hc : s.configured <;> cases hf : s.figures <;> simp only [hc, hf] at k
  case true.some =>
    unfold State.cabinUsed at k
    cases hfresh : s.link.cache.fresh with
    | true => rfl
    | false => rw [hfresh] at k; simp at k
  all_goals cases k

/-! ### The marks -/

/-- At target stands on a fresh cabin while called, and the keep-warm call only with it (R125). -/
def State.targetRight (s : State) : Prop :=
  (s.heat.atTarget = true → s.heat.called = true ∧ s.link.cache.fresh = true) ∧
  (s.heat.keepWarm = true → s.heat.atTarget = true)

/-- The marks as they stand after the heat state is given: OFF is not called (R124). -/
def State.marksRight (s : State) : Prop := (s.heat.state = .off → s.heat.called = false) ∧ s.targetRight

/-- The marks as they may stand before: called may be set in a state that R123 is about to leave. -/
def State.marksReady (s : State) : Prop :=
  (s.heat.state = .off → s.offCondition = true → s.heat.called = false) ∧ s.targetRight

theorem State.marksRight.ready {s : State} (h : s.marksRight) : s.marksReady := ⟨fun k _ => h.1 k, h.2⟩

theorem State.targetRight_congr {a b : State} (h : a.targetRight) (called : b.heat.called = a.heat.called)
    (target : b.heat.atTarget = a.heat.atTarget) (warm : b.heat.keepWarm = a.heat.keepWarm)
    (fresh : b.link.cache.fresh = a.link.cache.fresh) : b.targetRight := by
  unfold State.targetRight at *
  rwa [called, target, warm, fresh]

theorem State.marksRight_congr {a b : State} (h : a.marksRight) (state : b.heat.state = a.heat.state)
    (called : b.heat.called = a.heat.called) (target : b.heat.atTarget = a.heat.atTarget)
    (warm : b.heat.keepWarm = a.heat.keepWarm) (fresh : b.link.cache.fresh = a.link.cache.fresh) : b.marksRight :=
  ⟨by rw [state, called]; exact h.1, State.targetRight_congr h.2 called target warm fresh⟩

/-- With at target and the call cleared nothing is left to hold of them. -/
theorem State.targetRight_cleared {s : State} (target : s.heat.atTarget = false) (warm : s.heat.keepWarm = false) : s.targetRight :=
  ⟨fun h => (Bool.false_ne_true (target.symm.trans h)).elim, fun h => (Bool.false_ne_true (warm.symm.trans h)).elim⟩

/-- Called is set where it may be, and at target with it where the cabin used is a reading at or above the target (R124, R125). -/
theorem updateCalled_cases (s : State) :
    (updateCalled s = s ∧ (s.offCondition = true ∨ s.startReached = false ∨ s.heat.called = true)) ∨
    (s.offCondition = false ∧ s.startReached = true ∧ (updateCalled s).heat.called = true ∧
      (((updateCalled s).heat.atTarget = s.heat.atTarget ∧ (updateCalled s).heat.keepWarm = s.heat.keepWarm) ∨
        ((updateCalled s).heat.atTarget = true ∧ ∃ v, s.lead.cabin = some (v, .cabin)))) := by
  unfold updateCalled
  split
  · next h =>
    simp only [Bool.and_eq_true, Bool.not_eq_true'] at h
    obtain ⟨⟨off, reached⟩, _⟩ := h
    refine .inr ⟨off, reached, ?_⟩
    dsimp only
    split
    · next v fig hv _ =>
      split
      · exact ⟨rfl, .inr ⟨rfl, v, hv⟩⟩
      · exact ⟨rfl, .inl ⟨rfl, rfl⟩⟩
    · exact ⟨rfl, .inl ⟨rfl, rfl⟩⟩
  · next h =>
    refine .inl ⟨rfl, ?_⟩
    cases h1 : s.offCondition <;> cases h2 : s.startReached <;> cases h3 : s.heat.called <;> simp_all

theorem updateCalled_targetRight {s : State} (taken : s.leadTaken) (h : s.targetRight) : (updateCalled s).targetRight := by
  have fresh : (updateCalled s).link.cache.fresh = s.link.cache.fresh := by simp
  rcases updateCalled_cases s with ⟨e, _⟩ | ⟨_, _, called, ⟨target, warm⟩ | ⟨target, v, cabin⟩⟩
  · rwa [e]
  · exact ⟨fun k => ⟨called, by rw [fresh]; exact (h.1 (by rwa [← target])).2⟩, fun k => by rw [target]; exact h.2 (by rwa [← warm])⟩
  · exact ⟨fun _ => ⟨called, by rw [fresh]; exact taken.fresh cabin⟩, fun _ => target⟩

/-- The off conditions read nothing of the heat record. -/
theorem updateCalled_offCondition (s : State) : (updateCalled s).offCondition = s.offCondition := by
  simp [State.offCondition, State.pluggedForHeat, State.sessionOpen, State.identity, State.configured, State.lineFault]

theorem heatTest_eq_off {s : State} : s.heatTest = .off ↔ s.offCondition = true := by
  unfold State.heatTest
  constructor
  · intro h
    by_contra no
    rw [if_neg no] at h
    split_ifs at h
  · intro h; rw [if_pos h]

/-- An entry to OFF forgets called and the marks; any other keeps them, as does a state that stays (R124, R125). -/
theorem enterHeatState_marks (new : HeatState) (s : State) :
    (new = .off ∧ new ≠ s.heat.state ∧ (enterHeatState new s).heat.called = false ∧ (enterHeatState new s).heat.atTarget = false ∧
      (enterHeatState new s).heat.keepWarm = false) ∨
    ((new = .off → new = s.heat.state) ∧ (enterHeatState new s).heat.called = s.heat.called ∧
      (enterHeatState new s).heat.atTarget = s.heat.atTarget ∧ (enterHeatState new s).heat.keepWarm = s.heat.keepWarm) := by
  unfold enterHeatState
  split
  · next h => exact .inr ⟨fun _ => h, rfl, rfl, rfl⟩
  · next h => cases new <;> dsimp only <;> split <;> simp [dropAll_heat, clearAtTarget, Heat.overrule, h]

/-- The marks after the heat state is given afresh (R123 to R125). -/
theorem evalHeat_marks {s : State} (taken : s.leadTaken) (h : s.marksReady) :
    (evalHeat s).marksRight ∧
      ((evalHeat s).heat.state ≠ .off → s.startReached = true → (evalHeat s).heat.called = true) := by
  have state : (evalHeat s).heat.state = (updateCalled s).heatTest := by
    unfold evalHeat; dsimp only; rw [updateWanted_heat]; exact (enterHeatState_heat _ _).1
  have target := updateCalled_targetRight taken h.2
  have fresh : (evalHeat s).link.cache.fresh = (updateCalled s).link.cache.fresh := by simp
  have called : (evalHeat s).heat.called = (enterHeatState (updateCalled s).heatTest (updateCalled s)).heat.called ∧
      (evalHeat s).heat.atTarget = (enterHeatState (updateCalled s).heatTest (updateCalled s)).heat.atTarget ∧
      (evalHeat s).heat.keepWarm = (enterHeatState (updateCalled s).heatTest (updateCalled s)).heat.keepWarm := by
    unfold evalHeat; dsimp only; rw [updateWanted_heat]; exact ⟨rfl, rfl, rfl⟩
  obtain ⟨hc, ht, hw⟩ := called
  rcases enterHeatState_marks (updateCalled s).heatTest (updateCalled s) with ⟨off, _, c, t, w⟩ | ⟨stays, c, t, w⟩
  · refine ⟨⟨fun _ => by rw [hc, c], State.targetRight_cleared (by rw [ht, t]) (by rw [hw, w])⟩, fun k => absurd ?_ k⟩
    rw [state, off]
  · rw [c] at hc
    refine ⟨⟨fun k => ?_, State.targetRight_congr target hc (by rw [ht, t]) (by rw [hw, w]) fresh⟩, fun k reached => ?_⟩
    · rw [state] at k
      have off : s.offCondition = true := by rw [← updateCalled_offCondition]; exact heatTest_eq_off.mp k
      rcases updateCalled_cases s with ⟨e, _⟩ | ⟨no, _⟩
      · rw [hc, e]
        refine h.1 ?_ off
        have stood := stays k
        rw [k, e] at stood
        exact stood.symm
      · exact absurd (no.symm.trans off) Bool.false_ne_true
    · rw [state] at k
      have on : s.offCondition = false := by
        rw [← updateCalled_offCondition, ← Bool.not_eq_true]; exact fun o => k (heatTest_eq_off.mpr o)
      rcases updateCalled_cases s with ⟨e, why⟩ | ⟨_, _, up, _⟩
      · rw [hc, e]
        rcases why with off | early | up
        · exact absurd (on.symm.trans off) Bool.false_ne_true
        · exact absurd (early.symm.trans reached) Bool.false_ne_true
        · exact up
      · rw [hc, up]

/-! ### The lead and the marks through every effect -/

variable {m : Prop}

/-- The lead is that of its inputs, and, under an assumption of their own, the marks stand. -/
def State.governed (m : Prop) (s : State) : Prop := s.leadTaken ∧ (m → s.marksRight)

/-- The marks stand, and a recomputation makes the lead that of its inputs: before the part is configured it is so already. -/
def State.governable (m : Prop) (s : State) : Prop := (s.configured = false → s.leadTaken) ∧ (m → s.marksRight)

theorem State.governed.governable {s : State} (h : s.governed m) : s.governable m := ⟨fun _ => h.1, h.2⟩

/-- The inputs of the lead, the lead and the marks as they stood. -/
theorem State.governed.of_eq {a b : State} (h : a.governed m) (phase : b.start.phase = a.start.phase := by simp)
    (image : b.start.image = a.start.image := by simp) (session : b.bay.session = a.bay.session := by simp)
    (cache : b.link.cache = a.link.cache := by simp) (probe : b.lead.probe = a.lead.probe := by simp)
    (given : b.peers.lowestGiven = a.peers.lowestGiven := by simp) (lead : b.lead.lead = a.lead.lead := by simp)
    (mark : b.lead.mark = a.lead.mark := by simp) (cabin : b.lead.cabin = a.lead.cabin := by simp)
    (state : b.heat.state = a.heat.state := by simp) (called : b.heat.called = a.heat.called := by simp)
    (target : b.heat.atTarget = a.heat.atTarget := by simp) (warm : b.heat.keepWarm = a.heat.keepWarm := by simp) : b.governed m :=
  ⟨State.leadTaken_congr h.1 ⟨phase, image, session, fun _ => cache, probe⟩ given lead mark cabin,
    fun k => State.marksRight_congr (h.2 k) state called target warm (by rw [cache])⟩

/-- Whatever inputs moved, the lead and the marks as they stood. -/
theorem State.governable.of_eq {a b : State} (h : a.governable m) (phase : b.start.phase = a.start.phase := by simp)
    (fresh : b.link.cache.fresh = a.link.cache.fresh := by simp) (lead : b.lead.lead = a.lead.lead := by simp)
    (mark : b.lead.mark = a.lead.mark := by simp) (cabin : b.lead.cabin = a.lead.cabin := by simp)
    (state : b.heat.state = a.heat.state := by simp) (called : b.heat.called = a.heat.called := by simp)
    (target : b.heat.atTarget = a.heat.atTarget := by simp) (warm : b.heat.keepWarm = a.heat.keepWarm := by simp) : b.governable m :=
  ⟨fun hb => State.leadTaken_unconfigured (h.1 (by unfold State.configured at *; rwa [← phase])) hb phase lead mark cabin,
    fun k => State.marksRight_congr (h.2 k) state called target warm fresh⟩

theorem State.governable.recomputeLead {s : State} (h : s.governable m) : (recomputeLead s).governed m :=
  ⟨recomputeLead_taken h.1, fun k => State.marksRight_congr (h.2 k) (by simp) (by simp) (by simp) (by simp) (by simp)⟩

theorem State.governed.readPeers {s : State} (h : s.governed m) : (readPeers s).governed m :=
  ⟨readPeers_taken h.1, fun k => State.marksRight_congr (h.2 k) (by simp) (by simp) (by simp) (by simp) (by simp)⟩

theorem State.governed.evalHeat {s : State} (h : s.governed m) : (evalHeat s).governed m :=
  ⟨State.leadTaken_congr h.1 (by constructor <;> simp) (by simp) (by simp) (by simp) (by simp), fun k => (evalHeat_marks h.1 (h.2 k).ready).1⟩

/-- A stale cabin leaves no at target (R34, R125). -/
theorem State.cacheWentStale_governed {s : State} (idle : s.configured = false → s.leadTaken)
    (off : m → s.heat.state = .off → s.heat.called = false) : (cacheWentStale s).governed m := by
  refine ⟨?_, fun k => ⟨?_, State.targetRight_cleared (by simp) (by simp)⟩⟩
  · exact State.leadTaken_congr (recomputeLead_taken idle) (by constructor <;> simp [cacheWentStale]) (by simp [cacheWentStale])
      (by simp [cacheWentStale]) (by simp [cacheWentStale]) (by simp [cacheWentStale])
  · simpa using off k

/-- The cache put to something not fresh: the lead and the marks follow if it was fresh, else nothing of it was used. -/
theorem State.governed.cachePut {s a : State} (h : s.governed m) (phase : a.start.phase = s.start.phase)
    (image : a.start.image = s.start.image) (session : a.bay.session = s.bay.session) (probe : a.lead.probe = s.lead.probe)
    (given : a.peers.lowestGiven = s.peers.lowestGiven) (lead : a.lead = s.lead) (heat : a.heat = s.heat)
    (stale : a.link.cache.fresh = false) :
    (if s.link.cache.fresh then cacheWentStale a else a).governed m := by
  split
  · next fresh =>
    refine State.cacheWentStale_governed (fun hc => ?_) (by rw [heat]; exact fun k => (h.2 k).1)
    exact State.leadTaken_unconfigured h.1 hc phase (by rw [lead]) (by rw [lead]) (by rw [lead])
  · next fresh =>
    rw [Bool.not_eq_true] at fresh
    refine ⟨State.leadTaken_congr h.1 ⟨phase, image, session, fun k => ?_, probe⟩ given (by rw [lead]) (by rw [lead]) (by rw [lead]),
      fun k => State.marksRight_congr (h.2 k) (by rw [heat]) (by rw [heat]) (by rw [heat]) (by rw [heat]) (by rw [stale, fresh])⟩
    rw [stale, fresh] at k
    simp at k

theorem State.governed.staleCache {s : State} (h : s.governed m) : (staleCache s).governed m := by
  unfold Machine.staleCache
  split
  · next fresh =>
    have k := h.cachePut (a := { s with link := { s.link with cache := { s.link.cache with fresh := false, staleTimer := none } } })
      rfl rfl rfl rfl rfl rfl rfl rfl
    rwa [if_pos fresh] at k
  · exact h

theorem State.governed.takeNoSensor {s : State} (h : s.governed m) : (takeNoSensor s).governed m :=
  h.cachePut rfl rfl rfl rfl rfl rfl rfl rfl

theorem State.governable.emptyCache {s : State} (h : s.governable m) : (emptyCache s).governable m := by
  unfold Machine.emptyCache
  dsimp only
  split
  · have put := State.cacheWentStale_governed (s := { s with link := { s.link with cache :=
        { s.link.cache with content := .none, fresh := false, staleTimer := none } } })
      (fun hc => State.leadTaken_unconfigured (h.1 hc) hc rfl rfl rfl rfl) fun k => (h.2 k).1
    exact put.governable
  · next fresh =>
    rw [Bool.not_eq_true] at fresh
    exact h.of_eq (fresh := by simp [fresh])

theorem State.governable.heatSessionEnd {s : State} (h : s.governable m) : (heatSessionEnd s).governed m :=
  State.governed.evalHeat (State.governable.recomputeLead (h.of_eq))

theorem State.governable.endSession {s : State} (h : s.governable m) (cause : EndCause) (coach : Nat) :
    (endSession cause coach s).governed m := by
  have emptied : (Machine.emptyCache
      { s with bay := { s.bay with session := .none }, faults := s.faults.endSession, link := s.link.discardPass }).governable m :=
    State.governable.emptyCache (h.of_eq (fresh := by simp [Link.discardPass]))
  have told : (clearanceSessionEnd cause coach (lampSessionEnd (Machine.emptyCache
      { s with bay := { s.bay with session := .none }, faults := s.faults.endSession, link := s.link.discardPass }))).governable m :=
    emptied.of_eq
  unfold Machine.endSession
  exact told.heatSessionEnd.of_eq

theorem State.governable.openSession {s : State} (h : s.governable m) (id : Identity) : (openSession id s).governed m := by
  have opened : (Machine.recomputeLead
      { s with bay := { s.bay with session := .opened id },
               link := { s.link with passOwed := true, passTimer := some (s.now + Config.passPeriod) } }).governed m :=
    State.governable.recomputeLead (h.of_eq)
  unfold Machine.openSession
  dsimp only
  split <;> exact opened.of_eq

theorem State.governed.putIdentity {s : State} (h : s.governed m) (id : Identity) : (putIdentity id s).governed m := by
  rcases putIdentity_cases id s with ⟨_, e⟩ | ⟨_, e⟩ | ⟨held, _, e⟩ <;> rw [e]
  · exact h
  · exact h.governable.openSession id
  · exact (h.governable.endSession .identityReplaced held.coach).governable.openSession id

theorem State.governed.enterEmpty {s : State} (h : s.governed m) : (enterEmpty s).governed m := by
  have emptied : State.governed m { s with bay := { s.bay with occupancy := .empty, implied := false } } := h.of_eq
  unfold Machine.enterEmpty
  dsimp only
  split
  · next id _ _ =>
    have departed : (departSession id { s with bay := { s.bay with occupancy := .empty, implied := false } }).governed m :=
      State.governable.recomputeLead (emptied.governable.of_eq)
    exact departed.of_eq
  · exact emptied.of_eq
  · exact emptied.of_eq
  · exact emptied.governable.endSession _ _
  · exact emptied

theorem State.governed.loopClear {s : State} (h : s.governed m) : (loopClear s).governed m := by
  unfold Machine.loopClear
  split
  · exact h.enterEmpty
  · exact h
  all_goals exact h.of_eq

theorem State.governed.bayPlugOut {s : State} (h : s.governed m) : (bayPlugOut s).governed m := by
  unfold Machine.bayPlugOut
  split
  case h_1 | h_2 => exact h
  all_goals
    dsimp only
    split
    · exact State.governed.enterEmpty
        (s := { s with link := { s.link with identifyReq := false }, bay := { s.bay with reidentify := none } }) h.of_eq
    · exact h.of_eq

theorem State.governed.linkPlugOut {s : State} (h : s.governed m) : (linkPlugOut s).governed m := by
  unfold Machine.linkPlugOut
  split
  · exact h
  · have before : (abandonPass true { abandonCheck (idleLink s) with link := { (abandonCheck (idleLink s)).link with
        state := .unplugged, failureRun := 0, identifyReq := false, lampReq := none, tempReq := false } }).governed m := h.of_eq
    exact before.staleCache.of_eq

theorem State.governed.declareLost {s : State} (h : s.governed m) : (declareLost s).governed m := by
  have before : (abandonPass true { s with link := { s.link with
      state := .lost, failureRun := 0, lampReq := none, tempReq := false } }).governed m := h.of_eq
  unfold Machine.declareLost
  exact before.staleCache.of_eq

theorem State.governed.countFailure {s : State} (h : s.governed m) : (countFailure s).governed m := by
  unfold Machine.countFailure
  split
  · exact h.of_eq
  · split
    · exact h.of_eq
    · exact h.declareLost

theorem State.governed.transactionFails {s : State} (h : s.governed m) (x : Transaction) : (transactionFails x s).governed m := by
  have counted : (Machine.countFailure (idleLink s)).governed m := State.governed.countFailure h.of_eq
  unfold Machine.transactionFails
  exact counted.of_eq

theorem State.governed.identifySucceeded {s : State} (h : s.governed m) (id : Identity) : (identifySucceeded id s).governed m := by
  unfold Machine.identifySucceeded
  split
  case h_3 => exact h
  all_goals
    exact State.governed.putIdentity
      (s := { s with bay := { s.bay with occupancy := .connected, reidentify := none } }) h.of_eq id

theorem State.governed.transitOver {s : State} (h : s.governed m) : (transitOver s).governed m := by
  rcases transitOver_cases s with ⟨id, _, e⟩ | ⟨_, e⟩ <;> rw [e]
  · exact State.governable.endSession (s := afterTransit s) (State.governed.governable h.of_eq) _ _
  · exact h.of_eq

theorem State.governed.heaterOverdrawn {s : State} (h : s.governed m) (metered : Nat) : (heaterOverdrawn metered s).governed m := by
  have fault : State.governed m { s with heat := { s.heat with heaterFault := true }, meter := { s.meter with overdrawRun := 0 } } :=
    h.of_eq
  unfold Machine.heaterOverdrawn
  exact fault.evalHeat.of_eq

theorem State.governed.applyVerdict {s : State} (h : s.governed m) (v : MeterVerdict) (metered : Nat) :
    (applyVerdict v metered s).governed m := by
  unfold Machine.applyVerdict
  split
  · split
    · exact h.of_eq
    · exact h.heaterOverdrawn metered
  · dsimp only; split <;> exact h.of_eq
  all_goals exact h.of_eq

theorem State.governable.sampleProbe {s : State} (h : s.governable m) (v : Int) : (sampleProbe v s).governed m := by
  have sampled : (Machine.recomputeLead { s with lead := { s.lead with
      probe := some (clampInt Config.lowestTemp Config.highestTemp v), probeTimer := some (s.now + Config.probePeriod) } }).governed m :=
    State.governable.recomputeLead h.of_eq
  unfold Machine.sampleProbe
  exact sampled.of_eq

theorem State.governed.acceptAssign {s : State} (h : s.governed m) (coach countdown : Nat) :
    (acceptAssign coach countdown s).governed m := by
  unfold Machine.acceptAssign
  exact State.governable.recomputeLead (h.governable.of_eq)

theorem State.governed.giveLowestAir {s a : State} (h : s.governed m) (phase : a.start.phase = s.start.phase := by simp)
    (image : a.start.image = s.start.image := by simp) (session : a.bay.session = s.bay.session := by simp)
    (cache : a.link.cache = s.link.cache := by simp) (lead : a.lead = s.lead := by simp)
    (given : a.peers.lowestGiven = s.peers.lowestGiven := by simp) (heat : a.heat = s.heat := by simp) :
    (giveLowestAir a).governed m := by
  have same : a.governed m := h.of_eq phase image session cache (by rw [lead]) given (by rw [lead]) (by rw [lead]) (by rw [lead])
    (by rw [heat]) (by rw [heat]) (by rw [heat]) (by rw [heat])
  unfold Machine.giveLowestAir
  split
  · exact same
  · exact State.governable.recomputeLead (same.governable.of_eq)

theorem State.governed.updateDrawing {s : State} (h : s.governed m) (grant : Nat) : (updateDrawing grant s).governed m :=
  h.of_eq (state := by simp [updateDrawing_heat_eq, Heat.overrule]) (called := by simp [updateDrawing_heat_eq, Heat.overrule])
    (target := by simp [updateDrawing_heat_eq, Heat.overrule]) (warm := by simp [updateDrawing_heat_eq, Heat.overrule])

theorem State.governed.markStarvedRound {s : State} (h : s.governed m) : (markStarvedRound s).governed m :=
  h.of_eq (state := by simp [markStarvedRound_heat]) (called := by simp [markStarvedRound_heat])
    (target := by simp [markStarvedRound_heat]) (warm := by simp [markStarvedRound_heat])

theorem State.governed.raiseDrawn {s : State} (h : s.governed m) : (raiseDrawn s).governed m := by
  rcases raiseDrawn_cases s with e | ⟨_, _, _, _, _, _, e⟩ <;> rw [e]
  · exact h
  · exact h.of_eq (state := by simp [setDrawn_heat]) (called := by simp [setDrawn_heat]) (target := by simp [setDrawn_heat])
      (warm := by simp [setDrawn_heat])

theorem State.governed.takeRound {s : State} (h : s.governed m) : (takeRound s).governed m := by
  have read : (roundRead s).governed m := h.readPeers.evalHeat
  have drawn : (roundDrawn s).governed m := read.markStarvedRound.updateDrawing _
  exact drawn.evalHeat.raiseDrawn

theorem State.governed.claimPeriodEffect {s : State} (h : s.governed m) : (claimPeriodEffect s).governed m := by
  unfold Machine.claimPeriodEffect
  exact h.takeRound.of_eq

/-- A part that reads its image holds no figures yet (R120). -/
theorem State.governed.unread {s a : State} (h : s.governed m) (reading : s.start.phase = .reading)
    (lead : a.lead.lead = s.lead.lead := by simp) (mark : a.lead.mark = s.lead.mark := by simp)
    (cabin : a.lead.cabin = s.lead.cabin := by simp) (state : a.heat.state = s.heat.state := by simp)
    (called : a.heat.called = s.heat.called := by simp) (target : a.heat.atTarget = s.heat.atTarget := by simp)
    (warm : a.heat.keepWarm = s.heat.keepWarm := by simp) (fresh : a.link.cache.fresh = s.link.cache.fresh := by simp) :
    a.governable m := by
  refine ⟨fun hc => ?_, fun k => State.marksRight_congr (h.2 k) state called target warm fresh⟩
  have none : (s.lead.lead, s.lead.mark, s.lead.cabin) = (0, .none, none) := by
    rw [h.1, State.leadOf_unconfigured (by unfold State.configured; rw [reading]; rfl)]
  unfold State.leadTaken
  rw [lead, mark, cabin, none, State.leadOf_unconfigured hc]

theorem State.governable.startConfigured {s : State} (h : s.governable m) (probe : Int) : (startConfigured probe s).governed m := by
  unfold Machine.startConfigured
  dsimp only
  split
  · exact State.governable.sampleProbe h.of_eq probe
  · exact State.governable.recomputeLead h.of_eq

theorem State.governed.bringUpEffect {s : State} (h : s.governed m) (reading : s.start.phase = .reading) (img : Image) (passes : Bool)
    (probe : Int) : (bringUpEffect img passes probe s).governed m := by
  unfold Machine.bringUpEffect
  dsimp only
  split
  · exact State.governable.startConfigured (h.unread reading) probe
  · next fails =>
    refine ⟨(h.unread reading).1 ?_, (h.unread reading).2⟩
    simp [State.configured, fails]

/-! ### The end of an event -/

/-- What the reactions need before they give the heat state. -/
theorem react_governed {s : State} (taken : s.leadTaken) (ready : m → s.marksReady) : (react s).governed m := by
  have before : Reacted s (deriveLatest (readPeers (startCheck (startPass s)))) :=
    (Reacted.refl s).startPass.startCheck.readPeers.deriveLatest
  have lead : (deriveLatest (readPeers (startCheck (startPass s)))).leadTaken :=
    deriveLatest_taken (readPeers_taken (State.leadTaken_congr taken (by constructor <;> simp) (by simp) (by simp) (by simp) (by simp)))
  have marks (k : m) : (deriveLatest (readPeers (startCheck (startPass s)))).marksReady :=
    ⟨by rw [before.offCondition]; simpa using (ready k).1,
      State.targetRight_congr (ready k).2 (by simp) (by simp) (by simp) (by simp)⟩
  have given : (Machine.evalHeat (deriveLatest (readPeers (startCheck (startPass s))))).governed m :=
    ⟨State.leadTaken_congr lead (by constructor <;> simp) (by simp) (by simp) (by simp) (by simp),
      fun k => (evalHeat_marks lead (marks k)).1⟩
  rw [react_eq]
  exact given.of_eq

/-- Wanted follows the state given, and drawn with it (R126). -/
theorem evalHeat_wanted (s : State) :
    (evalHeat s).heat.wanted = (evalHeat s).wantedNow ∧ (evalHeat s).heat.drawn ≤ (evalHeat s).heat.wanted := by
  have image : (evalHeat s).start.image = (enterHeatState (updateCalled s).heatTest (updateCalled s)).start.image := by simp
  have heat : (evalHeat s).heat = _ := updateWanted_heat (enterHeatState (updateCalled s).heatTest (updateCalled s))
  unfold State.wantedNow
  rw [image, heat]
  exact ⟨rfl, Nat.min_le_left _ _⟩

/-- The state in which the last reactions give the heat state: the table read and the lead taken. -/
def lastRead (s : State) : State := deriveLatest (readPeers (startCheck (startPass (react s))))

theorem lastRead_reacted (s : State) : Reacted s (lastRead s) :=
  (Reacted.refl s).react.startPass.startCheck.readPeers.deriveLatest

/-- After the heat state is last given, clearance and the ends of the event leave what R123 to R126 read. -/
theorem settle_lastRead (s : State) :
    (settle s).lead = (lastRead s).lead ∧ (settle s).peers = (lastRead s).peers ∧ (settle s).heat = (evalHeat (lastRead s)).heat ∧
      (settle s).start = (lastRead s).start ∧ (settle s).link.cache = (lastRead s).link.cache ∧
      (settle s).bay.session = (lastRead s).bay.session := by
  refine ⟨?_, ?_, ?_, (settle_reacted s).start.trans (lastRead_reacted s).start.symm, ?_,
    (settle_reacted s).session.trans (lastRead_reacted s).session.symm⟩ <;>
    simp [settle_eq, react_eq (react s), lastRead]

theorem deriveLatest_latest (s : State) :
    (deriveLatest s).lead.latest = ((deriveLatest s).dep.assignment.bind fun _ =>
      (deriveLatest s).dep.countdown.map fun c => c - 60 * ((deriveLatest s).lead.lead : Int)) := by
  unfold deriveLatest
  dsimp only
  cases s.dep.assignment <;> cases s.dep.countdown <;> rfl

/-- At the end of an event the latest start is that of the countdown and the lead (R118). -/
theorem settle_latest (s : State) :
    (settle s).lead.latest = ((settle s).dep.assignment.bind fun _ =>
      (settle s).dep.countdown.map fun c => c - 60 * ((settle s).lead.lead : Int)) := by
  have lead := (settle_lastRead s).1
  have assignment := (settle_reacted s).assignment.trans (lastRead_reacted s).assignment.symm
  have countdown := (settle_reacted s).countdown.trans (lastRead_reacted s).countdown.symm
  rw [lead, assignment, countdown]
  exact deriveLatest_latest _

/-- At the end of an event the lowest air temperature given is that of the table (R107). -/
theorem settle_lowest (s : State) : (settle s).peers.lowestGiven = lowestAir (settle s).peers.entries := by
  rw [(settle_lastRead s).2.1]
  simp [lastRead]

/-- The heat record at an event's end, but for its state. -/
structure HeatSettled (s : State) : Prop where
  state : s.heat.state = s.heatTest
  wanted : s.heat.wanted = s.wantedNow
  drawn : s.heat.drawn ≤ s.heat.wanted
  called : s.heat.state ≠ .off → s.startReached = true → s.heat.called = true

theorem settle_governed {s : State} (taken : s.leadTaken) (ready : m → s.marksReady) :
    (settle s).governed m ∧ (m → HeatSettled (settle s)) := by
  obtain ⟨lead, peers, heat, start, cache, session⟩ := settle_lastRead s
  have last : (lastRead s).governed m := by
    have first : (react s).governed m := react_governed taken ready
    have read : (Machine.readPeers (startCheck (startPass (react s)))).governed m := State.governed.readPeers first.of_eq
    exact State.governed.of_eq (b := deriveLatest (Machine.readPeers (startCheck (startPass (react s))))) read
  have state := settle_heat s
  have image : (evalHeat (lastRead s)).start = (lastRead s).start := by simp
  have fresh : (evalHeat (lastRead s)).link.cache.fresh = (lastRead s).link.cache.fresh := by simp
  have marks (k : m) := evalHeat_marks last.1 (last.2 k).ready
  obtain ⟨wanted, drawn⟩ := evalHeat_wanted (lastRead s)
  generalize evalHeat (lastRead s) = e at *
  generalize lastRead s = r at *
  generalize settle s = u at *
  refine ⟨⟨State.leadTaken_congr last.1 ⟨by rw [start], by rw [start], session, fun _ => cache, by rw [lead]⟩ (by rw [peers])
      (by rw [lead]) (by rw [lead]) (by rw [lead]), fun k => State.marksRight_congr (marks k).1 (by rw [heat]) (by rw [heat])
      (by rw [heat]) (by rw [heat]) (by rw [cache, ← fresh])⟩, fun k => ⟨state, ?_, by rwa [heat], ?_⟩⟩
  · unfold State.wantedNow at wanted ⊢
    rwa [heat, start, ← image]
  · have called := (marks k).2
    unfold State.startReached at called ⊢
    rwa [heat, lead]

/-! ### The two records as the rules state them -/

theorem State.leadRight_iff {s : State} :
    s.leadRight ↔ s.leadTaken ∧
      s.lead.latest = (s.dep.assignment.bind fun _ => s.dep.countdown.map fun c => c - 60 * (s.lead.lead : Int)) ∧
      s.peers.lowestGiven = lowestAir s.peers.entries ∧ (s.start.readTimer.isSome = true → s.start.phase = .reading) := by
  have taken : s.leadTaken ↔
      (s.configured = true → holdsOf s.figures (fun fig =>
        decide ((s.lead.lead, s.lead.mark) =
          computeLead fig.target s.cabinUsed.1 s.outdoor fig.demand fig.loss (s.start.image.stages * s.start.image.power * 100)) &&
        decide (s.lead.cabin = some s.cabinUsed)) = true) ∧
      (s.configured = false ∨ s.figures = none → s.lead.lead = 0 ∧ s.lead.mark = .none ∧ s.lead.cabin = none) := by
    unfold State.leadTaken State.leadOf
    cases hc : s.configured <;> cases hf : s.figures <;> simp [holdsOf, State.rating, Prod.ext_iff, and_assoc]
  unfold State.leadRight
  rw [taken, and_assoc]

theorem State.offCondition_iff {s : State} : s.offCondition = true ↔
    s.start.image.stages = 0 ∨ (s.bay.occupancy ≠ .connected ∧ s.bay.occupancy ≠ .unlinked) ∨ s.sessionOpen = false ∨
      (s.dep.state ≠ .assigned ∧ s.dep.state ≠ .ready ∧ s.dep.state ≠ .settling) ∨ s.configured = false ∨
      s.line.status ≠ .normal ∨ s.line.conflict = true := by
  have heats : s.dep.state.heats = false ↔ s.dep.state ≠ .assigned ∧ s.dep.state ≠ .ready ∧ s.dep.state ≠ .settling := by
    cases s.dep.state <;> simp [DepState.heats]
  simp [State.offCondition, State.pluggedForHeat, State.lineFault, heats, or_assoc]

theorem State.heatRight_iff {s : State} : s.heatRight ↔ HeatSettled s ∧ s.marksRight := by
  have test : s.heatTest =
      (if s.start.image.stages = 0 ∨ (s.bay.occupancy ≠ .connected ∧ s.bay.occupancy ≠ .unlinked) ∨ s.sessionOpen = false ∨
        (s.dep.state ≠ .assigned ∧ s.dep.state ≠ .ready ∧ s.dep.state ≠ .settling) ∨ s.configured = false ∨
        s.line.status ≠ .normal ∨ s.line.conflict = true then HeatState.off
      else if s.heat.heaterFault = true then .fault
      else if s.heat.called = false then .waiting
      else if s.supply.sag = true then .shed
      else if s.heat.atTarget = true then .maintain
      else if 0 < s.heat.grant then .heating
      else .starved) := by
    unfold State.heatTest
    simp only [State.offCondition_iff, Bool.not_eq_true']
  have wanted : s.wantedNow =
      (if s.heat.state = .starved ∨ s.heat.state = .heating then s.start.image.stages
      else if s.heat.state = .maintain ∧ s.heat.keepWarm = true then 1 else 0) := by
    unfold State.wantedNow; cases s.heat.state <;> simp
  have reached : s.startReached = true ↔ holdsOf s.lead.latest (fun l => decide (l ≤ 0)) = true ∧ s.lead.latest.isSome = true := by
    unfold State.startReached; cases s.lead.latest <;> simp [holdsOf]
  unfold State.heatRight
  rw [← test, ← wanted]
  constructor
  · rintro ⟨hs, hw, hd, hc, off, target, warm⟩
    exact ⟨⟨hs, hw, hd, fun k r => hc k (reached.mp r).1 (reached.mp r).2⟩, off, target, warm⟩
  · rintro ⟨⟨hs, hw, hd, hc⟩, off, target, warm⟩
    exact ⟨hs, hw, hd, fun k r r' => hc k (reached.mpr ⟨r, r'⟩), off, target, warm⟩

/-! ### The obligation -/

theorem Stands.heatSettled {a b : State} (h : Stands a b) (k : HeatSettled a) : HeatSettled b := by
  obtain ⟨state, wanted, drawn, called⟩ := k
  have test : b.heatTest = a.heatTest := by
    unfold State.heatTest State.offCondition State.pluggedForHeat State.sessionOpen State.identity State.configured
    rw [h.start, h.session, h.occupancy, h.heat, h.dep, h.sag, h.lineFault, h.conflict]
  refine ⟨by rw [test, h.heat]; exact state, ?_, by rwa [h.heat], ?_⟩
  · unfold State.wantedNow at wanted ⊢; rwa [h.heat, h.start]
  · unfold State.startReached at called ⊢; rwa [h.heat, h.lead]

theorem Stands.governed {a b : State} (h : Stands a b) (k : a.governed m) : b.governed m :=
  k.of_eq (by rw [h.start]) (by rw [h.start]) h.session h.cache (by rw [h.lead]) h.given (by rw [h.lead]) (by rw [h.lead])
    (by rw [h.lead]) (by rw [h.heat]) (by rw [h.heat]) (by rw [h.heat]) (by rw [h.heat])

theorem updateCalled_ready {s : State} (taken : s.leadTaken) (marks : s.marksRight) : (updateCalled s).marksReady := by
  refine ⟨fun off cond => ?_, updateCalled_targetRight taken marks.2⟩
  rw [updateCalled_offCondition] at cond
  rcases updateCalled_cases s with ⟨e, _⟩ | ⟨no, _⟩
  · rw [e] at off ⊢; exact marks.1 off
  · exact absurd (no.symm.trans cond) Bool.false_ne_true

/-- A reading may set called in a state that the reactions are about to leave, and at target on the cabin just made fresh (R125). -/
theorem readingMarks_ready {s : State} (taken : s.leadTaken) (marks : s.marksRight) (fresh : s.link.cache.fresh = true) (v : Int) :
    (readingMarks v s).marksReady := by
  unfold readingMarks
  split
  · exact marks.ready
  · next fig _ =>
    split
    · next target =>
      refine ⟨fun k _ => by simpa using marks.1 (by simpa using k), ?_, fun _ => by simpa using target⟩
      intro _
      simpa [fresh] using (marks.2.1 target).1
    · dsimp only
      split
      · next h =>
        simp only [Bool.and_eq_true, Bool.not_eq_true'] at h
        have up := (updateCalled_ready taken marks).1
        refine ⟨up, fun _ => ⟨h.1.1, by simpa using fresh⟩, fun _ => rfl⟩
      · exact updateCalled_ready taken marks

theorem takeReading_ready {s : State} (h : s.governed m) (temp : Int) :
    (takeReading temp s).leadTaken ∧ (m → (takeReading temp s).marksReady) := by
  have read : ∀ a : State, a.governable False → (m → a.marksRight) → a.link.cache.fresh = true → ∀ v,
      (readingMarks v (recomputeLead a)).leadTaken ∧ (m → (readingMarks v (recomputeLead a)).marksReady) := by
    intro a idle marks fresh v
    have taken := recomputeLead_taken idle.1
    refine ⟨State.leadTaken_congr taken (by constructor <;> simp) (by simp) (by simp) (by simp) (by simp), fun k => ?_⟩
    exact readingMarks_ready taken (State.marksRight_congr (marks k) (by simp) (by simp) (by simp) (by simp) (by simp))
      (by simpa using fresh) v
  unfold takeReading
  dsimp only
  refine read _ ⟨fun hc => ?_, False.elim⟩ (fun k => ?_) rfl _
  · exact State.leadTaken_unconfigured h.1 hc rfl rfl rfl rfl
  · obtain ⟨off, target, warm⟩ := h.2 k
    exact ⟨off, fun on => ⟨(target on).1, rfl⟩, warm⟩

/-- An effect leaves the lead that of its inputs, and the marks as the reactions need them. -/
theorem Effect.governed {s v : State} (e : Effect s v) (h : s.governed m) (reading : s.start.readTimer.isSome = true → s.start.phase = .reading) :
    v.leadTaken ∧ (m → v.marksReady) := by
  have ready : ∀ {a : State}, a.governed m → a.leadTaken ∧ (m → a.marksReady) := fun k => ⟨k.1, fun hm => (k.2 hm).ready⟩
  cases e
  case readsCabin v _ _ => exact takeReading_ready (s := linkSucceeded s) h.of_eq v
  all_goals apply ready
  case bringsUp img passes probe reads _ _ _ => exact h.bringUpEffect (reads.elim id reading) img passes probe
  case loop level _ _ =>
    split
    · exact h.of_eq
    · exact State.governed.loopClear h.of_eq
  case plugsOut =>
    refine State.governed.linkPlugOut ?_
    split
    · exact h.of_eq
    · exact State.governed.bayPlugOut h.of_eq
  case reidentifies => split <;> exact h.of_eq
  case fails x _ => exact h.transactionFails x
  case identifies x id hint _ _ =>
    have identified : (identifySucceeded id (linkComesUp (linkSucceeded s))).governed m := State.governed.identifySucceeded h.of_eq id
    exact identified.of_eq
  case assigns coach countdown _ _ => exact h.acceptAssign coach countdown
  case findsNoSensor => exact State.governed.takeNoSensor h.of_eq
  case goesStale => exact h.staleCache
  case endsTransit => exact h.transitOver
  case samples v _ => exact h.governable.sampleProbe v
  case closesWindow =>
    exact State.governed.applyVerdict
      (s := { s with meter := { s.meter with count := 0, window := some (s.now + Config.meterWindow) } }) h.of_eq _ _
  case hearsAir => exact h.giveLowestAir
  case expires => exact h.giveLowestAir (given := rfl)
  case finishes f _ =>
    unfold finishFrame frameGone
    split
    case h_4 => split <;> exact h.of_eq
    all_goals exact h.of_eq

  all_goals exact h.of_eq

/-- The lead record as every step keeps it, and under an assumption of its own the heat record. -/
structure State.LeadAndHeat (m : Prop) (s : State) : Prop where
  governed : s.governed m
  latest : s.lead.latest = (s.dep.assignment.bind fun _ => s.dep.countdown.map fun c => c - 60 * (s.lead.lead : Int))
  lowest : s.peers.lowestGiven = lowestAir s.peers.entries
  reading : s.start.readTimer.isSome = true → s.start.phase = .reading
  settled : m → HeatSettled s

theorem Stands.leadAndHeat {a b : State} (h : Stands a b) (k : a.LeadAndHeat m) : b.LeadAndHeat m :=
  ⟨h.governed k.governed, by rw [h.lead, h.dep]; exact k.latest, by rw [h.given, h.lowest]; exact k.lowest,
    by rw [h.start]; exact k.reading, fun hm => h.heatSettled (k.settled hm)⟩

theorem State.LeadAndHeat.settle {s : State} (lead : s.leadTaken) (marks : m → s.marksReady)
    (reading : s.start.readTimer.isSome = true → s.start.phase = .reading) : (settle s).LeadAndHeat m :=
  have done := settle_governed lead marks
  ⟨done.1, settle_latest s, settle_lowest s, by rw [(settle_reacted s).start]; exact reading, done.2⟩

/-- An effect leaves the read timer in its phase (R172). -/
theorem Effect.reading {s v : State} (e : Effect s v) (h : s.start.readTimer.isSome = true → s.start.phase = .reading) :
    v.start.readTimer.isSome = true → v.start.phase = .reading := by
  rcases e.start with start | ⟨_, _, _, _, _, rfl⟩
  · rwa [start]
  · simp

theorem afterReset_leadAndHeat (s : State) (cause : Nat) : (s.afterReset cause).LeadAndHeat m where
  governed := ⟨rfl, fun _ => ⟨fun _ => rfl, State.targetRight_cleared rfl rfl⟩⟩
  latest := rfl
  lowest := rfl
  reading _ := rfl
  settled _ := ⟨rfl, rfl, Nat.le_refl _, fun k => absurd rfl k⟩

theorem kept_leadAndHeat (m : Prop) : Kept (State.LeadAndHeat m) where
  queue s rest h := Stands.leadAndHeat (b := { s with pending := rest }) .of_eq h
  reset s cause _ := afterReset_leadAndHeat s cause
  arrives _ _ h a := a.stands.leadAndHeat h
  quietly _ _ h q := q.stands.leadAndHeat h
  event _ _ h e :=
    have before := e.governed h.governed h.reading
    .settle before.1 before.2 (e.reading h.reading)
  round s h :=
    have before := h.governed.claimPeriodEffect
    .settle before.1 (fun hm => (before.2 hm).ready) (by simpa using h.reading)
  trails _ _ h t := t.stands.leadAndHeat h

theorem State.leadRight_iff_leadAndHeat {s : State} : s.leadRight ↔ s.LeadAndHeat False := by
  rw [State.leadRight_iff]
  exact ⟨fun ⟨taken, latest, lowest, reading⟩ => ⟨⟨taken, False.elim⟩, latest, lowest, reading, False.elim⟩,
    fun h => ⟨h.governed.1, h.latest, h.lowest, h.reading⟩⟩

theorem State.LeadAndHeat.heatRight {s : State} (h : s.LeadAndHeat True) : s.heatRight :=
  State.heatRight_iff.mpr ⟨h.settled trivial, h.governed.2 trivial⟩

theorem State.LeadAndHeat.of_right {s : State} (lead : s.leadRight) (heat : s.heatRight) : s.LeadAndHeat True := by
  obtain ⟨taken, latest, lowest, reading⟩ := State.leadRight_iff.mp lead
  obtain ⟨settled, marks⟩ := State.heatRight_iff.mp heat
  exact ⟨⟨taken, fun _ => marks⟩, latest, lowest, reading, fun _ => settled⟩

/-- No stage above those fitted is drawn, so the contactors closed are those of stages 1 to drawn (R122, R126). -/
theorem HeatSettled.contactor {s : State} (h : HeatSettled s) (n : Nat) :
    s.contactor n = (decide (1 ≤ n) && decide (n ≤ s.heat.drawn)) := by
  have fitted : s.heat.drawn ≤ s.start.image.stages := by
    obtain ⟨state, wanted, drawn, _⟩ := h
    refine drawn.trans ?_
    rw [wanted]
    unfold State.wantedNow
    cases hs : s.heat.state <;> dsimp only
    case maintain =>
      have on : ¬s.offCondition = true := fun off => by
        rw [heatTest_eq_off.mpr off, hs] at state; cases state
      have some_ : s.start.image.stages ≠ 0 := fun none => on (State.offCondition_iff.mpr (.inl none))
      split <;> omega
    all_goals omega
  unfold State.contactor
  by_cases le : n ≤ s.heat.drawn
  · simp [le, le.trans fitted]
  · simp [le]

/-- Settles O54: drawn stays within the grant by what each operation makes of it; a change of an input is followed by a recomputation of the
lead; and the end of every event gives the heat state over marks that its effect has left in order. -/
theorem everyStepKeepsDrawnWithinTheGrant : Obligations.EveryStepKeepsDrawnWithinTheGrant := by
  intro s u hs
  refine ⟨fun h => kept_heatKept.step h hs, fun h => ?_, fun lead heat => ?_⟩
  · rw [State.leadRight_iff_leadAndHeat] at h ⊢
    exact (kept_leadAndHeat False).step h hs
  · have after := (kept_leadAndHeat True).step (.of_right lead heat) hs
    exact ⟨after.heatRight, (after.settled trivial).contactor⟩

end Sys2Proof.Machine
end

section
/-! SUPPORT. The link record through a step: what the lamp checker makes of its slot and of the transaction in progress, and the record well
kept by every operation (R20 to R29, R36 to R38). -/

namespace Sys2Proof.Machine

open Sys2Proof

/-! One theorem is checked at a time: the proofs of a long file would else wait on each other in too many threads. -/
set_option Elab.async false

/-! ### The LAMP_SET slot -/

@[simp] theorem Transaction.disownLamp_request (x : Transaction) : x.disownLamp.request = x.request := by
  unfold Transaction.disownLamp; split <;> rfl

@[simp] theorem Transaction.disownFault_request (x : Transaction) : x.disownFault.request = x.request := by
  unfold Transaction.disownFault; split <;> rfl

@[simp] theorem Transaction.disownLamp_disownLamp (x : Transaction) : x.disownLamp.disownLamp = x.disownLamp := by
  unfold Transaction.disownLamp
  cases hr : x.request <;> simp [hr]

@[simp] theorem Transaction.disownLamp_asksEntry (x : Transaction) : x.disownLamp.asksEntry = x.asksEntry := by
  unfold Transaction.disownLamp Transaction.asksEntry
  cases hr : x.request <;> simp [hr]

@[simp] theorem Transaction.disownFault_asksEntry (x : Transaction) : x.disownFault.asksEntry = false := by
  unfold Transaction.disownFault Transaction.asksEntry
  cases hr : x.request <;> simp [hr]

/-- What the lamp checker does to the link: a LAMP_SET comes into its slot in UP only, and one on the wires is at most no longer counted
(R22, R77). -/
structure LampSlot (a b : Link) : Prop where
  slotOnly : LampSlotOnly a b
  req : a.state ≠ .up → a.lampReq = none → b.lampReq = none
  busy : b.busy = a.busy ∨ b.busy = a.busy.map (·.disownLamp)

theorem LampSlot.of_eq {a b : Link} (h : b = a) : LampSlot a b := by subst h; exact ⟨by simp, fun _ k => k, .inl rfl⟩

theorem LampSlot.trans {a b c : Link} (h : LampSlot a b) (k : LampSlot b c) : LampSlot a c := by
  have state : b.state = a.state := h.slotOnly.1.1
  refine ⟨by simpa [h.slotOnly] using k.slotOnly, fun up none => k.req (by rwa [state]) (h.req up none), ?_⟩
  rcases h.busy with e | e <;> rcases k.busy with e' | e' <;> rw [e', e]
  · exact .inl rfl
  · exact .inr rfl
  · exact .inr rfl
  · refine .inr ?_
    rw [Option.map_map]
    congr 1
    funext x
    exact x.disownLamp_disownLamp

/-- The sources' records but for those of edges (R164, R165). -/
def EdgesOnly (a b : Notices) : Prop := ∀ src : Source, src.isCondition = true → b.get src = a.get src

theorem EdgesOnly.of_eq {a b : Notices} (h : b = a) : EdgesOnly a b := fun _ _ => by rw [h]

theorem EdgesOnly.trans {a b c : Notices} (h : EdgesOnly a b) (k : EdgesOnly b c) : EdgesOnly a c :=
  fun src cond => (k src cond).trans (h src cond)

theorem raiseEdge_edges {src : Source} (edge : src.isCondition = false) (arg : Nat) (s : State) :
    EdgesOnly s.notices (raiseEdge src arg s).notices := fun other cond =>
  Notices.get_set_other fun e => by rw [e, cond] at edge; cases edge

theorem offerFault_edges (o : Offer) (s : State) : EdgesOnly s.notices (offerFault o s).notices := by
  unfold offerFault
  split
  · dsimp only
    split
    · unfold loseBlocking
      exact raiseEdge_edges rfl _ _
    · exact .of_eq rfl
  · exact .of_eq rfl

/-- A record as it was, or raised: pending, with the mark if it was pending before, and what a frame has taken still taken (R164). -/
def SourceRec.RaisedFrom (b a : SourceRec) : Prop :=
  b = a ∨ (b.pending = true ∧ b.taken = a.taken ∧ (a.pending = true → b.inst.more = true))

theorem SourceRec.RaisedFrom.trans {a b c : SourceRec} (h : b.RaisedFrom a) (k : c.RaisedFrom b) : c.RaisedFrom a := by
  rcases h with rfl | ⟨pending, taken, more⟩
  · exact k
  · rcases k with rfl | ⟨pending', taken', more'⟩
    · exact .inr ⟨pending, taken, more⟩
    · exact .inr ⟨pending', taken'.trans taken, fun _ => more' pending⟩

/-- The sources' records but for those listed, which may be raised. -/
def Spares (but : List Source) (a b : Notices) : Prop :=
  ∀ src : Source, (b.get src).RaisedFrom (a.get src) ∧ (src ∉ but → b.get src = a.get src)

theorem Spares.of_eq {but : List Source} {a b : Notices} (h : b = a) : Spares but a b :=
  fun _ => by rw [h]; exact ⟨.inl rfl, fun _ => rfl⟩

theorem Spares.trans {but : List Source} {a b c : Notices} (h : Spares but a b) (k : Spares but b c) : Spares but a c :=
  fun src => ⟨(h src).1.trans (k src).1, fun other => ((k src).2 other).trans ((h src).2 other)⟩

theorem raiseEdge_spares {but : List Source} {src : Source} (listed : src ∈ but) (arg : Nat) (s : State) :
    Spares but s.notices (raiseEdge src arg s).notices := fun other => by
  by_cases e : src = other
  · subst e
    rw [raiseEdge_get_self]
    exact ⟨.inr ⟨SourceRec.raise_pending _ _, SourceRec.raise_taken _ _, fun waits => by rw [SourceRec.raise_inst]; exact waits⟩,
      fun no => absurd listed no⟩
  · rw [raiseEdge_get_other arg s e]
    exact ⟨.inl rfl, fun _ => rfl⟩

theorem offerFault_spares {but : List Source} (listed : Source.blockingLost ∈ but) (o : Offer) (s : State) :
    Spares but s.notices (offerFault o s).notices := by
  unfold offerFault
  split
  · dsimp only
    split
    · unfold loseBlocking
      exact raiseEdge_spares listed _ _
    · exact .of_eq rfl
  · exact .of_eq rfl

/-- What the lamp checker does beside the lamps: it works its slot, and tells of its sheet and of a BLOCKING record lost. -/
structure LampWork (a b : State) : Prop where
  slot : LampSlot a.link b.link
  tells : Spares [.lampSheetDone, .blockingLost] a.notices b.notices

theorem LampWork.edges {a b : State} (k : LampWork a b) : EdgesOnly a.notices b.notices := fun src cond =>
  (k.tells src).2 fun listed => by
    simp only [List.mem_cons, List.not_mem_nil, or_false] at listed
    rcases listed with rfl | rfl <;> cases cond

theorem LampWork.of_eq {a b : State} (link : b.link = a.link := by simp) (notices : b.notices = a.notices := by simp) :
    LampWork a b := ⟨.of_eq link, .of_eq notices⟩

theorem LampWork.trans {a b c : State} (h : LampWork a b) (k : LampWork b c) : LampWork a c :=
  ⟨h.slot.trans k.slot, h.tells.trans k.tells⟩

/-- With only the lamps changed before. -/
theorem LampWork.after {s a c : State} (k : LampWork a c) (link : a.link = s.link := by simp)
    (notices : a.notices = s.notices := by simp) : LampWork s c := (LampWork.of_eq link notices).trans k

/-- With only the lamps changed after. -/
theorem LampWork.then {a b c : State} (k : LampWork a b) (link : c.link = b.link := by simp)
    (notices : c.notices = b.notices := by simp) : LampWork a c := k.trans (.of_eq link notices)

theorem disownLampSets_works (s : State) : LampWork s (disownLampSets s) := ⟨⟨by simp, fun _ _ => rfl, .inr rfl⟩, .of_eq rfl⟩

theorem recordVerdict_works (n : Nat) (v : Verdict) (current : Nat) (s : State) : LampWork s (recordVerdict n v current s) := by
  refine ⟨.of_eq (by simp), ?_⟩
  unfold recordVerdict
  dsimp only
  split
  · exact .of_eq rfl
  · split
    · exact offerFault_spares (by simp) _ _
    · exact .of_eq rfl

theorem recordIncomplete_works (left : Nat) : ∀ (n : Nat) (s : State), LampWork s (recordIncomplete left n s) := by
  induction left with
  | zero => exact fun _ _ => .of_eq rfl rfl
  | succ left ih => exact fun n s => (recordVerdict_works n .incomplete 0 s).trans (ih (n + 1) _)

theorem completeCheck_works (s : State) : LampWork s (completeCheck s) := ⟨.of_eq (by simp), raiseEdge_spares (by simp) _ _⟩

/-- The lamp checker stopped: the feed open, no timer of the step, its LAMP_SETs given up. -/
theorem stopped_works (s : State) : LampWork s (disownLampSets (stopStepTimers (openFeed s))) :=
  (disownLampSets_works _).after

theorem endCheckIncomplete_works (s : State) : LampWork s (endCheckIncomplete s) := by
  unfold endCheckIncomplete
  split
  · have recorded : ∀ (left n : Nat) (a : State), LampWork a (completeCheck (clearMarks (recordIncomplete left n a))) :=
      fun left n a => ((recordIncomplete_works left n a).then).trans (completeCheck_works _)
    exact ((stopped_works s).then).trans (recorded _ _ _)
  · exact .of_eq

theorem abandonCheck_works (s : State) : LampWork s (abandonCheck s) := by
  unfold abandonCheck
  split
  · exact (stopped_works s).then
  · exact .of_eq

/-- A LAMP_SET placed in UP. -/
theorem placeLampSet_works {s : State} (up : s.link.state = .up) (channel : Nat) (on live : Bool) :
    LampWork s (placeLampSet channel on live s) :=
  ⟨⟨by simp [placeLampSet], fun no => absurd up no, .inl rfl⟩, .of_eq rfl⟩

theorem raiseLampSet_works (channel : Nat) (on : Bool) (s : State) : LampWork s (raiseLampSet channel on s) := by
  unfold raiseLampSet
  split
  · next up => exact placeLampSet_works up _ _ _
  · split
    · exact endCheckIncomplete_works s
    · exact abandonCheck_works s

theorem raiseLooseOff_works (s : State) : LampWork s (raiseLooseOff s) := by
  unfold raiseLooseOff
  split
  · split
    · next up => exact placeLampSet_works up _ _ _
    · exact .of_eq
  · exact .of_eq

theorem enterClearOff_works (channel : Nat) (s : State) : LampWork s (enterClearOff channel s) :=
  (raiseLampSet_works _ _ _).after

theorem enterFeedOn_works (s : State) : LampWork s (enterFeedOn s) := by
  unfold enterFeedOn
  split
  · exact (raiseLampSet_works _ _ _).after
  · exact .of_eq

theorem enterSwitchOff_works (s : State) : LampWork s (enterSwitchOff s) := by
  unfold enterSwitchOff
  split
  · exact (raiseLampSet_works _ _ _).after
  · exact .of_eq

theorem startStep_works (s : State) : LampWork s (startStep s) := by
  unfold startStep
  split
  · exact enterSwitchOff_works s
  · dsimp only
    split
    · exact (enterClearOff_works _ _).after
    · exact (enterFeedOn_works _).after

theorem beginStep_works (s : State) : LampWork s (beginStep s) := by
  unfold beginStep
  split
  · exact .of_eq
  · exact startStep_works s

theorem finishStep_works (s : State) : LampWork s (finishStep s) := by
  have recorded (n : Nat) (v : Verdict) (current : Nat) : LampWork s (clearMarks (recordVerdict n v current s)) :=
    (recordVerdict_works n v current s).then
  unfold finishStep
  dsimp only
  split
  · exact (recorded (s.lamps.step.getD 1) (s.lamps.measured.getD (.incomplete, 0)).1 (s.lamps.measured.getD (.incomplete, 0)).2).trans
      ((beginStep_works _).after)
  · exact (recorded _ _ _).trans (completeCheck_works _)

theorem startCheck_works (s : State) : LampWork s (startCheck s) := by
  unfold startCheck
  split
  · dsimp only
    split
    · exact (completeCheck_works _).after
    · exact (beginStep_works _).after
  · exact .of_eq

theorem payOff_works (s : State) : LampWork s (payOff s) := by
  unfold payOff
  split
  · exact (raiseLooseOff_works _).after
  · exact .of_eq

theorem advanceStage_works (s : State) : LampWork s (advanceStage s) := by
  unfold advanceStage
  split
  · exact enterFeedOn_works s
  · split
    · exact enterSwitchOff_works s
    · exact .of_eq
  · exact (finishStep_works _).after
  · exact .of_eq

theorem lampAcknowledged_works (channel : Nat) (on live : Bool) (s : State) :
    LampWork s (lampAcknowledged channel on live s) := by
  have cleared : LampWork s (clearLoose channel on s) := by unfold clearLoose; split <;> exact .of_eq rfl rfl
  unfold lampAcknowledged
  dsimp only
  split
  · exact cleared.trans (advanceStage_works _)
  · exact cleared.trans (payOff_works _)

theorem enterLinkWait_works (s : State) : LampWork s (enterLinkWait s) := by
  unfold enterLinkWait
  exact (stopped_works s).then

theorem raiseAgain_works (channel : Nat) (on : Bool) (s : State) : LampWork s (raiseAgain channel on s) := by
  unfold raiseAgain
  split
  · split
    · exact enterSwitchOff_works s
    · exact raiseLampSet_works _ _ _
  · exact raiseLampSet_works _ _ _
  · exact raiseLampSet_works _ _ _
  · exact .of_eq

theorem lampFailed_works (channel : Nat) (on live : Bool) (s : State) : LampWork s (lampFailed channel on live s) := by
  unfold lampFailed
  split
  · split
    case h_5 => exact .of_eq
    all_goals
      dsimp only
      split
      · exact (enterLinkWait_works _).after
      · exact (raiseAgain_works _ _ _).after
  · exact payOff_works s

theorem linkWaitOver_works (s : State) : LampWork s (linkWaitOver s) := by
  unfold linkWaitOver
  dsimp only
  split
  · exact (endCheckIncomplete_works _).after
  · exact (beginStep_works _).after

theorem measureEnds_works (v : Verdict) (current : Nat) (s : State) : LampWork s (measureEnds v current s) :=
  (enterSwitchOff_works _).after

theorem shortReading_works (mean : Nat) (s : State) : LampWork s (shortReading mean s) := by
  unfold shortReading
  dsimp only
  split
  case h_4 => exact .of_eq
  all_goals
    split
    · exact .of_eq
    · exact (enterSwitchOff_works _).after

theorem caughtBySag_works (s : State) : LampWork s (caughtBySag s) := by
  have disowned := stopped_works s
  unfold caughtBySag
  dsimp only
  split
  · exact disowned.then
  · exact disowned.trans ((raiseLooseOff_works _).after)

theorem lampSag_works (s : State) : LampWork s (lampSag s) := by
  unfold lampSag
  split
  · split
    case h_5 | h_6 => exact .of_eq
    all_goals
      rw [sagCatches_eq]
      split
      · exact (caughtBySag_works s).trans (finishStep_works _)
      · exact (caughtBySag_works s).then
  · exact .of_eq

theorem lampRecovered_works (s : State) : LampWork s (lampRecovered s) := by
  unfold lampRecovered
  split
  · split
    · exact startStep_works s
    · exact startStep_works s
    · exact .of_eq
  · exact .of_eq

theorem lampSessionEnd_works (s : State) : LampWork s (lampSessionEnd s) :=
  (abandonCheck_works s).trans ((disownLampSets_works _).after)

/-! ### The record well kept -/

/-- The link record is well kept. -/
def State.linkKept (s : State) : Prop := s.link.wellKept

/-- What the link record's standing rests on. -/
def Link.standing (l : Link) := (l.state, l.failureRun, l.tag, l.lampReq, l.tempReq, l.faultReq, l.pass, l.busy, l.identifyReq)

theorem State.linkKept.congr {a b : State} (h : a.linkKept)
    (same : b.link.standing = a.link.standing := by simp [Link.standing]) : b.linkKept := by
  simp only [Link.standing, Prod.mk.injEq] at same
  obtain ⟨state, run, tag, lamp, temp, entry, pass, busy, id⟩ := same
  unfold State.linkKept Link.wellKept at *
  rwa [state, run, tag, lamp, temp, entry, pass, busy, id]

theorem LampSlot.linkKept {a b : State} (k : LampSlot a.link b.link) (h : a.linkKept) : b.linkKept := by
  obtain ⟨⟨⟨state, run, _, _, id⟩, temp, entry, tag, _, pass, _⟩, req, busy⟩ := k
  obtain ⟨hrun, htag, hdown, hout, hentry, hasks⟩ := h
  unfold State.linkKept Link.wellKept
  rw [state, run, id, temp, entry, tag, pass]
  refine ⟨hrun, htag, fun up => ?_, fun out => ?_, hentry, fun asks => hasks ?_⟩
  · obtain ⟨lamp, ht, he, hp, hb⟩ := hdown up
    refine ⟨req up lamp, ht, he, hp, ?_⟩
    rcases busy with e | e <;> rw [e]
    · exact hb
    · cases hx : a.link.busy with
      | none => rfl
      | some x => rw [hx] at hb; simpa [holdsOf] using hb
  · obtain ⟨hid, hb⟩ := hout out
    refine ⟨hid, ?_⟩
    rcases busy with e | e <;> rw [e, hb]
    rfl
  · rcases busy with e | e <;> rw [e] at asks
    · exact asks
    · cases hx : a.link.busy with
      | none => rw [hx] at asks; exact asks
      | some x => rw [hx] at asks; simpa using asks

theorem LampWork.linkKept {a b : State} (k : LampWork a b) (h : a.linkKept) : b.linkKept := k.slot.linkKept h

/-! ### Requests raised -/

theorem State.linkKept.raiseIdentify {s : State} (h : s.linkKept) : (raiseIdentify s).linkKept := by
  unfold Machine.raiseIdentify
  split
  · exact h
  · next up => obtain ⟨hrun, htag, hdown, hout, hentry, hasks⟩ := h; exact ⟨hrun, htag, hdown, fun k => absurd k up, hentry, hasks⟩

theorem State.linkKept.raiseTemp {s : State} (h : s.linkKept) : (raiseTemp s).linkKept := by
  unfold Machine.raiseTemp
  split
  · next up =>
    obtain ⟨hrun, htag, hdown, hout, hentry, hasks⟩ := h
    exact ⟨hrun, htag, fun k => absurd up k, hout, hentry, hasks⟩
  · exact h

/-- The next entry is asked for while the pass is in progress and nothing is on the wires for it (R36). -/
theorem State.linkKept.raiseFaultNext {s : State} (h : s.linkKept) (cursor : Nat) (pass : s.link.pass ≠ none)
    (quiet : s.link.busy.any Transaction.asksEntry = false) : (raiseFaultNext cursor s).linkKept := by
  unfold Machine.raiseFaultNext
  split
  · next up =>
    obtain ⟨hrun, htag, hdown, hout, hentry, hasks⟩ := h
    exact ⟨hrun, htag, fun k => absurd up k, hout, fun k => absurd k pass, fun k => absurd (quiet.symm.trans k) Bool.false_ne_true⟩
  · exact h

theorem State.linkKept.startPass {s : State} (h : s.linkKept) : (startPass s).linkKept := by
  unfold Machine.startPass
  split
  · next allowed =>
    simp only [State.passAllowed, Bool.and_eq_true, decide_eq_true_eq, Option.isNone_iff_eq_none] at allowed
    obtain ⟨⟨⟨⟨⟨_, none⟩, up⟩, _⟩, _⟩, _⟩ := allowed
    obtain ⟨hrun, htag, hdown, hout, hentry, hasks⟩ := h
    have quiet : s.link.busy.any Transaction.asksEntry = false := by
      rw [← Bool.not_eq_true]
      intro asks
      have some_ := (hasks asks).2
      rw [none] at some_
      cases some_
    unfold Machine.raiseFaultNext
    rw [if_pos up]
    exact ⟨hrun, htag, fun k => absurd up k, hout, fun k => (by cases k), fun k => absurd (quiet.symm.trans k) Bool.false_ne_true⟩
  · exact h

theorem any_asksEntry_disown (busy : Option Transaction) : (busy.map (·.disownFault)).any Transaction.asksEntry = false := by
  cases busy <;> simp

theorem holdsOf_disown {busy : Option Transaction} (h : holdsOf busy (fun x => x.request.isIdentify) = true) :
    holdsOf (busy.map (·.disownFault)) (fun x => x.request.isIdentify) = true := by
  cases busy with
  | none => rfl
  | some x => simpa [holdsOf] using h

/-- A pass given up leaves nothing asked for it (R37, R38). -/
theorem Link.wellKept.noPass {l : Link} (h : l.wellKept) (owed : Bool) (timer : Option Nat) :
    Link.wellKept { l with
      pass := none, faultReq := none, passOwed := owed, passTimer := timer, busy := l.busy.map (·.disownFault) } := by
  obtain ⟨hrun, htag, hdown, hout, hentry, hasks⟩ := h
  refine ⟨hrun, htag, fun up => ?_, fun out => ⟨(hout out).1, by simp [(hout out).2]⟩, fun _ => rfl, fun asks => ?_⟩
  · obtain ⟨lamp, temp, _, _, busy⟩ := hdown up
    exact ⟨lamp, temp, rfl, rfl, holdsOf_disown busy⟩
  · exact absurd ((any_asksEntry_disown _).symm.trans asks) Bool.false_ne_true

theorem State.linkKept.abandonPass {s : State} (h : s.linkKept) (owes : Bool) : (abandonPass owes s).linkKept := by
  unfold Machine.abandonPass
  split
  · exact h
  · exact Link.wellKept.noPass h _ s.link.passTimer

theorem Link.wellKept.discardPass {l : Link} (h : l.wellKept) : l.discardPass.wellKept := h.noPass _ _

/-! ### Arbitration -/

/-- The request begun is one its slot held (R23). -/
theorem Link.choice_cases {l : Link} {r : Request} {live : Bool} (h : l.choice = some (r, live)) :
    (r = .identify ∧ l.identifyReq = true) ∨ (∃ c on, r = .lampSet c on ∧ l.lampReq ≠ none) ∨ (r = .readTemp ∧ l.tempReq = true) ∨
      ∃ c, r = .faultNext c ∧ l.faultReq = some c := by
  unfold Link.choice at h
  split at h
  · next id => cases h; exact .inl ⟨rfl, id⟩
  · split at h
    · next q hq => cases h; exact .inr (.inl ⟨_, _, rfl, by rw [hq]; exact Option.some_ne_none q⟩)
    · split at h
      · next temp => cases h; exact .inr (.inr (.inl ⟨rfl, temp⟩))
      · split at h
        · next c hc => cases h; exact .inr (.inr (.inr ⟨c, rfl, hc⟩))
        · cases h

theorem Link.wellKept.beginTransaction {l : Link} (h : l.wellKept) {r : Request} {live : Bool} (chosen : l.choice = some (r, live))
    (now : Nat) : (l.beginTransaction r live now).wellKept := by
  obtain ⟨hrun, htag, hdown, hout, hentry, hasks⟩ := h
  have tag : (l.tag + 1) % 16 ≤ 15 := by omega
  have asked := Link.choice_cases chosen
  have out : l.state = .unplugged → False := fun out => by
    obtain ⟨lamp, temp, entry, _⟩ := hdown (by rw [out]; decide)
    have id := (hout out).1
    rcases asked with ⟨_, k⟩ | ⟨_, _, _, k⟩ | ⟨_, k⟩ | ⟨_, _, k⟩ <;> simp_all
  have down : l.state ≠ .up → r = .identify := fun up => by
    obtain ⟨lamp, temp, entry, _⟩ := hdown up
    rcases asked with ⟨e, _⟩ | ⟨_, _, _, k⟩ | ⟨_, k⟩ | ⟨_, _, k⟩
    · exact e
    all_goals simp_all
  rcases asked with ⟨rfl, _⟩ | ⟨c, on, rfl, _⟩ | ⟨rfl, _⟩ | ⟨c, rfl, k⟩
  · exact ⟨hrun, tag, fun up => have d := hdown up; ⟨d.1, d.2.1, d.2.2.1, d.2.2.2.1, rfl⟩, fun k => (out k).elim, hentry,
      fun k => (by cases k)⟩
  · exact ⟨hrun, tag, fun up => (by cases down up), fun k => (out k).elim, hentry, fun k => (by cases k)⟩
  · exact ⟨hrun, tag, fun up => (by cases down up), fun k => (out k).elim, hentry, fun k => (by cases k)⟩
  · refine ⟨hrun, tag, fun up => (by cases down up), fun k => (out k).elim, fun _ => rfl, fun _ => ⟨rfl, ?_⟩⟩
    rw [Option.isSome_iff_ne_none]
    intro ended
    rw [hentry ended] at k
    cases k

theorem State.linkKept.arbitrate {s : State} (h : s.linkKept) : (arbitrate s).linkKept := by
  unfold Machine.arbitrate
  split
  · exact h
  · split
    · exact h
    · next r live chosen =>
      have begun := Link.wellKept.beginTransaction h chosen s.now
      dsimp only
      split
      · exact begun
      · exact begun

/-! ### The reactions -/

theorem State.linkKept.startPoll {s : State} (h : s.linkKept) : (startPoll s).linkKept := by
  unfold Machine.startPoll
  exact h.raiseTemp.congr

theorem State.linkKept.stopPoll {s : State} (h : s.linkKept) : (stopPoll s).linkKept := by
  obtain ⟨hrun, htag, hdown, hout, hentry, hasks⟩ := h
  exact ⟨hrun, htag, fun up => have d := hdown up; ⟨d.1, rfl, d.2.2⟩, hout, hentry, hasks⟩

theorem State.linkKept.enterHeatState {s : State} (h : s.linkKept) (new : HeatState) : (enterHeatState new s).linkKept := by
  unfold Machine.enterHeatState
  split
  · exact h
  · have due : ∀ {a : State}, a.linkKept → (makeHeatDue a).linkKept := fun k => k.congr
    have polled : ∀ {a : State} (c : Prop) [Decidable c], a.linkKept → (if c then Machine.startPoll a else a).linkKept :=
      fun c _ k => by split; exacts [k.startPoll, k]
    apply due
    apply polled
    cases new
    case off => exact State.linkKept.stopPoll h.congr
    all_goals exact h.congr

theorem State.linkKept.evalHeat {s : State} (h : s.linkKept) : (evalHeat s).linkKept := by
  have called : (updateCalled s).linkKept := h.congr
  unfold Machine.evalHeat
  exact (called.enterHeatState (updateCalled s).heatTest).congr

theorem State.linkKept.react {s : State} (h : s.linkKept) : (react s).linkKept := by
  have before : (deriveLatest (readPeers (startCheck (Machine.startPass s)))).linkKept :=
    ((startCheck_works _).linkKept h.startPass).congr
  rw [react_eq]
  exact before.evalHeat.congr

theorem State.linkKept.settle {s : State} (h : s.linkKept) : (settle s).linkKept := by
  rw [settle_eq]
  exact (State.linkKept.startPass h.react.react).arbitrate.congr

/-! ### The effects -/

theorem State.linkKept.idleLink {s : State} (h : s.linkKept) : (idleLink s).linkKept := by
  obtain ⟨hrun, htag, hdown, hout, hentry, hasks⟩ := h
  exact ⟨hrun, htag, fun up => have d := hdown up; ⟨d.1, d.2.1, d.2.2.1, d.2.2.2.1, rfl⟩, fun out => ⟨(hout out).1, rfl⟩, hentry,
    fun k => (by cases k)⟩

theorem State.linkKept.linkSucceeded {s : State} (h : s.linkKept) : (linkSucceeded s).linkKept :=
  have idle := h.idleLink
  ⟨Nat.zero_le _, idle.2⟩

/-- A link declared lost, with nothing on the wires, has nothing waiting but IDENTIFY (R27). -/
theorem State.linkKept.declareLost {s : State} (h : s.linkKept) (idle : s.link.busy = none) : (declareLost s).linkKept := by
  have lost : (Machine.abandonPass true { s with link := { s.link with
      state := .lost, failureRun := 0, lampReq := none, tempReq := false } }).linkKept := by
    obtain ⟨hrun, htag, hdown, hout, hentry, hasks⟩ := h
    unfold Machine.abandonPass
    split
    · next none =>
      exact ⟨Nat.zero_le _, htag, fun _ => ⟨rfl, rfl, hentry none, none, by simp [idle, holdsOf]⟩, fun k => (by cases k), hentry,
        fun k => (by simp [idle] at k)⟩
    · exact ⟨Nat.zero_le _, htag, fun _ => ⟨rfl, rfl, rfl, rfl, by simp [idle, holdsOf]⟩, fun k => (by cases k), fun _ => rfl,
        fun k => (by simp [idle] at k)⟩
  unfold Machine.declareLost
  exact (endCheckIncomplete_works _).linkKept lost.congr

theorem State.linkKept.countFailure {s : State} (h : s.linkKept) (idle : s.link.busy = none) : (countFailure s).linkKept := by
  unfold Machine.countFailure
  split
  · next few =>
    have three : Config.failuresToLoss = 3 := rfl
    exact ⟨by dsimp only; omega, h.2⟩
  · split
    · exact ⟨Nat.zero_le _, h.2⟩
    · exact h.declareLost idle

/-- What the requester of a failed transaction asks for again (R8, R36, R74). -/
theorem State.linkKept.handFailure {s : State} (h : s.linkKept) (x : Transaction)
    (quiet : s.link.busy.any Transaction.asksEntry = false) : (handFailure x s).linkKept := by
  unfold Machine.handFailure
  split
  · unfold identifyFailed
    split
    · exact h.raiseIdentify
    · exact h.congr
    · exact h
  · exact (lampFailed_works _ _ _ _).linkKept h
  · exact h
  · split
    · next p pass =>
      split
      · exact h.raiseFaultNext _ (by rw [pass]; exact Option.some_ne_none p) quiet
      · exact h
    · exact h

theorem LampSlot.idle {a b : Link} (k : LampSlot a b) (idle : a.busy = none) : b.busy = none := by
  rcases k.busy with e | e <;> rw [e, idle]
  rfl

theorem LampWork.idle {a b : State} (k : LampWork a b) (idle : a.link.busy = none) : b.link.busy = none := k.slot.idle idle

theorem abandonPass_idle {s : State} (owes : Bool) (idle : s.link.busy = none) : (abandonPass owes s).link.busy = none := by
  unfold abandonPass
  split
  · exact idle
  · simp [idle]

theorem declareLost_idle {s : State} (idle : s.link.busy = none) : (declareLost s).link.busy = none := by
  unfold declareLost
  refine (endCheckIncomplete_works _).idle ?_
  have gone := abandonPass_idle (s := { s with link := { s.link with
    state := .lost, failureRun := 0, lampReq := none, tempReq := false } }) true idle
  simpa using gone

theorem countFailure_idle {s : State} (idle : s.link.busy = none) : (countFailure s).link.busy = none := by
  unfold countFailure
  split
  · exact idle
  · split
    · exact idle
    · exact declareLost_idle idle

theorem State.linkKept.transactionFails {s : State} (h : s.linkKept) (x : Transaction) : (transactionFails x s).linkKept := by
  have idle : (Machine.countFailure (Machine.idleLink s)).link.busy = none := countFailure_idle rfl
  exact (State.linkKept.countFailure h.idleLink rfl).handFailure x (by rw [idle]; rfl)

theorem State.linkKept.heatSessionEnd {s : State} (h : s.linkKept) : (heatSessionEnd s).linkKept := by
  unfold Machine.heatSessionEnd
  exact State.linkKept.evalHeat h.congr

theorem State.linkKept.endSession {s : State} (h : s.linkKept) (cause : EndCause) (coach : Nat) :
    (endSession cause coach s).linkKept := by
  have emptied : (emptyCache
      { s with bay := { s.bay with session := .none }, faults := s.faults.endSession, link := s.link.discardPass }).linkKept :=
    State.linkKept.congr (a := { s with link := s.link.discardPass }) (Link.wellKept.discardPass h)
  have dark : (clearanceSessionEnd cause coach (lampSessionEnd (emptyCache
      { s with bay := { s.bay with session := .none }, faults := s.faults.endSession, link := s.link.discardPass }))).linkKept :=
    ((lampSessionEnd_works _).linkKept emptied).congr
  unfold Machine.endSession
  exact dark.heatSessionEnd.congr

theorem State.linkKept.putIdentity {s : State} (h : s.linkKept) (id : Identity) : (putIdentity id s).linkKept := by
  rcases putIdentity_cases id s with ⟨_, e⟩ | ⟨_, e⟩ | ⟨held, _, e⟩ <;> rw [e]
  · exact h
  · exact h.congr
  · exact (h.endSession .identityReplaced held.coach).congr

theorem State.linkKept.enterEmpty {s : State} (h : s.linkKept) : (enterEmpty s).linkKept := by
  unfold Machine.enterEmpty
  dsimp only
  split
  case h_4 => exact State.linkKept.endSession h.congr _ _
  all_goals exact h.congr

theorem State.linkKept.loopClear {s : State} (h : s.linkKept) : (loopClear s).linkKept := by
  unfold Machine.loopClear
  split
  · exact h.enterEmpty
  · exact h
  all_goals exact h.congr

theorem State.linkKept.bayPlugOut {s : State} (h : s.linkKept) : (bayPlugOut s).linkKept := by
  have withdrawn : State.linkKept
      { s with link := { s.link with identifyReq := false }, bay := { s.bay with reidentify := none } } := by
    obtain ⟨hrun, htag, hdown, hout, hentry, hasks⟩ := h
    exact ⟨hrun, htag, hdown, fun k => ⟨rfl, (hout k).2⟩, hentry, hasks⟩
  unfold Machine.bayPlugOut
  split
  case h_1 | h_2 => exact h
  all_goals
    dsimp only
    split
    · exact withdrawn.enterEmpty
    · exact withdrawn.congr

theorem State.linkKept.linkPlugOut {s : State} (h : s.linkKept) : (linkPlugOut s).linkKept := by
  have stopped : (abandonCheck (Machine.idleLink s)).linkKept := (abandonCheck_works _).linkKept h.idleLink
  have idle : (abandonCheck (Machine.idleLink s)).link.busy = none := (abandonCheck_works _).idle rfl
  unfold Machine.linkPlugOut
  split
  · exact h
  · have out : (Machine.abandonPass true { abandonCheck (Machine.idleLink s) with link := { (abandonCheck (Machine.idleLink s)).link with
        state := .unplugged, failureRun := 0, identifyReq := false, lampReq := none, tempReq := false } }).linkKept := by
      generalize abandonCheck (Machine.idleLink s) = a at stopped idle
      obtain ⟨hrun, htag, hdown, hout, hentry, hasks⟩ := stopped
      unfold Machine.abandonPass
      split
      · next none =>
        exact ⟨Nat.zero_le _, htag, fun _ => ⟨rfl, rfl, hentry none, none, by simp [idle, holdsOf]⟩, fun _ => ⟨rfl, idle⟩, hentry,
          fun k => (by simp [idle] at k)⟩
      · exact ⟨Nat.zero_le _, htag, fun _ => ⟨rfl, rfl, rfl, rfl, by simp [idle, holdsOf]⟩, fun _ => ⟨rfl, by simp [idle]⟩,
          fun _ => rfl, fun k => (by simp [idle] at k)⟩
    exact out.congr

theorem State.linkKept.linkPlugIn {s : State} (h : s.linkKept) : (linkPlugIn s).linkKept := by
  unfold Machine.linkPlugIn
  split
  · next out =>
    obtain ⟨hrun, htag, hdown, hout, hentry, hasks⟩ := h
    exact ⟨Nat.zero_le _, htag, fun _ => hdown (by rw [out]; decide), fun k => (by cases k), hentry, hasks⟩
  · exact h

theorem State.linkKept.linkComesUp {s : State} (h : s.linkKept) : (linkComesUp s).linkKept := by
  unfold Machine.linkComesUp
  split
  · have up : State.linkKept { s with link := { s.link with state := .up } } := by
      obtain ⟨hrun, htag, hdown, hout, hentry, hasks⟩ := h
      exact ⟨hrun, htag, fun k => absurd rfl k, fun k => (by cases k), hentry, hasks⟩
    dsimp only
    split
    · exact up.raiseTemp
    · exact up
  · exact h

theorem State.linkKept.identifySucceeded {s : State} (h : s.linkKept) (id : Identity) : (identifySucceeded id s).linkKept := by
  unfold Machine.identifySucceeded
  split
  case h_3 => exact h
  all_goals exact State.linkKept.putIdentity h.congr id

theorem State.linkKept.transitOver {s : State} (h : s.linkKept) : (transitOver s).linkKept := by
  rcases transitOver_cases s with ⟨id, _, e⟩ | ⟨_, e⟩ <;> rw [e]
  · exact State.linkKept.endSession (s := afterTransit s) h.congr _ _
  · exact h.congr

/-- An entry of the pass is taken with nothing on the wires; the next is asked for, or the pass given up (R36, R37). -/
theorem State.linkKept.takeEntry {s : State} (h : s.linkKept) (idle : s.link.busy = none) (module code : Nat) (severity : Severity)
    (count next : Nat) : (takeEntry module code severity count next s).linkKept := by
  unfold Machine.takeEntry
  split
  · exact h
  · next p pass =>
    have counted : State.linkKept { takeCoachEntry module code severity (max 1 count) s with link :=
        { (takeCoachEntry module code severity (max 1 count) s).link with pass := some { cursor := next, count := p.count + 1 } } } := by
      have link : (takeCoachEntry module code severity (max 1 count) s).link = s.link := by simp
      obtain ⟨hrun, htag, hdown, hout, hentry, hasks⟩ := h
      unfold State.linkKept
      dsimp only
      rw [link]
      refine ⟨hrun, htag, fun up => ?_, hout, fun k => (by cases k), fun k => (by simp [idle] at k)⟩
      have none := (hdown up).2.2.2.1
      rw [pass] at none
      cases none
    dsimp only
    split
    · exact counted.abandonPass false
    · exact counted.raiseFaultNext _ (Option.some_ne_none _) (by simp [idle])

/-- A pass complete, with its last answer received, has nothing asked for it (R36). -/
theorem State.linkKept.completePass {s : State} (h : s.linkKept) (idle : s.link.busy = none) (done : s.link.faultReq = none) :
    (completePass s).linkKept := by
  obtain ⟨hrun, htag, hdown, hout, hentry, hasks⟩ := h
  exact ⟨hrun, htag, fun up => have d := hdown up; ⟨d.1, d.2.1, d.2.2.1, rfl, d.2.2.2.2⟩, hout, fun _ => done,
    fun k => (by simp [idle] at k)⟩

theorem State.linkKept.applyVerdict {s : State} (h : s.linkKept) (v : MeterVerdict) (metered : Nat) :
    (applyVerdict v metered s).linkKept := by
  unfold Machine.applyVerdict
  split
  · split
    · exact h.congr
    · unfold heaterOverdrawn
      exact State.linkKept.congr (State.linkKept.evalHeat
        (s := { s with heat := { s.heat with heaterFault := true }, meter := { s.meter with overdrawRun := 0 } }) h)
  · dsimp only; split <;> exact h.congr
  all_goals exact h.congr

theorem State.linkKept.takeRound {s : State} (h : s.linkKept) : (takeRound s).linkKept := by
  have read : (roundRead s).linkKept := State.linkKept.evalHeat (s := readPeers s) h.congr
  have drawn : (roundDrawn s).linkKept := by unfold roundDrawn; exact read.congr
  rw [takeRound_eq]
  exact drawn.evalHeat.congr

/-- Every effect keeps the link record (R20 to R29, R36 to R38). -/
theorem Effect.linkKept {s v : State} (e : Effect s v) (h : s.linkKept) : v.linkKept := by
  cases e
  case startsBay =>
    unfold startIntervalEffect
    dsimp only
    split
    case h_3 | h_4 => exact State.linkKept.raiseIdentify h.congr
    all_goals exact h.congr
  case loop level _ _ =>
    split
    · exact h.congr
    · exact State.linkKept.loopClear h.congr
  case plugsIn =>
    have open_ : (linkPlugIn { s with bay := { s.bay with plug := s.bay.plug.accept true } }).linkKept :=
      State.linkKept.linkPlugIn h.congr
    unfold bayPlugIn
    split
    case h_1 | h_2 => exact State.linkKept.raiseIdentify open_.congr
    all_goals exact open_
  case plugsOut =>
    refine State.linkKept.linkPlugOut ?_
    split
    · exact h.congr
    · exact State.linkKept.bayPlugOut h.congr
  case reidentifies =>
    split
    · exact State.linkKept.raiseIdentify h.congr
    · exact h.congr
  case fails x _ => exact h.transactionFails x
  case identifies x id hint _ _ => exact (h.linkSucceeded.linkComesUp.identifySucceeded id).congr
  case acknowledges => exact (lampAcknowledged_works _ _ _ _).linkKept h.linkSucceeded
  case readsCabin => exact h.linkSucceeded.congr
  case findsNoSensor => exact h.linkSucceeded.congr
  case discardsPassReply => exact h.linkSucceeded
  case takesEntry => exact h.linkSucceeded.takeEntry rfl _ _ _ _ _
  case endsPass x busy asked live pass =>
    refine h.linkSucceeded.completePass rfl ?_
    have asks : s.link.busy.any Transaction.asksEntry = true := by
      rw [busy]
      cases hr : x.request <;> simp_all [Transaction.asksEntry, Request.isFaultNext]
    exact (h.2.2.2.2.2 asks).1
  case polls => exact h.raiseTemp.congr
  case measuresSteady => exact (measureEnds_works _ _ _).linkKept h
  case readsShort => exact (shortReading_works _ _).linkKept h
  case endsCapture => unfold captureEnds; exact (measureEnds_works _ _ _).linkKept h
  case waitsNoLonger => exact (linkWaitOver_works _).linkKept h
  case goesGreen => unfold enterHolding; exact (abandonCheck_works _).linkKept h.congr
  case endsTransit => exact h.transitOver
  case sags =>
    exact (lampSag_works _).linkKept (a := { s with supply := { s.supply with
      sag := true, detected := true, lowest := some s.supply.level, recovery := none, dip := none } }) h.congr
  case recovers =>
    exact (lampRecovered_works _).linkKept (a := { s with supply := { s.supply with sag := false, recovery := none } }) h.congr
  case closesWindow => unfold closeWindow; exact State.linkKept.applyVerdict h.congr _ _
  all_goals exact h.congr

theorem Quiet.linkKept {s v : State} (q : Quiet s v) (h : s.linkKept) : v.linkKept := by
  cases q
  case linkTakesPlug => exact State.linkKept.linkPlugIn h.congr
  case beginsMeasure p current _ _ => rw [(beginMeasure_keeps p current s).1]; exact h
  all_goals exact h.congr

theorem kept_linkKept : Kept State.linkKept where
  queue _ _ h := h
  reset _ _ _ := ⟨Nat.zero_le _, Nat.zero_le _, fun _ => ⟨rfl, rfl, rfl, rfl, rfl⟩, fun _ => ⟨rfl, rfl⟩, fun _ => rfl,
    fun k => (by cases k)⟩
  arrives _ _ h a := h.congr (by rw [a.eq.1])
  quietly _ _ h q := q.linkKept h
  event _ _ h e := (e.linkKept h).settle
  round s h := State.linkKept.settle (by unfold claimPeriodEffect; exact h.takeRound.congr)
  trails _ _ h t := h.congr (by rw [t.eq.1])

end Sys2Proof.Machine
end

section
/-! SUPPORT. The bay with the link it is plugged to, through a step (R2 to R10, R21, R27, R29). -/

namespace Sys2Proof.Machine

open Sys2Proof

/-- The bay's record with the link's state: each occupancy with its state of the link, the occupancy and presence implied with the two
accepted levels, the start interval with an EMPTY bay, a session open in a bay that is not EMPTY. -/
structure Bay.Fits (b : Bay) (l : LinkState) : Prop where
  plug : l = .unplugged ↔ b.plug.level = false
  linking : b.occupancy = .linking → l = .opening
  connected : b.occupancy = .connected → l = .up
  unlinked : b.occupancy = .unlinked → l = .lost
  started : b.startInterval = none →
    (b.occupancy = .empty ↔ b.plug.level = false ∧ b.presence.level = false) ∧
    (b.occupancy = .present ↔ b.plug.level = false ∧ b.presence.level = true) ∧
    (b.implied = true ↔ b.plug.level = true ∧ b.presence.level = false)
  starting : b.startInterval.isSome = true → b.occupancy = .empty ∧ b.implied = false ∧ l ≠ .up ∧ l ≠ .lost
  session : (∃ id, b.session = .opened id) → b.occupancy ≠ .empty

/-- Nothing is asked of the link. -/
def State.linkStill (s : State) : Prop := s.link.identifyReq = false ∧ s.link.busy = none

/-- The bay fits its link, and asks nothing of it in the start interval. -/
structure State.BayFits (s : State) : Prop where
  fits : s.bay.Fits s.link.state
  still : s.bay.startInterval.isSome = true → s.linkStill

theorem State.sessionOpen_iff {s : State} : s.sessionOpen = true ↔ ∃ id, s.bay.session = .opened id := by
  unfold State.sessionOpen State.identity
  cases s.bay.session <;> simp

theorem State.bayRight_iff {s : State} : s.bayRight ↔ s.BayFits := by
  unfold State.bayRight
  rw [State.sessionOpen_iff]
  constructor
  · rintro ⟨plug, linking, connected, unlinked, started, starting, session⟩
    exact ⟨⟨plug, linking, connected, unlinked, started, fun k =>
      have d := starting k; ⟨d.1, d.2.1, d.2.2.1, d.2.2.2.1⟩, session⟩, fun k => (starting k).2.2.2.2⟩
  · rintro ⟨⟨plug, linking, connected, unlinked, started, starting, session⟩, still⟩
    exact ⟨plug, linking, connected, unlinked, started, fun k =>
      have d := starting k; ⟨d.1, d.2.1, d.2.2.1, d.2.2.2, still k⟩, session⟩

/-! ### What leaves the bay fitting -/

theorem Bay.Fits.congr {a b : Bay} {l : LinkState} (h : a.Fits l) (occupancy : b.occupancy = a.occupancy)
    (presence : b.presence.level = a.presence.level) (plug : b.plug.level = a.plug.level) (implied : b.implied = a.implied)
    (interval : b.startInterval = a.startInterval) (session : ∀ id, b.session = .opened id → ∃ id, a.session = .opened id) :
    b.Fits l := by
  obtain ⟨hplug, linking, connected, unlinked, started, starting, hsession⟩ := h
  exact ⟨by rwa [plug], by rwa [occupancy], by rwa [occupancy], by rwa [occupancy], by rwa [interval, occupancy, plug, presence, implied],
    by rwa [interval, occupancy, implied], fun ⟨id, k⟩ => by rw [occupancy]; exact hsession (session id k)⟩

theorem State.BayFits.congr {a b : State} (h : a.BayFits) (state : b.link.state = a.link.state := by simp)
    (occupancy : b.bay.occupancy = a.bay.occupancy := by simp) (presence : b.bay.presence.level = a.bay.presence.level := by simp)
    (plug : b.bay.plug.level = a.bay.plug.level := by simp) (implied : b.bay.implied = a.bay.implied := by simp)
    (interval : b.bay.startInterval = a.bay.startInterval := by simp) (session : ∀ id, b.bay.session = .opened id → a.bay.session = .opened id := by simp)
    (identify : b.link.identifyReq = a.link.identifyReq := by simp) (busy : a.link.busy = none → b.link.busy = none := by simp) :
    b.BayFits := by
  refine ⟨?_, fun k => ?_⟩
  · rw [state]
    exact h.fits.congr occupancy presence plug implied interval fun id k => ⟨id, session id k⟩
  · obtain ⟨id, none⟩ := h.still (by rwa [← interval])
    exact ⟨by rw [identify, id], busy none⟩

theorem LampWork.bayFits {a b : State} (k : LampWork a b) (h : a.BayFits) (bay : b.bay = a.bay := by simp) : b.BayFits :=
  h.congr k.slot.slotOnly.1.1 (by rw [bay]) (by rw [bay]) (by rw [bay]) (by rw [bay]) (by rw [bay]) (by rw [bay]; exact fun _ e => e)
    k.slot.slotOnly.1.2.2.2.2 k.idle

/-- With a transaction on the wires the start interval is over. -/
theorem State.BayFits.started_of_busy {s : State} (h : s.BayFits) {x : Transaction} (busy : s.link.busy = some x) :
    s.bay.startInterval = none := by
  cases hi : s.bay.startInterval with
  | none => rfl
  | some t =>
    have none := (h.still (by rw [hi]; rfl)).2
    rw [busy] at none
    cases none

/-- Once the start interval is over the link is free to be asked. -/
theorem State.BayFits.of_fits {s : State} (h : s.bay.Fits s.link.state) (started : s.bay.startInterval = none) : s.BayFits :=
  ⟨h, fun k => by rw [started] at k; cases k⟩

/-! ### The end of an event -/

theorem Link.choice_of_down {l : Link} (h : l.wellKept) (down : l.state ≠ .up) (id : l.identifyReq = false) : l.choice = none := by
  obtain ⟨_, _, hdown, _⟩ := h
  obtain ⟨lamp, temp, entry, _⟩ := hdown down
  simp [Link.choice, id, lamp, temp, entry]

theorem arbitrate_still {s : State} (h : s.linkKept) (down : s.link.state ≠ .up) (still : s.linkStill) : arbitrate s = s := by
  have none : s.link.choice = none := Link.choice_of_down h down still.1
  unfold arbitrate
  rw [still.2, none]

theorem react_still {s : State} (still : s.linkStill) : (react s).linkStill := by
  have begun : (startCheck (startPass s)).link.busy = none := (startCheck_works _).idle (by simpa using still.2)
  rw [react_eq]
  exact ⟨by simpa using still.1, by simpa using begun⟩

theorem startPass_still {s : State} (still : s.linkStill) : (startPass s).linkStill :=
  ⟨by simpa using still.1, by simpa using still.2⟩

/-- With the link down and nothing asked of it, the end of an event asks nothing. -/
theorem settle_still {s : State} (h : s.linkKept) (down : s.link.state ≠ .up) (still : s.linkStill) : (settle s).linkStill := by
  have before : (startPass (react (react s))).linkStill := startPass_still (react_still (react_still still))
  have kept : (startPass (react (react s))).linkKept := h.react.react.startPass
  have state : (startPass (react (react s))).link.state = s.link.state :=
    (Reacted.refl s).react.react.startPass.linkState
  rw [settle_eq]
  generalize startPass (react (react s)) = a at *
  rw [arbitrate_still kept (by rwa [state]) before]
  exact ⟨by simpa using before.1, by simpa using before.2⟩

theorem State.BayFits.settle {s : State} (h : s.BayFits) (kept : s.linkKept) : (settle s).BayFits := by
  have bay := (settle_reacted s).bay
  refine ⟨?_, fun k => ?_⟩
  · rw [(settle_reacted s).linkState]
    exact h.fits.congr (by rw [bay]) (by rw [bay]) (by rw [bay]) (by rw [bay]) (by rw [bay]) fun id k => ⟨id, by rwa [bay] at k⟩
  · have starting : s.bay.startInterval.isSome = true := by rwa [bay] at k
    exact settle_still kept (h.fits.starting starting).2.2.1 (h.still starting)

/-! ### The bay's own moves -/

theorem emptiedSession_ne_opened (s : State) (id : Identity) : emptiedSession s ≠ .opened id := by
  unfold emptiedSession
  cases s.dep.state <;> cases s.bay.session <;> simp

/-- A bay left EMPTY by the plug or the loop, with both levels out (R7). -/
theorem enterEmpty_fits {s : State} {l : LinkState} (out : l = .unplugged) (plug : s.bay.plug.level = false)
    (loop : s.bay.presence.level = false) : (enterEmpty s).bay.Fits l := by
  have session := emptiedSession_ne_opened s
  constructor <;> simp [out, plug, loop, session]

/-- The bay with the level out that a clear loop or a leaving plug leaves in PRESENT (R4, R6). -/
theorem Bay.Fits.present {b : Bay} {l : LinkState} (out : l = .unplugged) (plug : b.plug.level = false) (loop : b.presence.level = true)
    (implied : b.implied = false) (started : b.startInterval = none) : Bay.Fits { b with occupancy := .present } l := by
  constructor <;> simp [out, plug, loop, implied, started]

theorem startIntervalEffect_bayFits {s : State} (h : s.BayFits) (starting : s.bay.startInterval.isSome = true) :
    (startIntervalEffect s).BayFits := by
  obtain ⟨empty, implied, notUp, notLost⟩ := h.fits.starting starting
  have closed : ∀ id, s.bay.session ≠ .opened id := fun id k => h.fits.session ⟨id, k⟩ empty
  have plug := h.fits.plug
  refine .of_fits ?_ (by simp)
  have opening : s.bay.plug.level = true → s.link.state = .opening := fun k => by
    cases hl : s.link.state <;> simp_all
  unfold startIntervalEffect
  cases hp : s.bay.presence.level <;> cases hq : s.bay.plug.level <;> dsimp only <;> rw [hp, hq] <;> constructor <;>
    simp_all [setOccupancy]

/-- The loop accepts occupied (R3). -/
theorem loopOccupied_bayFits {s : State} (h : s.BayFits) (started : s.bay.startInterval = none) (clear : s.bay.presence.level = false) :
    (loopOccupied { s with bay := { s.bay with presence := s.bay.presence.accept true } }).BayFits := by
  obtain ⟨plug, linking, connected, unlinked, levels, _, session⟩ := h.fits
  obtain ⟨empty, present, implied⟩ := levels started
  have accepted : (s.bay.presence.accept true).level = true := rfl
  refine .of_fits ?_ (by simpa using started)
  unfold loopOccupied
  cases ho : s.bay.occupancy <;> dsimp only <;> rw [ho] <;> constructor <;> simp_all [setOccupancy]

/-- The loop accepts clear (R4). -/
theorem loopClear_bayFits {s : State} (h : s.BayFits) (started : s.bay.startInterval = none) (occupied : s.bay.presence.level = true) :
    (loopClear { s with bay := { s.bay with presence := s.bay.presence.accept false } }).BayFits := by
  obtain ⟨plug, linking, connected, unlinked, levels, _, session⟩ := h.fits
  obtain ⟨empty, present, implied⟩ := levels started
  have accepted : (s.bay.presence.accept false).level = false := rfl
  refine .of_fits ?_ (by simpa using started)
  unfold loopClear
  cases ho : s.bay.occupancy <;> dsimp only <;> rw [ho]
  case empty => simp_all
  case present =>
    have out : s.bay.plug.level = false := (present.mp ho).1
    exact enterEmpty_fits (by simpa using plug.mpr out) out rfl
  all_goals constructor <;> simp_all

/-- The plug accepted in once the start interval is over (R5, R21). -/
theorem plugIn_bayFits {s : State} (h : s.BayFits) (started : s.bay.startInterval = none) (out : s.bay.plug.level = false) :
    (bayPlugIn (linkPlugIn { s with bay := { s.bay with plug := s.bay.plug.accept true } })).BayFits := by
  obtain ⟨plug, linking, connected, unlinked, levels, _, session⟩ := h.fits
  obtain ⟨empty, present, implied⟩ := levels started
  have accepted : (s.bay.plug.accept true).level = true := rfl
  have unplugged := plug.mpr out
  refine .of_fits ?_ (by simpa using started)
  have opening : linkPlugIn { s with bay := { s.bay with plug := s.bay.plug.accept true } } =
      { s with bay := { s.bay with plug := s.bay.plug.accept true }, link := { s.link with state := .opening, failureRun := 0 } } := by
    unfold linkPlugIn; rw [if_pos unplugged]
  rw [opening]
  unfold bayPlugIn
  cases ho : s.bay.occupancy <;> dsimp only
  case empty | present => constructor <;> simp_all
  all_goals simp_all

/-- With the plug in the bay is neither EMPTY nor PRESENT. -/
theorem Bay.Fits.plugged {b : Bay} {l : LinkState} (h : b.Fits l) (started : b.startInterval = none) (in_ : l ≠ .unplugged) :
    b.plug.level = true ∧ b.occupancy ≠ .empty ∧ b.occupancy ≠ .present := by
  obtain ⟨empty, present, _⟩ := h.started started
  have level : b.plug.level = true := by
    cases hl : b.plug.level with
    | true => rfl
    | false => exact absurd (h.plug.mpr hl) in_
  exact ⟨level, fun k => by simp_all, fun k => by simp_all⟩

/-- The bay once the start interval is over and its plug has left: EMPTY or PRESENT by its loop (R6). -/
theorem bayPlugOut_fits {s : State} (h : s.BayFits) (started : s.bay.startInterval = none) (in_ : s.bay.plug.level = true) :
    (bayPlugOut { s with bay := { s.bay with plug := s.bay.plug.accept false } }).bay.Fits .unplugged := by
  have notOut : s.link.state ≠ .unplugged := fun k => by rw [h.fits.plug.mp k] at in_; cases in_
  obtain ⟨_, notEmpty, notPresent⟩ := h.fits.plugged started notOut
  obtain ⟨_, _, implied⟩ := h.fits.started started
  have accepted : (s.bay.plug.accept false).level = false := rfl
  unfold bayPlugOut
  dsimp only
  split
  · next e => exact absurd e notEmpty
  · next e => exact absurd e notPresent
  all_goals
    split
    · next clear => exact enterEmpty_fits rfl accepted (implied.mp clear).2
    · next occupied =>
      have loop : s.bay.presence.level = true := by
        cases hl : s.bay.presence.level with
        | true => rfl
        | false => exact absurd (implied.mpr ⟨in_, hl⟩) occupied
      exact Bay.Fits.present (b := { s.bay with plug := s.bay.plug.accept false, reidentify := none }) rfl accepted loop
        (by simpa using occupied) started

/-- The plug accepted out: the link UNPLUGGED, the bay EMPTY or PRESENT by its loop (R6, R29). -/
theorem plugOut_bayFits {s : State} (h : s.BayFits) (kept : s.linkKept) (in_ : s.bay.plug.level = true) :
    (linkPlugOut (if s.bay.startInterval.isSome = true
      then { s with bay := { s.bay with plug := s.bay.plug.accept false } }
      else bayPlugOut { s with bay := { s.bay with plug := s.bay.plug.accept false } })).BayFits := by
  split
  · next starting =>
    obtain ⟨empty, implied, _⟩ := h.fits.starting starting
    have out : (linkPlugOut { s with bay := { s.bay with plug := s.bay.plug.accept false } }).linkKept :=
      State.linkKept.linkPlugOut (by exact kept)
    have accepted : (s.bay.plug.accept false).level = false := rfl
    have closed : ∀ id, s.bay.session ≠ .opened id := fun id k => h.fits.session ⟨id, k⟩ empty
    have running : s.bay.startInterval ≠ none := Option.isSome_iff_ne_none.mp starting
    exact ⟨by constructor <;> simp [empty, implied, closed, running], fun _ => out.2.2.2.1 (by simp)⟩
  · next started =>
    rw [Bool.not_eq_true, Option.isSome_eq_false_iff, Option.isNone_iff_eq_none] at started
    exact .of_fits (by simpa using bayPlugOut_fits h started in_) (by simpa using started)

/-! ### Failures and identities -/

theorem bayLinkLost_occupancy (s : State) :
    (bayLinkLost s).bay.occupancy =
      if s.bay.occupancy = .linking ∨ s.bay.occupancy = .connected then .unlinked else s.bay.occupancy := by
  unfold bayLinkLost
  cases ho : s.bay.occupancy <;> simp [ho]

theorem declareLost_occupancy (s : State) :
    (declareLost s).bay.occupancy =
      if s.bay.occupancy = .linking ∨ s.bay.occupancy = .connected then .unlinked else s.bay.occupancy := by
  unfold declareLost
  simp [bayLinkLost_occupancy]

/-- A link lost takes the bay to UNLINKED (R9). -/
theorem declareLost_fits {s : State} (h : s.bay.Fits s.link.state) (started : s.bay.startInterval = none)
    (in_ : s.link.state ≠ .unplugged) : (declareLost s).bay.Fits .lost := by
  obtain ⟨plugged, notEmpty, notPresent⟩ := h.plugged started in_
  obtain ⟨plug, linking, connected, unlinked, levels, _, session⟩ := h
  obtain ⟨empty, present, implied⟩ := levels started
  have lost := declareLost_occupancy s
  cases ho : s.bay.occupancy <;> rw [ho] at lost <;> constructor <;> simp_all

/-- A failure keeps the bay with its link, LOST with UNLINKED after the third (R8, R9, R27). -/
theorem transactionFails_bayFits {s : State} (h : s.BayFits) (kept : s.linkKept) {x : Transaction} (busy : s.link.busy = some x) :
    (transactionFails x s).BayFits := by
  have started := h.started_of_busy busy
  have in_ : s.link.state ≠ .unplugged := fun k => by
    have none := (kept.2.2.2.1 k).2
    rw [busy] at none
    cases none
  have counted : (countFailure (idleLink s)).bay.Fits (countFailure (idleLink s)).link.state := by
    unfold countFailure
    split
    · exact h.fits
    · split
      · exact h.fits
      · have lost := declareLost_fits (s := idleLink s) h.fits started in_
        simpa using lost
  refine .of_fits ?_ (by simpa using started)
  have state : (transactionFails x s).link.state = (countFailure (idleLink s)).link.state := by simp [transactionFails]
  rw [state]
  exact counted.congr (by simp [transactionFails]) (by simp [transactionFails]) (by simp [transactionFails])
    (by simp [transactionFails]) (by simp [transactionFails]) fun id k => ⟨id, by simpa [transactionFails] using k⟩

/-- An IDENTIFY answered brings CONNECTED with the link UP (R10, R25). -/
theorem identified_bayFits {s : State} (h : s.BayFits) (kept : s.linkKept) {x : Transaction} (busy : s.link.busy = some x)
    (id : Identity) (hint : Nat) : (takeHint hint (identifySucceeded id (linkComesUp (linkSucceeded s)))).BayFits := by
  have started := h.started_of_busy busy
  have in_ : s.link.state ≠ .unplugged := fun k => by
    have none := (kept.2.2.2.1 k).2
    rw [busy] at none
    cases none
  obtain ⟨plugged, notEmpty, notPresent⟩ := h.fits.plugged started in_
  have up : (linkComesUp (linkSucceeded s)).link.state = .up := by
    unfold linkComesUp
    cases hl : s.link.state <;> simp [hl] at in_ ⊢
    all_goals split <;> simp
  have bay : (linkComesUp (linkSucceeded s)).bay = s.bay := by simp
  have fits : (identifySucceeded id (linkComesUp (linkSucceeded s))).bay.Fits .up := by
    obtain ⟨plug, linking, connected, unlinked, levels, _, session⟩ := h.fits
    obtain ⟨empty, present, implied⟩ := levels started
    unfold identifySucceeded
    rw [bay]
    cases ho : s.bay.occupancy <;> dsimp only
    case empty => exact absurd ho notEmpty
    case present => exact absurd ho notPresent
    case connected => rw [bay, ← connected ho]; exact h.fits
    all_goals constructor <;> simp_all
  exact .of_fits (by simpa [up] using fits) (by simpa using started)

theorem endSession_idle {s : State} (cause : EndCause) (coach : Nat) (idle : s.link.busy = none) :
    (endSession cause coach s).link.busy = none := by
  have dark : (lampSessionEnd (emptyCache
      { s with bay := { s.bay with session := .none }, faults := s.faults.endSession, link := s.link.discardPass })).link.busy = none :=
    (lampSessionEnd_works _).idle (by simp [Link.discardPass, idle])
  unfold endSession
  simpa using dark

theorem transitOver_bayFits {s : State} (h : s.BayFits) : (transitOver s).BayFits := by
  rcases transitOver_cases s with ⟨id, _, e⟩ | ⟨_, e⟩ <;> rw [e]
  · exact h.congr (busy := fun idle => endSession_idle (s := afterTransit s) _ _ (by simpa using idle))
  · exact h.congr

/-- Every effect keeps the bay with its link (R2 to R10, R21, R27, R29). -/
theorem Effect.bayFits {s v : State} (e : Effect s v) (kept : s.linkKept) (h : s.BayFits) : v.BayFits := by
  cases e
  case startsBay starting => exact startIntervalEffect_bayFits h starting
  case loop level started other =>
    cases level
    · exact loopClear_bayFits h started (by simpa using other)
    · exact loopOccupied_bayFits h started (by simpa using other)
  case plugsIn started out => exact plugIn_bayFits h started out
  case plugsOut in_ => exact plugOut_bayFits h kept in_
  case reidentifies =>
    split
    · next lost =>
      have started : s.bay.startInterval = none := by
        cases hi : s.bay.startInterval with
        | none => rfl
        | some t => have empty := (h.fits.starting (by rw [hi]; rfl)).1; rw [lost] at empty; cases empty
      exact .of_fits (by simpa using h.fits.congr (b := { s.bay with reidentify := none }) rfl rfl rfl rfl rfl fun id k => ⟨id, k⟩)
        (by simpa using started)
    · exact h.congr
  case fails x busy => exact transactionFails_bayFits h kept busy
  case identifies x id hint busy _ => exact identified_bayFits h kept busy id hint
  case acknowledges => exact (lampAcknowledged_works _ _ _ _).bayFits (a := linkSucceeded s) h.congr
  case takesEntry x _ _ _ _ _ busy _ _ =>
    exact .of_fits (by simpa using h.fits) (by simpa using h.started_of_busy busy)
  case measuresSteady => exact (measureEnds_works _ _ _).bayFits h
  case readsShort => exact (shortReading_works _ _).bayFits h
  case endsCapture => unfold captureEnds; exact (measureEnds_works _ _ _).bayFits h
  case waitsNoLonger => exact (linkWaitOver_works _).bayFits h
  case goesGreen =>
    unfold enterHolding
    exact (abandonCheck_works _).bayFits h.congr
  case endsTransit => exact transitOver_bayFits h
  case sags =>
    exact (lampSag_works _).bayFits (a := { s with supply := { s.supply with
      sag := true, detected := true, lowest := some s.supply.level, recovery := none, dip := none } }) h.congr
  case recovers =>
    exact (lampRecovered_works _).bayFits (a := { s with supply := { s.supply with sag := false, recovery := none } }) h.congr
  all_goals exact h.congr

theorem Quiet.bayFits {s v : State} (q : Quiet s v) (h : s.BayFits) : v.BayFits := by
  cases q
  case linkTakesPlug out starting =>
    have unplugged := h.fits.plug.mpr out
    obtain ⟨empty, implied, _⟩ := h.fits.starting starting
    have closed : ∀ id, s.bay.session ≠ .opened id := fun id k => h.fits.session ⟨id, k⟩ empty
    have accepted : (s.bay.plug.accept true).level = true := rfl
    have running : s.bay.startInterval ≠ none := Option.isSome_iff_ne_none.mp starting
    have opening : (linkPlugIn { s with bay := { s.bay with plug := s.bay.plug.accept true } }).link.state = .opening := by
      unfold linkPlugIn; rw [if_pos unplugged]
    refine ⟨?_, fun _ => ⟨by simpa using (h.still starting).1, by simpa using (h.still starting).2⟩⟩
    rw [opening]
    constructor <;> simp [empty, implied, closed, running]
  case takesLoop level starting =>
    have running : s.bay.startInterval ≠ none := Option.isSome_iff_ne_none.mp starting
    obtain ⟨plug, linking, connected, unlinked, _, starts, session⟩ := h.fits
    exact ⟨⟨plug, linking, connected, unlinked, fun k => absurd k running, starts, session⟩, h.still⟩
  case beginsMeasure p current _ _ => rw [(beginMeasure_keeps p current s).1]; exact h.congr
  all_goals exact h.congr

/-- The link record and the bay with it. -/
def State.linkAndBay (s : State) : Prop := s.linkKept ∧ s.BayFits

theorem afterReset_bayFits (s : State) (cause : Nat) : (s.afterReset cause).BayFits := by
  refine ⟨?_, fun _ => ⟨rfl, rfl⟩⟩
  constructor <;> simp [State.afterReset, Bay.atReset, Link.atReset, Filter.atReset]

theorem kept_linkAndBay : Kept State.linkAndBay where
  queue _ _ h := ⟨h.1, h.2.congr⟩
  reset s cause h := ⟨kept_linkKept.reset s cause h.1, afterReset_bayFits s cause⟩
  arrives _ _ h a := ⟨kept_linkKept.arrives _ _ h.1 a, by rw [a.eq.1]; exact h.2.congr⟩
  quietly _ _ h q := ⟨q.linkKept h.1, q.bayFits h.2⟩
  event _ _ h e := ⟨(e.linkKept h.1).settle, (e.bayFits h.1 h.2).settle (e.linkKept h.1)⟩
  round s h := by
    have kept : (claimPeriodEffect s).linkKept := by unfold claimPeriodEffect; exact h.1.takeRound.congr
    exact ⟨kept.settle, State.BayFits.settle h.2.congr kept⟩
  trails _ _ h t := by
    obtain ⟨e, _, presence, plug, _⟩ := t.eq
    refine ⟨kept_linkKept.trails _ _ h.1 t, h.2.congr ?_ ?_ presence plug ?_ ?_ ?_ ?_ ?_⟩ <;> rw [e] <;> simp

end Sys2Proof.Machine
end

section
/-! SUPPORT. The line record through a step: claims fall due only while the part is configured, and each timer keeps its status or mark
(R84, R86 to R91, R95, R96). -/

namespace Sys2Proof.Machine

open Sys2Proof

/-! ### Claims made due -/

/-- Of the line only claims fall due, and none while the part is unconfigured (R96). -/
structure ClaimsDue (a b : State) : Prop where
  start : b.start = a.start
  only : ClaimsOnly a.line b.line
  idle : a.configured = false → b.line = a.line
  flight : b.line.inFlight.isSome = a.line.inFlight.isSome
  depart : a.line.departSlot = true → b.line.departSlot = true
  heat : a.line.heatSlot = true → b.line.heatSlot = true
  air : a.line.airSlot = true → b.line.airSlot = true

theorem ClaimsDue.of_eq {a b : State} (line : b.line = a.line := by simp) (start : b.start = a.start := by simp) : ClaimsDue a b :=
  ⟨start, by simp [line], fun _ => line, by rw [line], by rw [line]; exact id, by rw [line]; exact id, by rw [line]; exact id⟩

theorem ClaimsDue.trans {a b c : State} (h : ClaimsDue a b) (k : ClaimsDue b c) : ClaimsDue a c := by
  have start : b.configured = a.configured := by unfold State.configured; rw [h.start]
  exact ⟨k.start.trans h.start, by simpa [h.only] using k.only, fun idle => (k.idle (by rwa [start])).trans (h.idle idle),
    k.flight.trans h.flight, k.depart ∘ h.depart, k.heat ∘ h.heat, k.air ∘ h.air⟩

/-- With nothing of the line changed after. -/
theorem ClaimsDue.then {a b c : State} (h : ClaimsDue a b) (line : c.line = b.line := by simp) (start : c.start = b.start := by simp) :
    ClaimsDue a c := h.trans (.of_eq line start)

/-- With nothing of the line changed before. -/
theorem ClaimsDue.after {a b c : State} (k : ClaimsDue b c) (line : b.line = a.line := by simp) (start : b.start = a.start := by simp) :
    ClaimsDue a c := (ClaimsDue.of_eq line start).trans k

theorem makeDepartDue_due (s : State) : ClaimsDue s (makeDepartDue s) := by
  unfold makeDepartDue
  split
  · next on => exact ⟨rfl, by simp, fun off => (by rw [on] at off; cases off), by simp, by simp, by simp, by simp⟩
  · exact .of_eq

theorem makeHeatDue_due (s : State) : ClaimsDue s (makeHeatDue s) := by
  unfold makeHeatDue
  split
  · next on => exact ⟨rfl, by simp, fun off => (by rw [on] at off; cases off), by simp, by simp, by simp, by simp⟩
  · exact .of_eq

theorem makeAirDue_due (s : State) : ClaimsDue s (makeAirDue s) := by
  unfold makeAirDue
  split
  · next on => exact ⟨rfl, by simp, fun off => (by rw [on] at off; cases off), by simp, by simp, by simp, by simp⟩
  · exact .of_eq

theorem enterHeatState_due (new : HeatState) (s : State) : ClaimsDue s (enterHeatState new s) := by
  unfold enterHeatState
  split
  · exact .of_eq
  · refine ClaimsDue.after (makeHeatDue_due _) ?_ ?_ <;> cases new <;> dsimp only <;> split <;> simp

theorem evalHeat_due (s : State) : ClaimsDue s (evalHeat s) := by
  have called : ClaimsDue s (updateCalled s) := .of_eq
  unfold evalHeat
  exact (called.trans (enterHeatState_due (updateCalled s).heatTest _)).then

theorem changeDep_due (d : DepState) (s : State) : ClaimsDue s (changeDep d s) := by
  unfold changeDep
  split
  · exact .of_eq
  · exact (makeDepartDue_due _).after

theorem enterNone_due (s : State) : ClaimsDue s (enterNone s) := by
  unfold enterNone
  exact (changeDep_due .none s).then

theorem enterGone_due (coach : Nat) (s : State) : ClaimsDue s (enterGone coach s) := by
  unfold enterGone
  exact (changeDep_due .gone s).then

theorem replacedExit_due (coach : Nat) (s : State) : ClaimsDue s (replacedExit coach s) := by
  unfold replacedExit
  split
  · exact (changeDep_due .assigned s).then
  · exact (enterNone_due s).then

theorem departureAtSessionEnd_due (cause : EndCause) (coach : Nat) (s : State) :
    ClaimsDue s (departureAtSessionEnd cause coach s) := by
  unfold departureAtSessionEnd
  split
  · split
    · exact (enterNone_due s).then
    · exact .of_eq
  · split
    · exact replacedExit_due coach s
    · exact .of_eq
  · exact (enterNone_due s).then
  · exact (enterNone_due s).then
  · exact replacedExit_due coach s
  · exact replacedExit_due coach s
  · exact enterGone_due coach s
  · exact .of_eq

theorem clearanceMove_due (s : State) : ClaimsDue s (clearanceMove s) := by
  unfold clearanceMove
  split
  · split
    · exact changeDep_due _ s
    · exact .of_eq
  · split
    · exact changeDep_due _ s
    · split
      · split
        · exact changeDep_due _ s
        · exact .of_eq
      · exact .of_eq
  · split
    · exact changeDep_due _ s
    · split
      · exact changeDep_due _ s
      · exact .of_eq
  · exact .of_eq

theorem clearanceTests_due (s : State) : ClaimsDue s (clearanceTests s) :=
  ((clearanceMove_due s).trans (clearanceMove_due _)).trans (clearanceMove_due _)

theorem react_due (s : State) : ClaimsDue s (react s) := by
  have read : ClaimsDue s (deriveLatest (readPeers (startCheck (startPass s)))) := .of_eq
  rw [react_eq]
  exact (read.trans (evalHeat_due _)).trans (clearanceTests_due _)

theorem settle_due (s : State) : ClaimsDue s (settle s) := by
  have driven (a : State) : ClaimsDue a (driveHead a) := .of_eq (by simp [driveHead]) (by simp [driveHead])
  have last (a : State) : ClaimsDue a (giveConditions (arbitrate (startPass a))) := .of_eq
  rw [settle_eq]
  exact (((react_due s).trans (react_due _)).trans (last _)).trans (driven _)

theorem heatSessionEnd_due (s : State) : ClaimsDue s (heatSessionEnd s) := by
  unfold heatSessionEnd
  exact (evalHeat_due _).after

theorem endSession_due (cause : EndCause) (coach : Nat) (s : State) : ClaimsDue s (endSession cause coach s) := by
  have dark : ClaimsDue s (lampSessionEnd (emptyCache
      { s with bay := { s.bay with session := .none }, faults := s.faults.endSession, link := s.link.discardPass })) := .of_eq
  have departed : ClaimsDue s (clearanceSessionEnd cause coach (lampSessionEnd (emptyCache
      { s with bay := { s.bay with session := .none }, faults := s.faults.endSession, link := s.link.discardPass }))) := by
    unfold clearanceSessionEnd
    exact (dark.trans (departureAtSessionEnd_due cause coach _)).then
  unfold endSession
  exact (departed.trans (heatSessionEnd_due _)).then

theorem putIdentity_due (id : Identity) (s : State) : ClaimsDue s (putIdentity id s) := by
  rcases putIdentity_cases id s with ⟨_, e⟩ | ⟨_, e⟩ | ⟨held, _, e⟩ <;> rw [e]
  · exact .of_eq
  · exact .of_eq
  · exact (endSession_due .identityReplaced held.coach s).then

theorem enterEmpty_due (s : State) : ClaimsDue s (enterEmpty s) := by
  unfold enterEmpty
  dsimp only
  split
  case h_4 => exact (endSession_due _ _ _).after
  case h_5 => exact .of_eq
  all_goals exact (enterGone_due _ _).after

theorem loopClear_due (s : State) : ClaimsDue s (loopClear s) := by
  unfold loopClear
  split
  · exact enterEmpty_due s
  all_goals exact .of_eq

theorem bayPlugOut_due (s : State) : ClaimsDue s (bayPlugOut s) := by
  unfold bayPlugOut
  split
  case h_1 | h_2 => exact .of_eq
  all_goals
    dsimp only
    split
    · exact (enterEmpty_due _).after
    · exact .of_eq

theorem transitOver_due (s : State) : ClaimsDue s (transitOver s) := by
  have transit : ClaimsDue s (afterTransit s) := by
    unfold afterTransit
    exact (enterNone_due _).after
  rcases transitOver_cases s with ⟨id, _, e⟩ | ⟨_, e⟩ <;> rw [e]
  · exact transit.trans (endSession_due _ _ _)
  · exact transit

theorem applyVerdict_due (v : MeterVerdict) (metered : Nat) (s : State) : ClaimsDue s (applyVerdict v metered s) := by
  unfold applyVerdict
  split
  · split
    · exact .of_eq
    · have fault : ClaimsDue s { s with
          heat := { s.heat with heaterFault := true }, meter := { s.meter with overdrawRun := 0 } } := .of_eq
      unfold heaterOverdrawn
      exact (fault.trans (evalHeat_due _)).then
  · dsimp only; split <;> exact .of_eq
  all_goals exact .of_eq

theorem updateDrawing_due (grant : Nat) (s : State) : ClaimsDue s (updateDrawing grant s) := by
  unfold updateDrawing
  dsimp only
  split
  · refine .of_eq ?_ ?_ <;> split <;> simp
  · refine ClaimsDue.after (makeHeatDue_due _) ?_ ?_ <;> dsimp only <;> split <;> simp

theorem takeRound_due (s : State) : ClaimsDue s (takeRound s) := by
  have read : ClaimsDue s (roundRead s) := by unfold roundRead; exact (evalHeat_due _).after
  have drawn : ClaimsDue s (roundDrawn s) := by
    unfold roundDrawn
    exact read.trans ((updateDrawing_due _ _).after)
  rw [takeRound_eq]
  exact (drawn.trans (evalHeat_due _)).then

theorem sampleProbe_due (v : Int) (s : State) : ClaimsDue s (sampleProbe v s) := by
  unfold sampleProbe
  exact (makeAirDue_due _).after

theorem startConfigured_due (probe : Int) (s : State) : ClaimsDue s (startConfigured probe s) := by
  unfold startConfigured
  dsimp only
  split
  · exact (sampleProbe_due _ _).after
  · exact .of_eq

theorem acceptAssign_due (coach countdown : Nat) (s : State) : ClaimsDue s (acceptAssign coach countdown s) := by
  have assigned : ClaimsDue s (makeDepartDue { changeDep .assigned s with dep := { (changeDep .assigned s).dep with
      assignment := some coach, countdown := some (countdown : Int), nextFall := some s.nextSecond } }) :=
    (changeDep_due .assigned s).trans ((makeDepartDue_due _).after)
  unfold acceptAssign
  exact assigned.then

theorem leaveReady_due (s : State) : ClaimsDue s (leaveReady s) := by
  unfold leaveReady
  split
  · exact changeDep_due .assigned s
  · exact .of_eq

theorem hearDepart_due (n : Nat) (part : DepartPart) (s : State) : ClaimsDue s (hearDepart n part s) := by
  have heard : ∀ a : State, ClaimsDue a (hearSettling n part.countdown a) := fun a => by
    unfold hearSettling
    split
    · split
      · exact changeDep_due .ready a
      · split
        · exact changeDep_due .ready a
        · exact .of_eq
    · exact .of_eq
  unfold hearDepart
  dsimp only
  split
  · exact (heard _).after
  · exact .of_eq

/-! ### The record kept -/

theorem ClaimsDue.lineRight {a b : State} (h : ClaimsDue a b) (k : a.lineRight) : b.lineRight := by
  obtain ⟨run, conflict, quiet, empty, idle, reading⟩ := k
  obtain ⟨start, ⟨status, errors, quietTimer, mark, conflictTimer, receipt⟩, same, flight⟩ := h
  have configured : b.configured = a.configured := by unfold State.configured; rw [start]
  refine ⟨by rwa [errors], by rwa [mark, conflictTimer], by rwa [status, quietTimer], fun q => ?_, fun off => ?_, by rwa [start]⟩
  · have none := empty (by rwa [status] at q)
    rw [none] at flight
    simpa using flight
  · rw [configured] at off
    rw [same off]
    exact idle off

/-- A frame in flight is that of a configured part (R96). -/
theorem State.lineRight.configured_of_flight {s : State} (h : s.lineRight) {f : Flight} (flies : s.line.inFlight = some f) :
    s.configured = true := by
  rw [← Bool.not_eq_false]
  intro off
  have none := (h.2.2.2.2.1 off).2.2.2.1
  rw [flies] at none
  cases none

/-- A line changed while the part is configured. -/
theorem State.lineRight.put {s v : State} (h : s.lineRight) (on : s.configured = true) (start : v.start = s.start)
    (run : v.line.errorRun ≤ 15) (conflict : v.line.conflict = true ↔ v.line.conflictTimer.isSome = true)
    (quiet : v.line.status = .quiet ↔ v.line.quietTimer.isSome = true) (flight : v.line.status = .quiet → v.line.inFlight = none) :
    v.lineRight := by
  refine ⟨run, conflict, quiet, flight, fun off => ?_, by rw [start]; exact h.2.2.2.2.2⟩
  unfold State.configured at on off
  rw [start, on] at off
  cases off

theorem State.lineRight.finishFrame {s : State} (h : s.lineRight) {f : Flight} (flies : s.line.inFlight = some f) :
    (finishFrame f s).lineRight := by
  have loud : s.line.status ≠ .quiet := fun q => by
    have none := h.2.2.2.1 q
    rw [flies] at none
    cases none
  refine h.put (h.configured_of_flight flies) (by simp) (by simp) (by simpa using h.2.1) ?_ (by simp)
  have timer : s.line.quietTimer.isSome = false := by
    rw [← Bool.not_eq_true]; exact fun k => loud (h.2.2.1.mpr k)
  cases hs : s.line.status <;> simp_all

theorem State.lineRight.countError {s : State} (h : s.lineRight) {f : Flight} (flies : s.line.inFlight = some f) :
    (countError (returnFrame f s)).lineRight := by
  have returned : (Machine.returnFrame f s).line = { s.line with inFlight := none } := by simp
  refine h.put (h.configured_of_flight flies) (by simp) ?_ (by simpa using h.2.1) ?_ (by simp) <;>
    unfold Machine.countError <;> rw [returned] <;> dsimp only <;> split
  · simp
  · next few =>
    have sixteen : Config.errorsToQuiet = 16 := rfl
    dsimp only
    omega
  · simp
  · exact h.2.2.1

/-- Bring-up finds the line at its reset values, and makes at most a claim due (R96, R174). -/
theorem State.lineRight.bringUpEffect {s : State} (h : s.lineRight) (reading : s.start.phase = .reading) (img : Image) (passes : Bool)
    (probe : Int) : (bringUpEffect img passes probe s).lineRight := by
  obtain ⟨run, conflict, quiet, empty, idle, _⟩ := h
  have off : s.configured = false := by unfold State.configured; rw [reading]; rfl
  have kept : ∀ a : State, a.line = s.line → a.start.readTimer = none → a.lineRight := fun a line timer => by
    unfold State.lineRight
    rw [line, timer]
    exact ⟨run, conflict, quiet, empty, fun _ => idle off, fun k => by cases k⟩
  unfold Machine.bringUpEffect
  dsimp only
  split
  · exact (startConfigured_due _ _).lineRight (kept _ (by simp) (by simp))
  · exact kept _ (by simp) (by simp)

theorem Effect.lineRight {s v : State} (e : Effect s v) (h : s.lineRight) : v.lineRight := by
  have due : ∀ {a : State}, ClaimsDue s a → a.lineRight := fun k => k.lineRight h
  cases e
  case bringsUp img passes probe reads _ _ _ => exact h.bringUpEffect (reads.elim id h.2.2.2.2.2) img passes probe
  case finishes f flies => exact h.finishFrame flies
  case errs f flies => exact h.countError flies
  case conflicts on => exact h.put on rfl h.1 (by simp) h.2.2.1 h.2.2.2.1
  case agrees =>
    obtain ⟨run, conflict, quiet, empty, idle, reading⟩ := h
    exact ⟨run, by simp, quiet, empty, fun off => have d := idle off; ⟨d.1, d.2.1, d.2.2.1, d.2.2.2.1, d.2.2.2.2.1, d.2.2.2.2.2.1, rfl,
      d.2.2.2.2.2.2.2⟩, reading⟩
  all_goals apply due
  case loop =>
    split
    · exact .of_eq
    · exact (loopClear_due _).after
  case plugsOut =>
    refine ClaimsDue.then (b := if s.bay.startInterval.isSome = true
        then { s with bay := { s.bay with plug := s.bay.plug.accept false } }
        else bayPlugOut { s with bay := { s.bay with plug := s.bay.plug.accept false } }) ?_
    split
    · exact .of_eq
    · exact (bayPlugOut_due _).after
  case reidentifies => split <;> exact .of_eq
  case identifies x id hint _ _ =>
    have put : ClaimsDue s (identifySucceeded id (linkComesUp (linkSucceeded s))) := by
      unfold identifySucceeded
      split
      case h_3 => exact .of_eq
      all_goals exact (putIdentity_due _ _).after
    exact put.then
  case rechecksLamps => exact (leaveReady_due _).after
  case assigns coach countdown _ _ => exact acceptAssign_due coach countdown s
  case cancels => exact enterNone_due s
  case goesGreen => unfold enterHolding; exact ((changeDep_due .holding s).then)
  case lapses => unfold enterLapsed; exact (changeDep_due .lapsed s).then
  case endsTransit => exact transitOver_due s
  case samples v _ => exact sampleProbe_due v s
  case closesWindow => unfold closeWindow; exact (applyVerdict_due _ _ _).after
  case hearsDepart n part _ _ => exact hearDepart_due n part s
  all_goals exact .of_eq

theorem Quiet.lineRight {s v : State} (q : Quiet s v) (h : s.lineRight) : v.lineRight := by
  cases q
  case transmits may =>
    simp only [State.mayContend, Bool.and_eq_true, decide_eq_true_eq] at may
    obtain ⟨⟨on, loud⟩, _⟩ := may
    exact h.put on (by simp) (by simpa using h.1) (by simpa using h.2.1) (by simpa using h.2.2.1) fun q => absurd (by simpa using q) loud
  case returnsFrame f flies =>
    exact h.put (h.configured_of_flight flies) (by simp) (by simpa using h.1) (by simpa using h.2.1) (by simpa using h.2.2.1) (by simp)
  case probes due =>
    have quiet := h.2.2.1.mpr due
    have on : s.configured = true := by
      rw [← Bool.not_eq_false]
      intro off
      have normal := (h.2.2.2.2.1 off).2.2.2.2.1
      rw [quiet] at normal
      cases normal
    exact h.put on rfl h.1 h.2.1 (by simp [quiet]) (by simp [quiet])
  case beginsMeasure p current _ _ => rw [(beginMeasure_keeps p current s).1]; exact h
  all_goals exact ClaimsDue.lineRight .of_eq h

theorem kept_lineRight : Kept State.lineRight where
  queue _ _ h := h
  reset _ _ _ := ⟨Nat.zero_le _, by simp [State.afterReset, Line.atReset], by simp [State.afterReset, Line.atReset], fun _ => rfl,
    fun _ => ⟨rfl, rfl, rfl, rfl, rfl, rfl, rfl, rfl⟩, fun _ => rfl⟩
  arrives s b h a := by
    cases a
    case clock => exact h
    case frame t right =>
      obtain ⟨run, conflict, quiet, empty, idle, reading⟩ := h
      refine ⟨run, conflict, quiet, empty, fun off => ?_, reading⟩
      obtain ⟨d1, d2, d3, d4, d5, d6, d7, _⟩ := idle off
      refine ⟨d1, d2, d3, d4, d5, d6, d7, ?_⟩
      have off' : (s.advance t).configured = false := off
      simp [markReceipt, off']
  quietly _ _ h q := q.lineRight h
  event _ _ h e := (settle_due _).lineRight (e.lineRight h)
  round s h := by
    have round : ClaimsDue s (claimPeriodEffect s) := by
      unfold claimPeriodEffect
      exact ((takeRound_due s).trans ((makeHeatDue_due _).after)).trans (makeDepartDue_due _)
    exact (settle_due _).lineRight (round.lineRight h)
  trails _ _ h t := by rw [t.eq.1]; exact h

end Sys2Proof.Machine
end

section
/-! SUPPORT. The six condition sources through a step: each event gives them afresh, so that their records stand on their owners' conditions
(R165). -/

namespace Sys2Proof.Machine

open Sys2Proof

/-! ### Masks set over a list of sources -/

/-- Records changed one after another over a list of different sources. -/
theorem foldl_set_get (f : Source → SourceRec → SourceRec) (src : Source) : ∀ (l : List Source) (n : Notices), l.Nodup →
    ((l.foldl (fun m x => m.set x (f x (m.get x))) n).get src = if src ∈ l then f src (n.get src) else n.get src)
  | [], _, _ => by simp
  | x :: l, n, nodup => by
    obtain ⟨fresh, nodup⟩ := List.nodup_cons.mp nodup
    rw [List.foldl_cons, foldl_set_get f src l _ nodup, Notices.get_set]
    by_cases e : x = src
    · subst e; simp [fresh]
    · have e' : src ≠ x := fun k => e k.symm
      simp [e, e']

theorem mem_allSources (src : Source) : src ∈ allSources := by cases src <;> decide

theorem Notices.set_get (n : Notices) (src : Source) : n.set src (n.get src) = n := by
  simp [Notices.set, Notices.get]

/-- The own mask of one source among those a MASK names (R163). -/
def SourceRec.maskedBy (sources : Word16) (value : Bool) (src : Source) (r : SourceRec) : SourceRec :=
  if sources.getLsbD src.number.val then { r with masked := value } else r

theorem Notices.get_setMasks (sources : Word16) (value : Bool) (n : Notices) (src : Source) :
    (n.setMasks sources value).get src = (n.get src).maskedBy sources value src := by
  have one : n.setMasks sources value =
      allSources.foldl (fun m x => m.set x (SourceRec.maskedBy sources value x (m.get x))) n := by
    unfold Notices.setMasks SourceRec.maskedBy
    congr 1
    funext m x
    split
    · rfl
    · exact (m.set_get x).symm
  rw [one, foldl_set_get (SourceRec.maskedBy sources value) src _ _ (by decide), if_pos (mem_allSources src)]

theorem Notices.get_loadMasks (masks : Word16) (n : Notices) (src : Source) :
    (n.loadMasks masks).get src = { n.get src with masked := masks.getLsbD src.number.val } := by
  unfold Notices.loadMasks
  rw [foldl_set_get (fun x r => { r with masked := masks.getLsbD x.number.val }) src _ _ (by decide), if_pos (mem_allSources src)]

/-! ### Conditions given -/

/-- A condition's record left as it was but for its masks, or begun, or ended (R165). -/
def SourceRec.Given (a b : SourceRec) : Prop :=
  (b.holding = a.holding ∧ b.pending = a.pending ∧ b.repeatTimer = a.repeatTimer) ∨ (b.holding = true ∧ b.pending = true) ∨
    (b.holding = false ∧ b.pending = false ∧ b.repeatTimer = none)

theorem SourceRec.Given.trans {a b c : SourceRec} (h : a.Given b) (k : b.Given c) : a.Given c := by
  rcases k with ⟨holding, pending, timer⟩ | k | k
  · rcases h with ⟨h1, h2, h3⟩ | ⟨h1, h2⟩ | ⟨h1, h2, h3⟩
    · exact .inl ⟨holding.trans h1, pending.trans h2, timer.trans h3⟩
    · exact .inr (.inl ⟨holding.trans h1, pending.trans h2⟩)
    · exact .inr (.inr ⟨holding.trans h1, pending.trans h2, timer.trans h3⟩)
  · exact .inr (.inl k)
  · exact .inr (.inr k)

/-- A condition's record waits for nothing unless it holds (R165). -/
def SourceRec.Rests (r : SourceRec) : Prop := r.holding = false → r.pending = false ∧ r.repeatTimer = none

theorem SourceRec.Given.rests {a b : SourceRec} (k : a.Given b) (h : a.Rests) : b.Rests := by
  intro off
  rcases k with ⟨holding, pending, timer⟩ | ⟨on, _⟩ | ⟨_, ended⟩
  · rw [pending, timer]; exact h (holding ▸ off)
  · rw [on] at off; cases off
  · exact ended

theorem SourceRec.Given.pending {a b : SourceRec} (k : a.Given b) (off : a.holding = false) (on : b.holding = true) :
    b.pending = true := by
  rcases k with ⟨holding, _, _⟩ | ⟨_, begun⟩ | ⟨ended, _⟩
  · rw [holding, off] at on; cases on
  · exact begun
  · rw [ended] at on; cases on

/-- The condition sources given in an event. -/
def Notices.Gives (a b : Notices) : Prop := ∀ src : Source, src.isCondition = true → (a.get src).Given (b.get src)

theorem EdgesOnly.gives {a b : Notices} (h : EdgesOnly a b) : a.Gives b := fun src cond => by
  rw [h src cond]; exact .inl ⟨rfl, rfl, rfl⟩

theorem Notices.Gives.trans {a b c : Notices} (h : a.Gives b) (k : b.Gives c) : a.Gives c :=
  fun src cond => (h src cond).trans (k src cond)

theorem giveCondition_gives (src : Source) (s : State) : s.notices.Gives (giveCondition src s).notices := by
  intro other _
  unfold giveCondition
  split
  · exact .inl ⟨rfl, rfl, rfl⟩
  · split
    all_goals
      rw [modifySource_get]
      split
    · exact .inr (.inl ⟨rfl, rfl⟩)
    · exact .inl ⟨rfl, rfl, rfl⟩
    · exact .inr (.inr ⟨rfl, rfl, rfl⟩)
    · exact .inl ⟨rfl, rfl, rfl⟩

theorem giveConditions_gives (s : State) : s.notices.Gives (giveConditions s).notices :=
  (giveCondition_gives _ _).trans <| (giveCondition_gives _ _).trans <| (giveCondition_gives _ _).trans <|
    (giveCondition_gives _ _).trans <| (giveCondition_gives _ _).trans <| giveCondition_gives _ _

theorem Notices.Gives.of_eq {a b : Notices} (h : b = a) : a.Gives b := (EdgesOnly.of_eq h).gives

/-! ### Operations that raise edges -/

theorem enterGone_edges (coach : Nat) (s : State) : EdgesOnly s.notices (enterGone coach s).notices :=
  .trans (.of_eq (by simp)) (raiseEdge_edges rfl coach _)

theorem enterLapsed_edges (s : State) : EdgesOnly s.notices (enterLapsed s).notices :=
  .trans (.of_eq (by simp)) (raiseEdge_edges rfl _ (changeDep .lapsed s))

theorem enterNone_then_raise (coach : Nat) (s : State) :
    EdgesOnly s.notices (raiseEdge .unclearedExit coach (enterNone s)).notices :=
  .trans (.of_eq (by simp)) (raiseEdge_edges rfl coach (enterNone s))

theorem replacedExit_edges (coach : Nat) (s : State) : EdgesOnly s.notices (replacedExit coach s).notices := by
  unfold replacedExit
  exact .trans (.of_eq (by split <;> simp)) (raiseEdge_edges rfl coach _)

theorem departureAtSessionEnd_edges (cause : EndCause) (coach : Nat) (s : State) :
    EdgesOnly s.notices (departureAtSessionEnd cause coach s).notices := by
  unfold departureAtSessionEnd
  split
  · split
    · exact enterNone_then_raise coach s
    · exact .of_eq rfl
  · split
    · exact replacedExit_edges coach s
    · exact .of_eq rfl
  · exact enterNone_then_raise coach s
  · exact enterNone_then_raise coach s
  · exact replacedExit_edges coach s
  · exact replacedExit_edges coach s
  · exact enterGone_edges coach s
  · exact .of_eq rfl

theorem openSession_edges (id : Identity) (s : State) : EdgesOnly s.notices (openSession id s).notices := by
  unfold openSession
  refine .trans ?_ (raiseEdge_edges rfl _ _)
  dsimp only
  split
  · exact .trans (.of_eq (by simp)) (offerFault_edges _ _)
  · exact .of_eq (by simp)

theorem endSession_gives (cause : EndCause) (coach : Nat) (s : State) : s.notices.Gives (endSession cause coach s).notices := by
  have dark : (lampSessionEnd (emptyCache
      { s with bay := { s.bay with session := .none }, faults := s.faults.endSession, link := s.link.discardPass })).notices =
      s.notices := by simp
  have left (a : State) : EdgesOnly a.notices (heatSessionEnd (clearanceSessionEnd cause coach a)).notices :=
    .trans (departureAtSessionEnd_edges cause coach a) (.of_eq (by simp [clearanceSessionEnd]))
  have given (a : State) :
      a.notices.Gives (giveConditions (raiseEdge .sessionEnded coach (heatSessionEnd (clearanceSessionEnd cause coach a)))).notices :=
    ((left a).trans (raiseEdge_edges rfl coach _)).gives.trans (giveConditions_gives _)
  unfold endSession
  exact .trans (.of_eq dark) (given _)

theorem putIdentity_gives (id : Identity) (s : State) : s.notices.Gives (putIdentity id s).notices := by
  rcases putIdentity_cases id s with ⟨_, e⟩ | ⟨_, e⟩ | ⟨held, _, e⟩ <;> rw [e]
  · exact .of_eq rfl
  · exact (openSession_edges id s).gives
  · exact (endSession_gives .identityReplaced held.coach s).trans (openSession_edges id _).gives

theorem enterEmpty_gives (s : State) : s.notices.Gives (enterEmpty s).notices := by
  unfold enterEmpty
  dsimp only
  split
  · exact EdgesOnly.gives (.trans (.of_eq (by simp)) (enterGone_edges _ _))
  · exact (enterGone_edges _ _).gives
  · exact (enterGone_edges _ _).gives
  · exact endSession_gives _ _ { s with bay := { s.bay with occupancy := .empty, implied := false } }
  · exact .of_eq rfl

theorem loopClear_gives (s : State) : s.notices.Gives (loopClear s).notices := by
  unfold loopClear
  split
  · exact enterEmpty_gives s
  all_goals exact .of_eq rfl

theorem bayPlugOut_gives (s : State) : s.notices.Gives (bayPlugOut s).notices := by
  unfold bayPlugOut
  split
  case h_1 | h_2 => exact .of_eq rfl
  all_goals
    dsimp only
    split
    · exact enterEmpty_gives { s with
        link := { s.link with identifyReq := false }, bay := { s.bay with reidentify := none } }
    · exact .of_eq rfl

theorem declareLost_gives (s : State) : s.notices.Gives (declareLost s).notices := by
  unfold declareLost
  dsimp only
  exact EdgesOnly.gives (.trans (.of_eq (by simp)) (endCheckIncomplete_works _).edges)

theorem transactionFails_gives (x : Transaction) (s : State) : s.notices.Gives (transactionFails x s).notices := by
  have counted (a : State) : a.notices.Gives (countFailure a).notices := by
    unfold countFailure
    split
    · exact .of_eq rfl
    · split
      · exact .of_eq rfl
      · exact declareLost_gives a
  have handed (a : State) : a.notices.Gives (handFailure x a).notices := by
    unfold handFailure
    split
    · exact .of_eq (by simp)
    · exact (lampFailed_works _ _ _ a).edges.gives
    · exact .of_eq rfl
    · split
      · split
        · exact .of_eq (by simp)
        · exact .of_eq rfl
      · exact .of_eq rfl
  unfold transactionFails
  exact (counted (idleLink s)).trans (handed _)

theorem identified_gives (id : Identity) (hint : Nat) (s : State) :
    s.notices.Gives (takeHint hint (identifySucceeded id (linkComesUp (linkSucceeded s)))).notices := by
  have named (a : State) : a.notices.Gives (identifySucceeded id a).notices := by
    unfold identifySucceeded
    split
    case h_3 => exact .of_eq rfl
    all_goals exact .trans (.of_eq (by simp)) (putIdentity_gives id _)
  exact .trans (.of_eq (by simp)) ((named (linkComesUp (linkSucceeded s))).trans (.of_eq (by simp)))

theorem takeEntry_edges (module code : Nat) (severity : Severity) (count next : Nat) (s : State) :
    EdgesOnly s.notices (takeEntry module code severity count next s).notices := by
  have taken : EdgesOnly s.notices (takeCoachEntry module code severity (max 1 count) s).notices := offerFault_edges _ _
  unfold takeEntry
  split
  · exact .of_eq rfl
  · dsimp only
    split
    · exact taken.trans (.of_eq (by simp))
    · exact taken.trans (.of_eq (by simp))

theorem applyVerdict_edges (v : MeterVerdict) (metered : Nat) (s : State) :
    EdgesOnly s.notices (applyVerdict v metered s).notices := by
  unfold applyVerdict
  split
  · split
    · exact .of_eq rfl
    · unfold heaterOverdrawn
      exact .trans (.of_eq (by simp)) (.trans (offerFault_edges _ _) (raiseEdge_edges rfl _ _))
  · dsimp only
    split
    · exact .of_eq rfl
    · exact offerFault_edges _ _
  · exact offerFault_edges _ _
  all_goals exact .of_eq rfl

theorem returnFrame_edges (f : Flight) (s : State) : EdgesOnly s.notices (returnFrame f s).notices := by
  unfold returnFrame
  dsimp only
  split
  · next src _ _ _ =>
    split
    · exact .of_eq rfl
    · next edge =>
      intro other cond
      rw [modifySource_get, if_neg (by rintro rfl; exact edge cond)]
  case h_5 => exact .of_eq rfl
  all_goals
    unfold Notices.reportOutcome
    dsimp only
    intro other _
    split <;> rfl

theorem transmitChoice_edges (s : State) : EdgesOnly s.notices (transmitChoice s).notices := by
  have report : EdgesOnly s.notices (beginReport s).notices := by
    unfold beginReport
    split
    · exact .of_eq rfl
    · split
      · exact .of_eq rfl
      · exact fun _ _ => rfl
  unfold transmitChoice
  split
  · exact .of_eq rfl
  · split
    · exact .of_eq rfl
    · split
      · exact .of_eq rfl
      · split
        · next src _ =>
          unfold beginNotice
          split
          · exact .of_eq rfl
          · next edge =>
            intro other cond
            dsimp only [beginFrame]
            rw [modifySource_get, if_neg (by rintro rfl; exact edge cond)]
        · exact report

/-! ### An event and its reactions -/

theorem react_gives (s : State) : s.notices.Gives (react s).notices := by
  have started : EdgesOnly s.notices (startCheck (startPass s)).notices := .trans (.of_eq (by simp)) (startCheck_works _).edges
  rw [react_eq]
  exact (started.trans (.of_eq (by simp))).gives

theorem settle_gives (s : State) : s.notices.Gives (settle s).notices := by
  have arbitrated (a : State) : (arbitrate (startPass a)).notices = a.notices := by simp
  have given (a : State) : a.notices.Gives (driveHead (giveConditions (arbitrate (startPass a)))).notices := by
    have same : a.notices.Gives (arbitrate (startPass a)).notices := .of_eq (arbitrated a)
    rw [driveHead_notices]
    generalize arbitrate (startPass a) = b at same ⊢
    exact same.trans (giveConditions_gives b)
  have first := react_gives s
  rw [settle_eq]
  generalize react s = a at first ⊢
  have second := react_gives a
  generalize react a = b at second ⊢
  exact first.trans (second.trans (given b))

/-- Every effect but the end of a frame gives conditions, or leaves them. -/
theorem Effect.gives {s v : State} (e : Effect s v) (other : ∀ f, v ≠ finishFrame f s) : s.notices.Gives v.notices := by
  cases e
  case bringsUp img passes probe _ _ _ _ =>
    have taken : (bringUpEffect img passes probe s).notices.sources = (s.notices.loadMasks img.masks).sources := by simp
    intro src _
    have r : (bringUpEffect img passes probe s).notices.get src = _ :=
      (congrArg (·[src.number]) taken).trans (s.notices.get_loadMasks img.masks src)
    rw [r]
    exact .inl ⟨rfl, rfl, rfl⟩
  case loop level _ _ =>
    split
    · exact .of_eq (by simp)
    · exact loopClear_gives { s with bay := { s.bay with presence := s.bay.presence.accept level } }
  case plugsOut =>
    refine .trans ?_ (.of_eq (linkPlugOut_keeps _).2.2.2.2.2.1)
    split
    · exact .of_eq rfl
    · exact bayPlugOut_gives { s with bay := { s.bay with plug := s.bay.plug.accept false } }
  case reidentifies => split <;> exact .of_eq (by simp)
  case fails x _ => exact transactionFails_gives x s
  case identifies x id hint _ _ => exact identified_gives id hint s
  case acknowledges => exact (lampAcknowledged_works _ _ _ (linkSucceeded s)).edges.gives
  case takesEntry => exact (takeEntry_edges _ _ _ _ _ (linkSucceeded s)).gives
  case measuresSteady => exact (measureEnds_works _ _ s).edges.gives
  case readsShort => exact (shortReading_works _ s).edges.gives
  case endsCapture => unfold captureEnds; exact (measureEnds_works _ _ s).edges.gives
  case waitsNoLonger => exact (linkWaitOver_works s).edges.gives
  case lapses => exact (enterLapsed_edges s).gives
  case endsTransit =>
    rcases transitOver_cases s with ⟨id, _, e⟩ | ⟨_, e⟩ <;> rw [e]
    · exact .trans (.of_eq (by simp)) (endSession_gives .departureCompleted id.coach (afterTransit s))
    · exact .of_eq (by simp)
  case sags =>
    exact (lampSag_works { s with supply := { s.supply with
      sag := true, detected := true, lowest := some s.supply.level, recovery := none, dip := none } }).edges.gives
  case recovers =>
    exact (lampRecovered_works { s with supply := { s.supply with sag := false, recovery := none } }).edges.gives
  case closesWindow =>
    unfold closeWindow
    exact (applyVerdict_edges _ _ { s with meter := { s.meter with
      count := 0, window := some (s.now + Config.meterWindow) } }).gives
  case finishes f _ => exact absurd rfl (other f)
  case errs f _ => exact (EdgesOnly.trans (returnFrame_edges f s) (.of_eq (by simp))).gives
  all_goals exact .of_eq (by simp)

/-! ### The conditions through a step -/

/-- No condition source waits unless it holds. -/
def Notices.atRest (n : Notices) : Prop := ∀ src : Source, src.isCondition = true → (n.get src).Rests

/-- Through a part of a step: what waits for nothing goes on so, and a condition that begins is pending (R165). -/
def Notices.Begins (a b : Notices) : Prop :=
  (a.atRest → b.atRest) ∧
    ∀ src : Source, src.isCondition = true → (a.get src).holding = false → (b.get src).holding = true → (b.get src).pending = true

theorem Notices.Gives.begins {a b : Notices} (h : a.Gives b) : a.Begins b :=
  ⟨fun rest src cond => (h src cond).rests (rest src cond), fun src cond => (h src cond).pending⟩

/-- Conditions told, or due again, go on holding as they did. -/
structure Notices.HoldsOn (a b : Notices) : Prop where
  holding : ∀ src : Source, src.isCondition = true → (b.get src).holding = (a.get src).holding
  rests : ∀ src : Source, src.isCondition = true → (a.get src).Rests → (b.get src).Rests

theorem Notices.HoldsOn.gives {a b c : Notices} (h : a.HoldsOn b) (k : b.Gives c) : a.Begins c :=
  ⟨fun rest src cond => (k src cond).rests (h.rests src cond (rest src cond)),
    fun src cond off => (k src cond).pending ((h.holding src cond).trans off)⟩

theorem Notices.HoldsOn.begins {a b : Notices} (h : a.HoldsOn b) : a.Begins b := h.gives (.of_eq rfl)

theorem modifySource_holdsOn {s : State} {src : Source} {f : SourceRec → SourceRec}
    (holding : src.isCondition = true → (f (s.notices.get src)).holding = (s.notices.get src).holding)
    (rests : src.isCondition = true → (s.notices.get src).Rests → (f (s.notices.get src)).Rests) :
    s.notices.HoldsOn (modifySource src f s).notices := by
  constructor <;> intro other cond <;> rw [modifySource_get] <;> split
  · next e => subst e; exact holding cond
  · rfl
  · next e => subst e; exact rests cond
  · exact id

/-- A condition told is pending no more, and one that has ended runs no repeat (R165). -/
theorem finishFrame_holdsOn (f : Flight) (s : State) : s.notices.HoldsOn (finishFrame f s).notices := by
  unfold finishFrame frameGone
  split
  · exact ⟨fun _ _ => by simp, fun _ _ k => by simpa using k⟩
  · exact ⟨fun _ _ => rfl, fun _ _ k => k⟩
  · exact ⟨fun _ _ => rfl, fun _ _ k => k⟩
  · split
    · refine modifySource_holdsOn (s := { s with line := _ }) (fun _ => rfl) fun _ rest off => ⟨rfl, ?_⟩
      have still : (s.notices.get _).holding = false := off
      have ended := (rest still).2
      simp only [SourceRec.told]
      rw [if_neg (by rw [still]; exact Bool.false_ne_true)]
      exact ended
    · exact modifySource_holdsOn (s := { s with line := _ }) (fun _ => rfl) fun _ rest => rest
  all_goals
    constructor <;> intro _ _ <;> unfold Notices.reportOutcome <;> dsimp only <;> split
    · rfl
    · rfl
    · exact id
    · exact id

/-- A settled event gives its conditions. -/
theorem Effect.begins {s v : State} (e : Effect s v) : s.notices.Begins (settle v).notices := by
  by_cases other : ∀ f, v ≠ finishFrame f s
  · exact ((e.gives other).trans (settle_gives v)).begins
  · push Not at other
    obtain ⟨f, rfl⟩ := other
    exact (finishFrame_holdsOn f s).gives (settle_gives _)

theorem EdgesOnly.holdsOn {a b : Notices} (h : EdgesOnly a b) : a.HoldsOn b :=
  ⟨fun src cond => by rw [h src cond], fun src cond => by rw [h src cond]; exact id⟩

theorem Quiet.holdsOn {s v : State} (q : Quiet s v) : s.notices.HoldsOn v.notices := by
  have same {a b : Notices} (e : b = a) : a.HoldsOn b := (EdgesOnly.of_eq e).holdsOn
  cases q
  case masks sources value =>
    constructor <;> intro src _ <;> rw [Notices.get_setMasks] <;> unfold SourceRec.maskedBy <;> split
    · rfl
    · rfl
    · exact id
    · exact id
  case masksAll => exact ⟨fun _ _ => rfl, fun _ _ => id⟩
  case transmits => exact (transmitChoice_edges s).holdsOn
  case returnsFrame f _ => exact (returnFrame_edges f s).holdsOn
  case refusesAssign coach => exact (raiseEdge_edges rfl coach s).holdsOn
  case requestsReport k =>
    have sources : (requestReport k s).notices.sources = s.notices.sources := by simp
    exact ⟨fun src _ => by unfold Notices.get; rw [sources], fun src _ => by unfold Notices.get; rw [sources]; exact id⟩
  case repeats src runs =>
    refine modifySource_holdsOn (f := fun r => { r with pending := true, repeatTimer := none }) (fun _ => rfl)
      fun _ rest off => ?_
    have ended := (rest off).2
    rw [ended] at runs
    cases runs
  case beginsMeasure p current _ _ => rw [(beginMeasure_keeps p current s).1]; exact same rfl
  all_goals exact same (by simp)

theorem Notices.Begins.of_atRest {a b : Notices} (rest : b.atRest)
    (off : ∀ src : Source, src.isCondition = true → (b.get src).holding = false) : a.Begins b :=
  ⟨fun _ => rest, fun src cond _ on => by rw [off src cond] at on; cases on⟩

/-- At reset no condition holds, and none waits (R165). -/
theorem atReset_idle (cause : Nat) (src : Source) (cond : src.isCondition = true) : (Notices.atReset cause).get src = SourceRec.atReset := by
  cases src <;> first | rfl | cases cond

theorem claimPeriodEffect_notices (s : State) : (claimPeriodEffect s).notices = s.notices := by simp

theorem Runs.begins {s u : State} (r : Runs s u) : s.notices.Begins u.notices := by
  obtain ⟨b, v, arrives, happens, trails⟩ := r
  have before : b.notices = s.notices := by rw [arrives.eq.1]
  have after : u.notices = v.notices := by rw [trails.eq.1]
  rw [← before, after]
  cases happens with
  | nothing => exact (Notices.Gives.of_eq rfl).begins
  | quietly q => exact q.holdsOn.begins
  | event e => exact e.begins

theorem step_begins {s u : State} (h : step s = .next u) : s.notices.Begins u.notices := by
  rcases step_cases h with rfl | ⟨c, rest, h⟩
  · exact (Notices.Gives.of_eq rfl).begins
  · rcases exec_cases h with ⟨cause, rfl⟩ | ⟨t, d, _, _, _, rfl⟩ | hr
    · refine .of_atRest (fun src cond _ => ?_) fun src cond => ?_
      · rw [show State.notices _ = Notices.atReset cause from rfl, atReset_idle cause src cond]; exact ⟨rfl, rfl⟩
      · rw [show State.notices _ = Notices.atReset cause from rfl, atReset_idle cause src cond]; rfl
    · have given := settle_gives (claimPeriodEffect (State.advance { s with pending := rest } t))
      rw [claimPeriodEffect_notices] at given
      exact given.begins
    · exact hr.begins

/-- Every condition source holds exactly as its owner gives it. -/
def State.conditionsGiven (s : State) : Prop :=
  ∀ src : Source, src.isCondition = true → (s.notices.get src).holding = s.conditionHolds src

theorem Stands.conditionHolds {a b : State} (k : Stands a b) (src : Source) : b.conditionHolds src = a.conditionHolds src := by
  unfold State.conditionHolds
  have identity : b.identity = a.identity := by unfold State.identity; rw [k.session]
  rw [k.occupancy, k.dep, identity, k.faults, k.conflict, k.heat, k.sag, k.detected]

theorem State.conditionsGiven.stand {a b : State} (h : a.conditionsGiven) (k : Stands a b) (on : a.notices.HoldsOn b.notices) :
    b.conditionsGiven := fun src cond => by rw [on.holding src cond, k.conditionHolds]; exact h src cond

theorem kept_conditionsGiven : Kept State.conditionsGiven where
  queue _ _ h := h
  reset s cause _ src cond := by
    rw [show State.notices _ = Notices.atReset cause from rfl, atReset_idle cause src cond]
    cases src <;> rfl
  arrives _ _ h a := h.stand a.stands (by rw [a.eq.1]; exact (EdgesOnly.of_eq rfl).holdsOn)
  quietly _ _ h q := h.stand q.stands q.holdsOn
  event _ v _ _ src cond := settle_conditions v src cond
  round s _ src cond := settle_conditions (claimPeriodEffect s) src cond
  trails _ _ h t := h.stand t.stands (by rw [t.eq.1]; exact (EdgesOnly.of_eq rfl).holdsOn)

/-! ### The conditions as the rules word them -/

theorem Faults.blocks_iff (f : Faults) :
    f.blocks = true ↔ f.blockingLost = true ∨ ∃ r ∈ f.records, r.active = true ∧ r.severity = .blocking := by
  unfold Faults.blocks Faults.activeOf
  rw [Bool.or_eq_true, decide_eq_true_eq, List.length_pos_iff_exists_mem, or_comm]
  simp

theorem State.mismatch_iff (s : State) : s.conditionHolds .identityMismatch = true ↔
    (s.dep.state = .assigned ∨ s.dep.state = .ready) ∧
      (s.identity.any fun id => s.dep.assignment.any fun a => decide (a ≠ 0) && decide (a ≠ id.coach)) = true := by
  unfold State.conditionHolds
  cases s.identity <;> cases s.dep.assignment <;> simp

theorem State.noticesRight_iff (s : State) : s.noticesRight ↔ s.conditionsGiven ∧ s.notices.atRest := by
  have rest : s.notices.atRest ↔
      ∀ src ∈ [Source.linkLost, .identityMismatch, .blockingFault, .addressConflict, .heatStarved, .supplySag],
        (s.notices.get src).Rests := by
    refine forall_congr' fun src => imp_congr ?_ Iff.rfl
    cases src <;> decide
  have given : s.conditionsGiven ↔
      ((s.notices.get .linkLost).holding = true ↔ s.conditionHolds .linkLost = true) ∧
      ((s.notices.get .identityMismatch).holding = true ↔ s.conditionHolds .identityMismatch = true) ∧
      ((s.notices.get .blockingFault).holding = true ↔ s.conditionHolds .blockingFault = true) ∧
      ((s.notices.get .addressConflict).holding = true ↔ s.conditionHolds .addressConflict = true) ∧
      ((s.notices.get .heatStarved).holding = true ↔ s.conditionHolds .heatStarved = true) ∧
      ((s.notices.get .supplySag).holding = true ↔ s.conditionHolds .supplySag = true) := by
    simp only [← Bool.eq_iff_iff]
    constructor
    · exact fun h => ⟨h _ rfl, h _ rfl, h _ rfl, h _ rfl, h _ rfl, h _ rfl⟩
    · rintro ⟨lost, mismatch, blocking, conflict, starved, sag⟩ src cond
      cases src <;> first | assumption | cases cond
  have blocking : s.conditionHolds .blockingFault = true ↔
      (s.faults.blockingLost = true ∨ ∃ r ∈ s.faults.records, r.active = true ∧ r.severity = .blocking) ∧
        s.dep.waiveFault = false := by
    rw [← Faults.blocks_iff]
    simp [State.conditionHolds]
  rw [rest, given, s.mismatch_iff, blocking]
  unfold State.noticesRight SourceRec.Rests
  simp [State.conditionHolds, and_assoc]

/-- Settles O59: the link record is kept through each operation on its slots (`kept_linkKept`), the bay with it by the invariant that ties
occupancy, plug and link (`kept_linkAndBay`), the line record by what makes claims due (`kept_lineRight`), and the condition sources
because every reaction gives them afresh. -/
theorem everyStepKeepsTheLinkRecord : Obligations.EveryStepKeepsTheLinkRecord := by
  intro s u h
  refine ⟨fun link => kept_linkKept.step link h, fun link bay => ?_, fun line => kept_lineRight.step line h, fun right => ?_,
    (step_begins h).2⟩
  · have both : u.linkAndBay := kept_linkAndBay.step ⟨link, s.bayRight_iff.mp bay⟩ h
    exact u.bayRight_iff.mpr both.2
  · obtain ⟨given, rest⟩ := s.noticesRight_iff.mp right
    exact u.noticesRight_iff.mpr ⟨kept_conditionsGiven.step given h, (step_begins h).1 rest⟩

end Sys2Proof.Machine
end

section
/-! SUPPORT. What holds of every command alike: its answer, its moment, what cannot arise, the discarded, and the reset state (log 1, log 2). -/

namespace Sys2Proof.Machine

open Sys2Proof

/-! ### The queue and the clock -/

/-- An event leaves the queue and the clock where they are. -/
def OnTime (a b : State) : Prop := b.pending = a.pending ∧ b.now = a.now

theorem OnTime.trans {a b c : State} (h : OnTime a b) (k : OnTime b c) : OnTime a c := ⟨k.1.trans h.1, k.2.trans h.2⟩

theorem settle_onTime (s : State) : OnTime s (settle s) := ⟨(settle_reacted s).pending, (settle_reacted s).now⟩

theorem OnTime.settle {a b : State} (h : OnTime a b) : OnTime a (settle b) := h.trans (settle_onTime b)

theorem Quiet.onTime {s v : State} (q : Quiet s v) : OnTime s v := by
  cases q
  case beginsMeasure p current _ _ => rw [(beginMeasure_keeps p current s).1]; exact ⟨rfl, rfl⟩
  all_goals exact ⟨by simp, by simp⟩

theorem Effect.onTime {s v : State} (e : Effect s v) : OnTime s v := by
  cases e
  case loop => split <;> exact ⟨by simp, by simp⟩
  case plugsOut => split <;> exact ⟨by simp, by simp⟩
  case reidentifies => split <;> exact ⟨by simp, by simp⟩
  all_goals exact ⟨by simp, by simp⟩

theorem Happens.onTime {s v : State} (h : Happens s v) : OnTime s v := by
  cases h with
  | nothing => exact ⟨rfl, rfl⟩
  | quietly q => exact q.onTime
  | event e => exact e.onTime.settle

theorem OnTime.of_eq {a b : State} (pending : b.pending = a.pending := by simp) (now : b.now = a.now := by simp) : OnTime a b :=
  ⟨pending, now⟩

theorem onDue_onTime {timer : Option Nat} {effect : State → State} {s : State} (h : OnTime s (effect s)) :
    OnTime s (onDue timer effect s) := by
  unfold onDue
  split
  · exact h
  · exact .of_eq

theorem receive_onTime {t : Nat} {effect : State → State} {s : State} (h : OnTime (s.heard t) (effect (s.heard t))) :
    OnTime (s.advance t) (receive effect (s.advance t)) := by
  unfold receive
  split
  · exact h
  · exact .of_eq rfl rfl

/-- What is late is taken at its own moment, and the clock then moves on to the command's (log 3). -/
theorem late_onTime {s v : State} {d t : Nat} (late : d ≤ max s.now t) (h : OnTime (s.advance d) v) :
    OnTime (s.advance t) (v.advance t) := by
  obtain ⟨pending, now⟩ := h
  refine ⟨pending, ?_⟩
  simp only [State.advance_now] at now ⊢
  omega

theorem startIntervalEffect_onTime (s : State) : OnTime s (startIntervalEffect s) := .of_eq

theorem claimPeriodEffect_onTime (s : State) : OnTime s (claimPeriodEffect s) := .of_eq

theorem hearDepart_onTime (n : Nat) (part : DepartPart) (s : State) : OnTime s (hearDepart n part s) := .of_eq

theorem takeReply_onTime {t tag : Nat} {fits : Request → Bool} {onSuccess : Transaction → State → State} {s : State}
    (h : ∀ x a, OnTime a (onSuccess x a)) : OnTime (s.advance t) (takeReply t tag fits onSuccess s) := by
  rcases takeReply_cases t tag fits onSuccess s with ⟨_, e⟩ | ⟨x, _, _, ⟨late, e⟩ | ⟨_, _, e⟩ | ⟨_, _, e⟩⟩ <;> rw [e]
  · exact .of_eq
  · exact late_onTime (Nat.le_of_lt late) (OnTime.settle .of_eq)
  · exact .settle .of_eq
  · exact .settle (.trans (.of_eq (b := linkSucceeded (s.advance t))) (h x _))

theorem bringUp_onTime (img : Image) (passes : Bool) (probe : Int) (s : State) : OnTime s (bringUp img passes probe s) := by
  rw [bringUp_eq]
  exact .settle .of_eq

theorem checkWordComes_onTime (t : Nat) (words : List Word16) (probe : Int) (s : State) :
    OnTime (s.advance t) (checkWordComes t words probe s) := by
  rcases checkWordComes_cases t words probe s with ⟨d, _, late, e⟩ | ⟨_, e⟩ <;> rw [e]
  · exact late_onTime (Nat.le_of_lt late) (bringUp_onTime _ _ _ _)
  · exact bringUp_onTime _ _ _ _

theorem acceptPresence_onTime (level : Bool) (s : State) : OnTime s (acceptPresence level s) := by
  unfold acceptPresence
  dsimp only
  split
  · exact .of_eq
  · split <;> exact .settle .of_eq

theorem acceptPlugIn_onTime (s : State) : OnTime s (acceptPlugIn s) := by
  unfold acceptPlugIn
  dsimp only
  split
  · exact .of_eq
  · exact .settle .of_eq

theorem acceptPlugOut_onTime (s : State) : OnTime s (acceptPlugOut s) := by
  unfold acceptPlugOut
  dsimp only
  split <;> exact .settle .of_eq

theorem acceptLit_onTime (x : Capture) (lit : Bool) (mean : Nat) (s : State) : OnTime s (acceptLit x lit mean s) := by
  unfold acceptLit
  dsimp only
  split
  · exact .of_eq
  · exact .settle .of_eq

/-- A candidate found at its long limit is accepted by the command's moment (R1). -/
theorem takeHeld_onTime {f : Filter} {level : Bool} {long t : Nat} {effect : State → State} {s : State}
    (h : ∀ a, OnTime a (effect a)) :
    OnTime (s.advance t) ((takeHeld (f.heldTo level long (max s.now t)) effect s).advance t) := by
  rcases Filter.heldTo_cases f level long (max s.now t) with ⟨b, _, _, _, late, e⟩ | ⟨_, e⟩ <;> rw [e]
  · exact late_onTime late (h _)
  · exact .of_eq rfl rfl

theorem rawFlash_onTime (t onMean current : Nat) (s : State) : OnTime (s.advance t) (rawFlash t onMean current s) := by
  unfold rawFlash
  split
  · exact takeHeld_onTime (fun a => acceptLit_onTime _ _ _ a)
  · exact .of_eq

/-- Every command but the two resets moves the clock to its moment, and leaves the queue (log 1). -/
theorem exec_onTime (c : Instr) (s : State) (h : ¬ (c = .powerOn ∨ c = .resetLine true ∨ c = .resetLine false)) :
    ∃ u, exec c s = .next u ∧ OnTime (s.advance (Instr.moment c)) u := by
  cases c
  case powerOn => exact absurd (.inl rfl) h
  case resetLine reached => cases reached <;> simp at h
  case configCheckWordReceived t words probe =>
    refine ⟨_, rfl, ?_⟩
    split
    · exact checkWordComes_onTime t words probe s
    · exact .of_eq rfl rfl
  case configReadTimeout => exact ⟨_, rfl, onDue_onTime (bringUp_onTime _ _ _ _)⟩
  case rawInputChange t pin level =>
    refine ⟨_, rfl, ?_⟩
    cases pin with
    | presence => exact takeHeld_onTime (acceptPresence_onTime _)
    | plug =>
      refine takeHeld_onTime (effect := if level != 0 then acceptPlugOut else acceptPlugIn) fun a => ?_
      split
      · exact acceptPlugOut_onTime a
      · exact acceptPlugIn_onTime a
    | key => exact takeHeld_onTime (effect := acceptKey _) fun a => .of_eq
    | flash onMean => exact rawFlash_onTime t onMean level s
  case startIntervalEnd => exact ⟨_, rfl, onDue_onTime (.settle (startIntervalEffect_onTime _))⟩
  case presenceAcceptedOccupied | presenceAcceptedClear =>
    refine ⟨_, rfl, ?_⟩
    split
    · exact acceptPresence_onTime _ _
    · exact .of_eq rfl rfl
  case plugAcceptedIn =>
    refine ⟨_, rfl, ?_⟩
    split
    · exact acceptPlugIn_onTime _
    · exact .of_eq rfl rfl
  case plugAcceptedOut =>
    refine ⟨_, rfl, ?_⟩
    split
    · exact acceptPlugOut_onTime _
    · exact .of_eq rfl rfl
  case keyAccepted =>
    refine ⟨_, rfl, ?_⟩
    split <;> exact .of_eq rfl rfl
  case reidentifyTimerExpiry => exact ⟨_, rfl, onDue_onTime (.settle (by split <;> exact .of_eq))⟩
  case identifyResponse => exact ⟨_, rfl, takeReply_onTime fun _ _ => .of_eq⟩
  case lampSetResponse => exact ⟨_, rfl, takeReply_onTime fun _ _ => .of_eq⟩
  case readTempResponse t tag reading => exact ⟨_, rfl, takeReply_onTime fun _ _ => by cases reading <;> exact .of_eq⟩
  case faultNextEntry => exact ⟨_, rfl, takeReply_onTime fun _ _ => by split <;> exact .of_eq⟩
  case faultNextEndMark => exact ⟨_, rfl, takeReply_onTime fun _ _ => by split <;> exact .of_eq⟩
  case linkResponseMalformed => exact ⟨_, rfl, takeReply_onTime fun _ _ => .of_eq⟩
  case linkResponseOtherTag | frameMalformed | frameSenderRefused => exact ⟨_, rfl, .of_eq rfl rfl⟩
  case linkTimeout =>
    refine ⟨_, rfl, ?_⟩
    split
    · exact onDue_onTime (.settle .of_eq)
    · exact .of_eq rfl rfl
  case warmTimerExpiry =>
    refine ⟨_, rfl, onDue_onTime ?_⟩
    split
    · next p _ => rw [(beginMeasure_keeps p _ _).1]; exact .of_eq rfl rfl
    · exact .of_eq rfl rfl
  case shortWatchBlockEnd =>
    refine ⟨_, rfl, onDue_onTime ?_⟩
    split
    · exact .settle .of_eq
    · exact .of_eq rfl rfl
  case litLevelAccepted =>
    refine ⟨_, rfl, ?_⟩
    split
    · split
      · exact acceptLit_onTime _ _ _ _
      · exact .of_eq rfl rfl
    · exact .of_eq rfl rfl
  case captureWindowExpiry =>
    refine ⟨_, rfl, ?_⟩
    split
    · exact onDue_onTime (.settle .of_eq)
    · exact .of_eq rfl rfl
  case recheckLamps | recheckFaults | waiveLamp | waiveFault | waiveHeat | airTempReceived =>
    refine ⟨_, rfl, receive_onTime ?_⟩
    split
    · exact .settle .of_eq
    · exact .of_eq rfl rfl
  case heatClaimReceived =>
    refine ⟨_, rfl, receive_onTime ?_⟩
    dsimp only
    split <;> exact .of_eq
  case departClaimReceived t sender state countdown =>
    refine ⟨_, rfl, receive_onTime ?_⟩
    dsimp only
    split
    · exact .settle (hearDepart_onTime sender { state := state, countdown := countdown, heard := _ } _)
    · exact .of_eq rfl rfl
  case supplySenseChange =>
    refine ⟨_, rfl, ?_⟩
    split
    · exact .of_eq rfl rfl
    · split <;> exact .of_eq rfl rfl
  case sagDetected =>
    refine ⟨_, rfl, onDue_onTime ?_⟩
    split
    · exact .of_eq rfl rfl
    · exact .settle .of_eq
  case supplyRecovered | settleTimerExpiry | releaseWindowExpiry | transitTimerExpiry =>
    refine ⟨_, rfl, onDue_onTime ?_⟩
    split
    · exact .settle .of_eq
    · exact .of_eq rfl rfl
  case claimPeriodExpiry => exact ⟨_, rfl, onDue_onTime (.settle (claimPeriodEffect_onTime _))⟩
  case meterPulse =>
    refine ⟨_, rfl, ?_⟩
    split <;> exact .of_eq rfl rfl
  case lineIdle t =>
    refine ⟨_, rfl, ?_⟩
    split
    · exact .of_eq (a := s.advance t)
    · exact .of_eq rfl rfl
  case arbitrationLost t =>
    refine ⟨_, rfl, ?_⟩
    split
    · exact .of_eq (a := s.advance t)
    · exact .of_eq rfl rfl
  case frameFinished t | transmitError t =>
    refine ⟨_, rfl, ?_⟩
    split
    · exact .settle (.of_eq (a := s.advance t))
    · exact .of_eq rfl rfl
  case unconfiguredFrameReceived =>
    refine ⟨_, rfl, ?_⟩
    split <;> exact .of_eq rfl rfl
  case assign =>
    refine ⟨_, rfl, receive_onTime ?_⟩
    split
    · split
      case h_1 | h_2 => exact .of_eq
      all_goals exact .settle .of_eq
    · exact .of_eq rfl rfl
  case cancel =>
    refine ⟨_, rfl, receive_onTime ?_⟩
    split
    case h_1 | h_2 | h_3 | h_4 => exact .settle .of_eq
    all_goals exact .of_eq rfl rfl
  case frameNotForBay | maskSetSources | maskClearSources | maskAllOn | maskAllOff =>
    exact ⟨_, rfl, receive_onTime (.of_eq rfl rfl)⟩
  case reportReqFaults | reportReqLamps | reportReqBayStatus => exact ⟨_, rfl, receive_onTime .of_eq⟩
  case ownNumberHeard | holdSet | holdClear => exact ⟨_, rfl, receive_onTime (.settle (.of_eq rfl rfl))⟩
  case peerPartExpiry t _ _ => exact ⟨_, rfl, .settle (.of_eq (a := s.advance t))⟩
  case quietTimerExpiry | noticeRepeatExpiry => exact ⟨_, rfl, onDue_onTime (.of_eq rfl rfl)⟩
  all_goals exact ⟨_, rfl, onDue_onTime (.settle .of_eq)⟩

/-- Settles O1: both are what a step is. -/
theorem stepRunsTheFrontCommand : Obligations.StepRunsTheFrontCommand :=
  ⟨fun _ _ _ => rfl, fun s h => by unfold step; rw [h]⟩

/-- Settles O2, by what each kind of command does to the clock (`exec_onTime`). -/
theorem everyCommandAnswersNext : Obligations.EveryCommandAnswersNext := by
  intro c s
  by_cases h : c = .powerOn ∨ c = .resetLine true ∨ c = .resetLine false
  · rcases h with rfl | rfl | rfl <;> exact ⟨_, rfl, rfl, rfl⟩
  · obtain ⟨u, answer, pending, now⟩ := exec_onTime c s h
    exact ⟨u, answer, pending, by rw [if_neg h]; exact now⟩

/-! ### What cannot arise, and the discarded -/

theorem exec_expiry_notDue {c : Instr} {s : State} {timer : Option Nat} (h : s.timerOf c = some timer)
    (notDue : fallenDue timer (max s.now (Instr.moment c)) = false) : exec c s = .next (s.advance (Instr.moment c)) := by
  have expires {effect : State → State} :
      Host.Outcome.next (onDue timer effect (s.advance (Instr.moment c))) =
        (.next (s.advance (Instr.moment c)) : Answer) := by
    rw [onDue_notDue (s := s.advance (Instr.moment c)) notDue]
  cases c
  case linkTimeout t =>
    cases hb : s.link.busy with
    | none => simp [exec, execLinkTimeout, hb, Instr.moment]
    | some x =>
      obtain rfl : some x.timer = timer := by simpa [State.timerOf, hb] using h
      simpa [exec, execLinkTimeout, hb, Instr.moment] using expires
  case captureWindowExpiry t onMean tailMean =>
    cases hc : s.lamps.capture with
    | none => simp [exec, execCaptureWindowExpiry, hc, Instr.moment]
    | some x =>
      obtain rfl : some x.window = timer := by simpa [State.timerOf, hc] using h
      simpa [exec, execCaptureWindowExpiry, hc, Instr.moment] using expires
  all_goals simp only [State.timerOf, Option.some.injEq, reduceCtorEq] at h
  all_goals
    subst h
    exact expires

/-- Settles O3: an expiry by `exec_expiry_notDue`, an acceptance by its guard. -/
theorem whatIsNotDueMovesOnlyTheClock : Obligations.WhatIsNotDueMovesOnlyTheClock := by
  rintro c s (⟨timer, h, notDue⟩ | ⟨t, rfl, h⟩ | ⟨t, rfl, h⟩ | ⟨t, rfl, h⟩ | ⟨t, rfl, h⟩ | ⟨t, level, rfl, h⟩ |
    ⟨t, lit, mean, rfl, h⟩)
  · exact exec_expiry_notDue h notDue
  case inr.inr.inr.inr.inr.inr =>
    cases hc : s.lamps.capture with
    | none => simp [exec, execLitLevelAccepted, hc, Instr.moment]
    | some x =>
      have no : x.lit.mayAccept lit 20 (max s.now t) = false := by simpa [hc] using h
      simp [exec, execLitLevelAccepted, hc, Instr.moment, Config.litShort, no]
  all_goals exact congrArg Host.Outcome.next (if_neg (by rw [← Bool.not_eq_true] at h; exact h))

/-- Settles O19: a response is judged before anything else (`takeReply_cases`). -/
theorem otherTagsAreDiscarded : Obligations.OtherTagsAreDiscarded := by
  refine ⟨fun _ _ _ => rfl, fun c tag s h other => ?_⟩
  have discarded {t : Nat} {fits : Request → Bool} {onSuccess : Transaction → State → State} :
      takeReply t tag fits onSuccess s = s.advance t := by
    have judged : (s.advance t).judgeReply tag fits = .discarded := judgeReply_discarded other
    unfold takeReply
    dsimp only
    rw [judged]
  cases c <;> simp only [Instr.replyTag, Option.some.injEq, reduceCtorEq] at h
  all_goals
    subst h
    exact congrArg Host.Outcome.next discarded

/-- Settles O42: a frame discarded is marked, and every block's frames are turned away while the part is unconfigured. -/
theorem discardedFramesEarnOnlyTheirReceiptMark : Obligations.DiscardedFramesEarnOnlyTheirReceiptMark := by
  refine ⟨fun _ _ _ => rfl, ?_, ?_⟩
  · rintro t s c (rfl | rfl)
    · rfl
    · refine congrArg Host.Outcome.next ?_
      unfold receive
      split <;> rfl
  · rintro c s h off
    have turned {t : Nat} {effect : State → State} :
        (.next (receive effect (s.advance t)) : Answer) =
          .next { s.advance t with line := { s.line with receiptMark := false } } :=
      congrArg Host.Outcome.next (receive_unconfigured off)
    rcases h with h | ⟨t, rfl⟩
    · cases c <;> first | exact absurd h Bool.false_ne_true | exact turned
    · have off' : (s.advance t).configured = false := off
      refine congrArg Host.Outcome.next ?_
      rw [if_neg (by rw [off']; exact Bool.false_ne_true)]
      rfl

/-! ### The warm time and an edge of a capture -/

/-- A timer due at a command's moment takes its effect. -/
theorem onDue_at {timer : Option Nat} {d t : Nat} {s : State} {effect : State → State} (h : timer = some d) (due : d ≤ max s.now t) :
    onDue timer effect (s.advance t) = effect (s.advance t) := onDue_due (s := s.advance t) h due

/-- A candidate that lasted the short limit at another level may be accepted (R1). -/
theorem Filter.mayAccept_of_ripe {f : Filter} {level : Bool} {short now : Nat} (other : f.level ≠ level) (ripe : f.ripe short now) :
    f.mayAccept level short now = true := by
  obtain ⟨b, since, lasted⟩ := ripe
  unfold Filter.mayAccept
  simp [since, lasted, other]

/-- Settles O24, by the case of the step's kind and that of the edge's level. -/
theorem warmTimeEndsInMeasuring : Obligations.WarmTimeEndsInMeasuring := by
  refine ⟨fun t current d p s timer due work => ?_, fun t mean lit x s open_ other ripe few most y e => ?_⟩
  · have work' : (s.advance t).lamps.current = some p := work
    refine congrArg Host.Outcome.next ((onDue_at timer due).trans ?_)
    simp only [work']
    unfold beginMeasure
    cases hp : p.flashing <;> rfl
  · have may : x.lit.mayAccept lit Config.litShort (s.advance t).now = true := Filter.mayAccept_of_ripe other ripe
    have edge : x.edge lit (max s.now t) = y := by
      subst e
      cases lit <;> simp [Capture.edge, Filter.accept]
    have rising : y.rises.length < Config.captureEdges := by
      have four : Config.captureEdges = 4 := rfl
      subst e
      cases lit
      · simp; omega
      · have := few rfl
        simp; omega
    have open_' : (s.advance t).lamps.capture = some x := open_
    refine congrArg Host.Outcome.next ?_
    dsimp only
    rw [open_']
    dsimp only
    rw [if_pos may]
    unfold acceptLit
    rw [State.advance_now, edge, if_pos rising]
    rfl

/-! ### The reset state -/

/-- Settles O60: block by block the values of reset are concrete, and meet what the invariants say. -/
theorem resetMeetsTheInvariants : Obligations.ResetMeetsTheInvariants := by
  unfold Obligations.ResetMeetsTheInvariants
  exact ⟨by decide, by decide, by decide, rfl, by decide, by decide, by decide, by decide, by decide, by decide, by decide,
    by decide, by decide, by decide, rfl, rfl⟩

theorem exec_reset {c : Instr} {cause : Nat} (s : State)
    (h : (c = .powerOn ∧ cause = 0) ∨ (c = .resetLine true ∧ cause = 1) ∨ (c = .resetLine false ∧ cause = 0)) :
    exec c s = .next (s.afterReset cause) := by
  rcases h with ⟨rfl, rfl⟩ | ⟨rfl, rfl⟩ | ⟨rfl, rfl⟩ <;> rfl

/-- Of the sources only START is pending after a reset (R163). -/
theorem atReset_get_other (cause : Nat) {src : Source} (other : src ≠ .start) :
    (Notices.atReset cause).get src = SourceRec.atReset := by
  cases src <;> first | rfl | exact absurd rfl other

theorem atReset_announcement (level : Nat) : Heat.atReset.announcement level = none := by
  match level with
  | 0 | 1 | 2 | 3 | 4 => rfl
  | _ + 5 => rfl

/-- Settles O4: either reset gives the state of `State.afterReset`, whose blocks stand at the values of their tables. -/
theorem resetTakesTheResetValues : Obligations.ResetTakesTheResetValues := by
  intro c s cause h
  refine ⟨s.afterReset cause, exec_reset s h, rfl, rfl, ?_⟩
  have heat : ∀ level, (s.afterReset cause).heat.announcement level = none := atReset_announcement
  have started : (s.afterReset cause).notices.tells .start cause = true := by
    unfold Notices.tells
    exact Bool.and_eq_true_iff.mpr ⟨rfl, decide_eq_true rfl⟩
  have others : ∀ src, src ≠ .start → ((s.afterReset cause).notices.get src).pending = false ∧
      ((s.afterReset cause).notices.get src).holding = false ∧ ((s.afterReset cause).notices.get src).repeatTimer = none :=
    fun src other => by
      have r : (s.afterReset cause).notices.get src = SourceRec.atReset := atReset_get_other cause other
      rw [r]
      exact ⟨rfl, rfl, rfl⟩
  refine ⟨?bay, ⟨rfl, rfl, rfl⟩, ?link, ?faults, ?lamps, ?line, rfl, ?lead, ?heat, ⟨rfl, rfl, rfl, rfl⟩, ⟨rfl, rfl, rfl⟩, ?dep,
    ⟨rfl, rfl, rfl⟩, rfl, rfl, started, others⟩
  case heat => exact ⟨rfl, rfl, rfl, rfl, rfl, rfl, rfl, rfl, rfl, rfl, heat, rfl, rfl⟩
  all_goals repeat' constructor

end Sys2Proof.Machine
end

section
/-! SUPPORT. What the reactions of an event leave beyond what `Reacted` says: the edges told, the claims due, the requests asked for, and, where
no check and no pass may start, the lamps and the faults. -/

namespace Sys2Proof.Machine

open Sys2Proof

/-! ### Sources and claims -/

/-- The reactions raise no edge but that of a completed sheet and that of a record lost. -/
theorem settle_get {src : Source} (edge : src.isCondition = false) (sheet : src ≠ .lampSheetDone) (lost : src ≠ .blockingLost)
    (s : State) : (settle s).notices.get src = s.notices.get src := by
  have reacted (a : State) : (react a).notices.get src = a.notices.get src := by
    have started := ((startCheck_works (startPass a)).tells src).2 (by simp [sheet, lost])
    rw [react_eq]
    simpa using started
  have given (a : State) (other : Source) (cond : other.isCondition = true) :
      (giveCondition other a).notices.get src = a.notices.get src := by
    have ne : other ≠ src := fun e => by rw [e, edge] at cond; cases cond
    unfold giveCondition
    split
    · rfl
    · split <;> rw [modifySource_get, if_neg ne]
  have all (a : State) : (giveConditions a).notices.get src = a.notices.get src := by
    unfold giveConditions
    rw [given _ _ rfl, given _ _ rfl, given _ _ rfl, given _ _ rfl, given _ _ rfl, given _ _ rfl]
  rw [settle_eq, driveHead_notices, all]
  have first := reacted s
  generalize react s = a at first ⊢
  have second := reacted a
  generalize react a = b at second ⊢
  have last : (arbitrate (startPass b)).notices = b.notices := by simp
  rw [last, second, first]

theorem settle_tells {src : Source} {arg : Nat} (edge : src.isCondition = false) (sheet : src ≠ .lampSheetDone)
    (lost : src ≠ .blockingLost) (s : State) : (settle s).notices.tells src arg = s.notices.tells src arg := by
  unfold Notices.tells
  rw [settle_get edge sheet lost]

/-- A raised edge is told with its argument (R164). -/
theorem raiseEdge_tells (src : Source) (arg : Nat) (s : State) : (raiseEdge src arg s).notices.tells src arg = true := by
  unfold Notices.tells
  rw [raiseEdge_get_self]
  unfold SourceRec.raise
  split <;> simp_all

theorem settle_departSlot {s : State} (due : s.line.departSlot = true) : (settle s).line.departSlot = true :=
  (settle_due s).depart due

/-! ### The last steps of an event -/

theorem settle_link (s : State) : (settle s).link = (arbitrate (startPass (react (react s)))).link := by
  rw [settle_eq, driveHead_link, (giveConditions_keeps _).2.2.1]

theorem settle_lamps (s : State) : (settle s).lamps = (arbitrate (startPass (react (react s)))).lamps := by
  rw [settle_eq, driveHead_lamps, (giveConditions_keeps _).2.2.2.2.1]

theorem settle_faults (s : State) : (settle s).faults = (startPass (react (react s))).faults := by
  rw [settle_eq, driveHead_faults, (giveConditions_keeps _).2.2.2.1, (arbitrate_keeps _).2.2.1]

/-! ### What is asked of the link -/

theorem Link.choice_request {l : Link} {r : Request} {live : Bool} (h : l.choice = some (r, live)) :
    (match r with
      | .identify => l.identifyReq = true
      | .lampSet c on => ∃ q, l.lampReq = some q ∧ q.channel = c ∧ q.on = on ∧ q.live = live
      | .readTemp => l.tempReq = true
      | .faultNext c => l.faultReq = some c) ∧ ((∀ c on, r ≠ .lampSet c on) → live = true) := by
  unfold Link.choice at h
  split at h
  · next id => cases h; exact ⟨id, fun _ => rfl⟩
  · split at h
    · next q hq => cases h; exact ⟨⟨q, hq, rfl, rfl, rfl⟩, fun k => absurd rfl (k _ _)⟩
    · split at h
      · next temp => cases h; exact ⟨temp, fun _ => rfl⟩
      · split at h
        · next c hc => cases h; exact ⟨hc, fun _ => rfl⟩
        · cases h

/-- A request begun goes from its slot to the wires: what is asked for stays asked for, and nothing else is (R23). -/
theorem arbitrate_asks (r : Request) (s : State) : (arbitrate s).link.asks r = s.link.asks r := by
  unfold arbitrate
  split
  · rfl
  · next idle =>
    split
    · rfl
    · next r' live chosen =>
      have asked := (Link.choice_request chosen).1
      cases r' with
      | identify =>
        dsimp only at asked ⊢
        cases r <;> simp [Link.asks, Link.beginTransaction, Link.emptySlot, idle, asked]
      | lampSet c on =>
        obtain ⟨q, slot, rfl, rfl, _⟩ := asked
        have begun : (s.link.beginTransaction (.lampSet q.channel q.on) live s.now).asks r = s.link.asks r := by
          cases r <;> simp [Link.asks, Link.beginTransaction, Link.emptySlot, idle, slot]
        dsimp only
        split <;> exact begun
      | readTemp =>
        dsimp only at asked ⊢
        cases r <;> simp [Link.asks, Link.beginTransaction, Link.emptySlot, idle, asked]
      | faultNext c =>
        dsimp only at asked ⊢
        cases r <;> simp [Link.asks, Link.beginTransaction, Link.emptySlot, idle, asked]

/-- Asks alike but for a pass's next entry and the cabin's temperature, which other reactions move. -/
theorem Link.asks_congr {a b : Link} {r : Request} (busy : b.busy.map (·.request) = a.busy.map (·.request))
    (id : b.identifyReq = a.identifyReq) (lamp : b.lampReq = a.lampReq) (temp : r = .readTemp → b.tempReq = a.tempReq)
    (entry : ∀ c, r = .faultNext c → b.faultReq = a.faultReq) : b.asks r = a.asks r := by
  unfold Link.asks
  rw [busy]
  cases r with
  | identify => rw [id]
  | lampSet c on => rw [lamp]
  | readTemp => rw [temp rfl]
  | faultNext c => rw [entry c rfl]

/-- Reactions leave the request on the wires, though its requester may lose interest, and a waiting IDENTIFY. -/
theorem react_requests (s : State) :
    (react s).link.busy.map (·.request) = s.link.busy.map (·.request) ∧ (react s).link.identifyReq = s.link.identifyReq := by
  have slot := (startCheck_works (startPass s)).slot
  have busy : (startCheck (startPass s)).link.busy.map (·.request) = s.link.busy.map (·.request) := by
    have same : (startPass s).link.busy = s.link.busy := by simp
    rcases slot.busy with e | e <;> rw [e, same]
    cases s.link.busy <;> simp
  rw [react_eq]
  exact ⟨by simpa using busy, by simp⟩

/-- An IDENTIFY asked for is not withdrawn by reactions. -/
theorem settle_asks_identify (s : State) : (settle s).link.asks .identify = s.link.asks .identify := by
  have reacted (a : State) : (react a).link.asks .identify = a.link.asks .identify := by
    simp only [Link.asks, (react_requests a).1, (react_requests a).2]
  rw [settle_link, arbitrate_asks]
  have last (b : State) : (startPass b).link.asks .identify = b.link.asks .identify := by simp [Link.asks]
  rw [last, reacted, reacted]

theorem startPoll_link (s : State) :
    (startPoll s).link =
      { s.link with tempReq := s.link.tempReq || decide (s.link.state = .up), pollTimer := some (s.now + 30000) } := by
  unfold startPoll raiseTemp
  split
  · next up => simp [up, Config.poll]
  · next up => simp [up, Config.poll]

theorem startPoll_link_congr {a b : State} (link : b.link = a.link) (now : b.now = a.now) :
    (startPoll b).link = (startPoll a).link := by
  rw [startPoll_link, startPoll_link, link, now]

/-- A state other than OFF is entered with the poll left, or begun from OFF (R32). -/
theorem enterHeatState_polls {new : HeatState} (on : new ≠ .off) (s : State) :
    (enterHeatState new s).link = s.link ∨ (enterHeatState new s).link = (startPoll s).link := by
  have due (b : State) : (makeHeatDue b).link = b.link := by simp
  unfold enterHeatState
  split
  · exact .inl rfl
  · rw [due]
    split
    · exact .inr (startPoll_link_congr (by cases new <;> simp at on ⊢) (by cases new <;> simp at on ⊢))
    · exact .inl (by cases new <;> simp at on ⊢)

/-- Where no off condition holds the reactions of the heat controller leave the poll or begin it. -/
theorem evalHeat_polls {s : State} (on : s.offCondition = false) :
    (evalHeat s).link = s.link ∨ (evalHeat s).link = (startPoll s).link := by
  have off : (updateCalled s).heatTest ≠ .off := fun e => by
    rw [heatTest_eq_off, updateCalled_offCondition, on] at e
    cases e
  have wanted (a : State) : (updateWanted a).link = a.link := by simp
  unfold evalHeat
  rw [wanted]
  rcases enterHeatState_polls off (updateCalled s) with e | e <;> rw [e]
  · exact .inl (by simp)
  · exact .inr (startPoll_link_congr (by simp) (by simp))

/-- A READ_TEMP is asked for, and the poll runs its 30 s from now (R32). -/
def State.polling (s : State) : Prop := s.link.asks .readTemp = true ∧ s.link.pollTimer = some (s.now + 30000)

theorem State.polling.congr {a b : State} (h : a.polling) (busy : b.link.busy.map (·.request) = a.link.busy.map (·.request))
    (temp : b.link.tempReq = a.link.tempReq) (timer : b.link.pollTimer = a.link.pollTimer) (now : b.now = a.now) : b.polling := by
  simpa only [State.polling, Link.asks, busy, temp, timer, now] using h

theorem State.polling.evalHeat {s : State} (h : s.polling) (on : s.offCondition = false) : (evalHeat s).polling := by
  have now : (Machine.evalHeat s).now = s.now := by simp
  unfold State.polling at *
  rw [now]
  rcases evalHeat_polls on with e | e <;> rw [e]
  · exact h
  · rw [startPoll_link]
    simp only [Link.asks, Bool.or_eq_true, decide_eq_true_eq, and_true] at h ⊢
    exact h.1.imp_right .inl

theorem State.polling.react {s : State} (h : s.polling) (on : s.offCondition = false) : (react s).polling := by
  have slot := (startCheck_works (Machine.startPass s)).slot
  have begun : (startCheck (Machine.startPass s)).polling := by
    refine h.congr ?_ (by simp) (by simp) (by simp)
    have same : (Machine.startPass s).link.busy = s.link.busy := by simp
    rcases slot.busy with k | k <;> rw [k, same]
    cases s.link.busy <;> simp
  have reached : Reacted s (startCheck (Machine.startPass s)) := (Reacted.refl s).startPass.startCheck
  rw [react_eq]
  generalize startCheck (Machine.startPass s) = a at *
  have read : (deriveLatest (readPeers a)).polling := begun.congr (by simp) (by simp) (by simp) (by simp)
  have derived : Reacted s (deriveLatest (readPeers a)) := reached.readPeers.deriveLatest
  generalize deriveLatest (readPeers a) = b at *
  have ended := read.evalHeat (by rw [derived.offCondition, on])
  generalize Machine.evalHeat b = c at *
  exact ended.congr (by simp) (by simp) (by simp) (by simp)

/-- Where no off condition holds, a poll just begun runs on, and a READ_TEMP asked for stays asked for (R32). -/
theorem settle_polls {s : State} (h : s.polling) (on : s.offCondition = false) : (settle s).polling := by
  have h1 : Reacted s (react s) := (Reacted.refl s).react
  have first := h.react on
  have now := (settle_reacted s).now
  unfold State.polling
  rw [settle_link, now, arbitrate_asks]
  generalize react s = a at *
  have second := first.react (by rw [h1.offCondition, on])
  have h2 : Reacted s (react a) := h1.react
  generalize react a = b at *
  obtain ⟨asks, timer⟩ : (startPass b).polling := second.congr (by simp) (by simp) (by simp) (by simp)
  refine ⟨asks, ?_⟩
  have poll (x : State) : (arbitrate x).link.pollTimer = x.link.pollTimer := by simp
  have started : (startPass b).now = b.now := by simp
  rw [poll, timer, started, h2.now]

/-- A heat controller for which an off condition holds is OFF after the reactions, and draws nothing (R123, R126). -/
theorem settle_off {s : State} (off : s.offCondition = true) :
    (settle s).heat.state = .off ∧ (settle s).heat.drawn = 0 := by
  have state : (settle s).heat.state = .off := by
    rw [settle_heat, heatTest_eq_off, (settle_reacted s).offCondition, off]
  refine ⟨state, ?_⟩
  have read := (settle_lastRead s).2.2.1
  obtain ⟨wanted, drawn⟩ := evalHeat_wanted (lastRead s)
  rw [read] at state ⊢
  have none : (evalHeat (lastRead s)).wantedNow = 0 := by
    unfold State.wantedNow
    rw [state]
  omega

theorem startPass_eq_self {s : State} (h : s.link.pass.isSome = true) : startPass s = s := by
  unfold startPass
  rw [if_neg]
  unfold State.passAllowed
  cases hp : s.link.pass <;> simp_all

/-- A pass owed is still owed after the reactions, or has begun with a FAULT_NEXT of cursor 0 (R35). -/
theorem settle_passOwed {s : State} (owed : s.link.passOwed = true) :
    (settle s).link.passOwed = true ∨
      (s.link.pass = none ∧ (settle s).link.pass = some { cursor := 0, count := 0 } ∧
        (settle s).link.asks (.faultNext 0) = true) := by
  let begun (l : Link) : Prop := l.pass = some { cursor := 0, count := 0 } ∧ l.asks (.faultNext 0) = true
  let waits (l : Link) : Prop := (l.passOwed = true ∧ l.pass = s.link.pass) ∨ (s.link.pass = none ∧ begun l)
  have started (a : State) (k : waits a.link) : waits (startPass a).link := by
    rcases k with ⟨k, same⟩ | ⟨fresh, pass, asks⟩
    · unfold startPass
      split
      · next allowed =>
        unfold State.passAllowed at allowed
        simp only [Bool.and_eq_true, Option.isNone_iff_eq_none, decide_eq_true_eq] at allowed
        obtain ⟨⟨⟨⟨⟨_, none⟩, up⟩, _⟩, _⟩, _⟩ := allowed
        refine .inr ⟨same ▸ none, ?_⟩
        simp [begun, raiseFaultNext, up, Link.asks]
      · exact .inl ⟨k, same⟩
    · rw [startPass_eq_self (by rw [pass]; rfl)]
      exact .inr ⟨fresh, pass, asks⟩
  have carried {a b : State} (busy : b.link.busy.map (·.request) = a.link.busy.map (·.request))
      (entry : b.link.faultReq = a.link.faultReq) (pass : b.link.pass = a.link.pass)
      (owes : b.link.passOwed = a.link.passOwed) (k : waits a.link) : waits b.link := by
    simpa only [waits, begun, Link.asks, busy, entry, pass, owes] using k
  have reacted (a : State) (k : waits a.link) : waits (react a).link := by
    refine carried (a := startPass a) ?_ ?_ ?_ ?_ (started a k)
    · rw [(react_requests a).1]; simp
    all_goals rw [react_eq]; simp
  have last := started _ (reacted _ (reacted s (.inl ⟨owed, rfl⟩)))
  rw [settle_link]
  generalize startPass (react (react s)) = c at *
  have passed : (arbitrate c).link.pass = c.link.pass := by simp
  have owes : (arbitrate c).link.passOwed = c.link.passOwed := by simp
  rw [arbitrate_asks, passed, owes]
  rcases last with ⟨k, _⟩ | k
  · exact .inl k
  · exact .inr k

/-! ### Where no check may start, and no pass -/

/-- A departure state in which no check and no pass may start, and which no test moves (R35, R63). -/
def DepState.late (d : DepState) : Bool := !d.early && !d.moves

/-- No check may start, now or after the other reactions of the event (R63). -/
def State.checkBlocked (s : State) : Prop :=
  s.lamps.running = true ∨ s.lamps.sheet.state = .complete ∨ s.bay.occupancy ≠ .connected ∨ s.sessionOpen = false ∨
    s.supply.sag = true ∨ s.dep.state.late = true

/-- No pass may start, now or after the other reactions of the event (R35). -/
def State.passBlocked (s : State) : Prop :=
  s.link.passOwed = false ∨ s.link.pass.isSome = true ∨ s.link.state ≠ .up ∨ s.bay.occupancy ≠ .connected ∨ s.sessionOpen = false ∨
    s.dep.state.late = true

theorem startCheck_blocked {s : State} (h : s.checkBlocked) : startCheck s = s := by
  unfold startCheck
  rw [if_neg]
  unfold State.checkAllowed
  rcases h with h | h | h | h | h | h <;> simp [h]
  unfold DepState.late at h
  simp_all

theorem startPass_blocked {s : State} (h : s.passBlocked) : startPass s = s := by
  unfold startPass
  rw [if_neg]
  unfold State.passAllowed
  rcases h with h | h | h | h | h | h <;> simp [h]
  · cases hp : s.link.pass <;> simp_all
  · unfold DepState.late at h
    simp_all

theorem Reacted.late {a b : State} (h : Reacted a b) (k : a.dep.state.late = true) : b.dep.state.late = true := by
  have rests : a.dep.state.moves = false := by unfold DepState.late at k; simp_all
  rw [h.rests rests]
  exact k

theorem State.checkBlocked.reacted {a b : State} (h : a.checkBlocked) (k : Reacted a b) (lamps : b.lamps.running = a.lamps.running)
    (sheet : b.lamps.sheet = a.lamps.sheet) : b.checkBlocked := by
  unfold State.checkBlocked at *
  rw [lamps, sheet, k.occupancy, k.sessionOpen, k.supply]
  exact h.imp_right <| .imp_right <| .imp_right <| .imp_right <| .imp_right k.late

theorem State.passBlocked.reacted {a b : State} (h : a.passBlocked) (k : Reacted a b) (pass : b.link.pass = a.link.pass)
    (owed : b.link.passOwed = a.link.passOwed) : b.passBlocked := by
  unfold State.passBlocked at *
  rw [pass, owed, k.linkState, k.occupancy, k.sessionOpen]
  exact h.imp_right <| .imp_right <| .imp_right <| .imp_right <| .imp_right k.late

/-- Of a state whose check is blocked reactions move no lamp, and of the faults and the link what a pass moves. -/
theorem react_of_checkBlocked {s : State} (h : s.checkBlocked) :
    (react s).checkBlocked ∧ (react s).lamps = s.lamps ∧ (react s).faults = (startPass s).faults ∧
      (react s).link.busy = s.link.busy ∧ (react s).link.lampReq = s.link.lampReq ∧ (react s).notices = s.notices := by
  have blocked : (startPass s).checkBlocked := h.reacted (Reacted.refl s).startPass (by simp) (by simp)
  have lamps : (react s).lamps = s.lamps := by rw [react_eq, startCheck_blocked blocked]; simp
  refine ⟨h.reacted (Reacted.refl s).react (by rw [lamps]) (by rw [lamps]), lamps, ?_⟩
  rw [react_eq, startCheck_blocked blocked]
  simp

theorem react_of_passBlocked {s : State} (h : s.passBlocked) :
    (react s).passBlocked ∧ (react s).link.faultReq = s.link.faultReq ∧ (react s).link.pass = s.link.pass ∧
      (react s).link.passOwed = s.link.passOwed := by
  have pass : (react s).link.pass = s.link.pass := by rw [react_eq, startPass_blocked h]; simp
  have owed : (react s).link.passOwed = s.link.passOwed := by rw [react_eq, startPass_blocked h]; simp
  refine ⟨h.reacted (Reacted.refl s).react pass owed, ?_, pass, owed⟩
  rw [react_eq, startPass_blocked h]
  simp

/-- The LAMP_SET on that an idle link would begin makes its channel loose (R76). -/
def Link.loosens (l : Link) : Option Nat :=
  match l.busy, l.identifyReq, l.lampReq with
  | none, false, some q => if q.on then some q.channel else none
  | _, _, _ => none

theorem arbitrate_loosens (s : State) :
    (arbitrate s).lamps = { s.lamps with loose := s.link.loosens.or s.lamps.loose } := by
  unfold arbitrate Link.loosens
  cases hb : s.link.busy with
  | some x => rfl
  | none =>
    dsimp only
    unfold Link.choice
    cases hi : s.link.identifyReq with
    | true => rfl
    | false =>
      cases hl : s.link.lampReq with
      | some q => cases hq : q.on <;> simp [hq]
      | none =>
        cases ht : s.link.tempReq with
        | true => rfl
        | false => cases hf : s.link.faultReq <;> rfl

/-- Where no check may start the reactions leave the lamps, but for the channel of a LAMP_SET on that begins. -/
theorem settle_lamps_blocked {s : State} (h : s.checkBlocked) :
    (settle s).lamps = { s.lamps with loose := s.link.loosens.or s.lamps.loose } := by
  obtain ⟨h1, lamps1, _, busy1, slot1, _⟩ := react_of_checkBlocked h
  obtain ⟨_, lamps2, _, busy2, slot2, _⟩ := react_of_checkBlocked h1
  have id1 : (react s).link.identifyReq = s.link.identifyReq := by rw [react_eq]; simp
  have id2 : (react (react s)).link.identifyReq = (react s).link.identifyReq := by rw [react_eq]; simp
  rw [settle_lamps, arbitrate_loosens]
  generalize react (react s) = b at *
  have same : (startPass b).lamps = b.lamps := by simp
  have loosens : (startPass b).link.loosens = s.link.loosens := by
    unfold Link.loosens
    simp [busy1, busy2, slot1, slot2, id1, id2]
  rw [same, loosens, lamps2, lamps1]

/-- Where neither may start the reactions leave the faults. -/
theorem settle_faults_blocked {s : State} (check : s.checkBlocked) (pass : s.passBlocked) : (settle s).faults = s.faults := by
  obtain ⟨h1, _, faults1, _⟩ := react_of_checkBlocked check
  obtain ⟨_, _, faults2, _⟩ := react_of_checkBlocked h1
  obtain ⟨k1, _⟩ := react_of_passBlocked pass
  obtain ⟨k2, _⟩ := react_of_passBlocked k1
  rw [settle_faults]
  rw [startPass_blocked pass] at faults1
  rw [startPass_blocked k1] at faults2
  rw [startPass_blocked k2, faults2, faults1]

/-- Where no check may start the reactions ask for no LAMP_SET, and withdraw none. -/
theorem settle_asks_lamp {s : State} (h : s.checkBlocked) (channel : Nat) (on : Bool) :
    (settle s).link.asks (.lampSet channel on) = s.link.asks (.lampSet channel on) := by
  obtain ⟨h1, _, _, busy1, slot1, _⟩ := react_of_checkBlocked h
  obtain ⟨_, _, _, busy2, slot2, _⟩ := react_of_checkBlocked h1
  rw [settle_link, arbitrate_asks]
  generalize react (react s) = b at *
  simp [Link.asks, busy1, busy2, slot1, slot2]

theorem settle_pass_blocked {s : State} (pass : s.passBlocked) :
    (settle s).link.pass = s.link.pass ∧ (settle s).link.passOwed = s.link.passOwed := by
  obtain ⟨k1, _, pass1, owed1⟩ := react_of_passBlocked pass
  obtain ⟨k2, _, pass2, owed2⟩ := react_of_passBlocked k1
  rw [settle_link]
  generalize react (react s) = b at *
  rw [startPass_blocked k2]
  constructor <;> simp [pass1, pass2, owed1, owed2]

end Sys2Proof.Machine
end

section
/-! SUPPORT. The notices: masks, report requests, repeats (O51) and the order of choice (O52). -/

namespace Sys2Proof.Machine

open Sys2Proof

/-! ### Masks, requests and repeats -/

theorem Notices.setMasks_keeps (sources : Word16) (value : Bool) (n : Notices) : SourcesOnly n (n.setMasks sources value) := by
  unfold Notices.setMasks
  generalize allSources = l
  induction l generalizing n with
  | nil => simp
  | cons src l ih =>
    rw [List.foldl_cons]
    obtain ⟨all, order, stream, next⟩ := ih (if sources.getLsbD src.number.val then n.set src { n.get src with masked := value } else n)
    rw [SourcesOnly, all, order, stream, next]
    split <;> simp

/-- A request replaces the stream, unless a frame of the old one is on the wires (R168). -/
theorem requestReport_eq (k : ReportKind) (s : State) :
    requestReport k s = { s with notices :=
      if s.notices.stream.isSome ∧ s.line.inFlight.any (fun f => f.content.isReport) = true then
        { s.notices with replacement := some k }
      else { s.notices with stream := some { kind := k, next := 1, first := true } } } := by
  unfold requestReport
  cases s.line.inFlight with
  | none => simp
  | some f =>
    cases hr : f.content.isReport <;> cases hs : s.notices.stream.isSome <;> simp [hr]

/-- Settles O51, by what each command does to a source's record. -/
theorem masksRequestsAndRepeats : Obligations.MasksRequestsAndRepeats := by
  refine ⟨fun t sources s on => ⟨fun c value h => ?_, ?_, ?_, fun src => ⟨by simp [Notices.masked], by simp [Notices.masked]; rfl⟩,
    fun c k h => ?_⟩, fun t d src s h due => ?_⟩
  · refine ⟨{ s.heard t with notices := s.notices.setMasks sources value }, ?_, rfl, ?_⟩
    · rcases h with ⟨rfl, rfl⟩ | ⟨rfl, rfl⟩ <;> exact congrArg Host.Outcome.next (receive_configured on)
    · obtain ⟨all, order, stream, next⟩ := Notices.setMasks_keeps sources value s.notices
      exact ⟨all, order, stream, next, fun src => Notices.get_setMasks sources value s.notices src⟩
  · exact congrArg Host.Outcome.next (receive_configured on)
  · exact congrArg Host.Outcome.next (receive_configured on)
  · have asked (k : ReportKind) := (receive_configured (t := t) (effect := requestReport k) on).trans (requestReport_eq k _)
    rcases h with ⟨rfl, rfl⟩ | ⟨rfl, rfl⟩ | ⟨rfl, rfl⟩ <;> exact congrArg Host.Outcome.next (asked _)
  · refine ⟨_, congrArg Host.Outcome.next (onDue_at (s := s) (t := t) h due), rfl, ?_, fun other ne => ?_⟩
    · simp [modifySource_get]
    · simp [modifySource_get, ne.symm]

/-! ### The order of choice -/

/-- The order of choice is by group and number, and every source has its place in it (R167). -/
theorem choiceOrder_pairwise (code : Nat) : (choiceOrder code).Pairwise (Source.before code) := by
  match code with
  | 0 | 1 | 2 | 3 | 4 | 5 | 6 => unfold Source.before; decide
  | _ + 7 =>
    have others : (choiceOrder 0).Pairwise (Source.before 0) := by unfold Source.before; decide
    exact others

theorem mem_choiceOrder (code : Nat) (src : Source) : src ∈ choiceOrder code := by
  unfold choiceOrder
  split <;> cases src <;> decide

/-- Of a sorted list the first that meets a test goes before every other that does. -/
theorem find?_before_of_pairwise {α : Type} {r : α → α → Prop} {p : α → Bool} {l : List α} (h : l.Pairwise r) {a b : α}
    (found : l.find? p = some a) (mem : b ∈ l) (meets : p b = true) (ne : b ≠ a) : r a b := by
  induction h with
  | nil => cases mem
  | @cons x l before _ ih =>
    cases hx : p x with
    | true =>
      rw [List.find?_cons_of_pos hx] at found
      obtain rfl := Option.some.inj found
      exact before b ((List.mem_cons.mp mem).resolve_left ne)
    | false =>
      rw [List.find?_cons_of_neg (by simp [hx])] at found
      refine ih found ((List.mem_cons.mp mem).resolve_left fun e => ?_)
      rw [← e, meets] at hx
      cases hx

/-- Settles O52: the choice is the first of a sorted list that holds every source. -/
theorem bestNoticeIsFirstInTheOrder : Obligations.BestNoticeIsFirstInTheOrder := by
  intro n
  refine ⟨fun src found => ?_, ?_⟩
  · have meets := List.find?_some found
    simp only [Bool.and_eq_true, Bool.not_eq_true'] at meets
    refine ⟨meets.1, meets.2, fun other pending unmasked ne => ?_⟩
    exact find?_before_of_pairwise (choiceOrder_pairwise n.order) found (mem_choiceOrder _ other) (by simp [pending, unmasked]) ne
  · rw [Notices.best, List.find?_eq_none]
    constructor
    · intro h src
      simpa [Bool.and_eq_true, imp_iff_not_or] using h src (mem_choiceOrder _ src)
    · intro h src _
      rcases h src with k | k <;> simp [k]

end Sys2Proof.Machine
end

section
/-! SUPPORT. The bay's inputs: the end of the start interval (O8), raw changes and acceptances (O9, O10), and a plug accepted in (O12). -/

namespace Sys2Proof.Machine

open Sys2Proof

/-! ### IDENTIFY asked for -/

theorem Reacted.raiseIdentify {a s : State} (h : Reacted a s) : Reacted a (Machine.raiseIdentify s) := by
  unfold Machine.raiseIdentify
  split
  · exact h
  · exact h.withLink _

theorem raiseIdentify_of_plugged {s : State} (h : s.link.state ≠ .unplugged) :
    raiseIdentify s = { s with link := { s.link with identifyReq := true } } := if_neg h

theorem raiseIdentify_asks {s : State} (h : s.link.state ≠ .unplugged) : (raiseIdentify s).link.asks .identify = true := by
  rw [raiseIdentify_of_plugged h]
  simp [Link.asks]

/-- An IDENTIFY that waits at an idle link begins at the end of the event, with the present tag (R23, R24). -/
theorem settle_begins_identify {s : State} (idle : s.link.busy = none) (waits : s.link.identifyReq = true) :
    (settle s).link.tag = (s.link.tag + 1) % 16 ∧
      (settle s).link.busy = some { request := .identify, tag := s.link.tag, timer := s.now + 250, live := true } := by
  have reacted (a : State) (i : a.link.busy = none) (w : a.link.identifyReq = true) :
      (react a).link.busy = none ∧ (react a).link.identifyReq = true ∧ (react a).link.tag = a.link.tag ∧ (react a).now = a.now := by
    obtain ⟨busy, id⟩ := react_requests a
    rw [i] at busy
    have reached : Reacted a (react a) := (Reacted.refl a).react
    exact ⟨by simpa using busy, id.trans w, by rw [react_eq]; simp, reached.now⟩
  obtain ⟨i1, w1, t1, n1⟩ := reacted s idle waits
  obtain ⟨i2, w2, t2, n2⟩ := reacted _ i1 w1
  rw [settle_link]
  rw [t1] at t2
  rw [n1] at n2
  generalize react (react s) = b at *
  have started : (startPass b).link.busy = none ∧ (startPass b).link.identifyReq = true ∧ (startPass b).link.tag = s.link.tag ∧
      (startPass b).now = s.now := by simp [i2, w2, t2, n2]
  generalize startPass b = c at *
  obtain ⟨i, w, t, n⟩ := started
  simp [arbitrate, i, Link.choice, w, Link.beginTransaction, Link.emptySlot, t, n, Config.responseWait]

/-! ### The end of the start interval -/

/-- Settles O8: the occupancy by the four combinations of the filtered levels. -/
theorem startIntervalEndSetsOccupancy : Obligations.StartIntervalEndSetsOccupancy := by
  intro t d s h due
  refine ⟨settle (startIntervalEffect (s.advance t)), congrArg Host.Outcome.next (onDue_at (s := s) (t := t) h due), ?_, ?_⟩
  · refine Reacted.settle ?_
    unfold startIntervalEffect
    cases hp : s.bay.presence.level <;> cases hq : s.bay.plug.level
    all_goals simp only [State.advance_bay, hp, hq, setOccupancy, Bool.or_false, Bool.or_true, Bool.and_true, Bool.and_false,
      Bool.not_true, Bool.not_false]
    · exact .refl _
    · exact (Reacted.refl _).raiseIdentify
    · exact .refl _
    · exact (Reacted.refl _).raiseIdentify
  · intro plug plugged
    rw [settle_asks_identify]
    unfold startIntervalEffect
    cases hp : s.bay.presence.level
    all_goals
      simp only [State.advance_bay, hp, plug]
      exact raiseIdentify_asks plugged

/-! ### Acceptances of the loop -/

/-- Settles O10, by the occupancy at the acceptance. -/
theorem loopAcceptancesFollowTheOccupancyTable : Obligations.LoopAcceptancesFollowTheOccupancyTable := by
  intro t s ripe
  have accepts (level : Bool) (other : s.bay.presence.level ≠ level) :
      exec (if level then .presenceAcceptedOccupied t else .presenceAcceptedClear t) s =
        .next (acceptPresence level (s.advance t)) := by
    have may := Filter.mayAccept_of_ripe other ripe
    cases level
    · exact congrArg Host.Outcome.next (if_pos may)
    · exact congrArg Host.Outcome.next (if_pos may)
  refine ⟨fun clear started => ?_, fun occupied started absent => ?_, fun starting => ⟨fun clear => ?_, fun occupied => ?_⟩⟩
  · refine ⟨_, accepts true (by simp [clear]), ?_⟩
    simp only [acceptPresence, State.advance_bay, started, Option.isSome_none, Bool.false_eq_true, if_false, if_true]
    refine Reacted.settle ?_
    cases ho : s.bay.occupancy
    all_goals
      simp [loopOccupied, setOccupancy, Filter.accept]
      exact .refl _
  · refine ⟨_, accepts false (by simp [occupied]), ?_⟩
    simp only [acceptPresence, State.advance_bay, started, Option.isSome_none, Bool.false_eq_true, if_false]
    refine Reacted.settle ?_
    cases ho : s.bay.occupancy
    case present => exact absurd ho absent
    all_goals
      simp [loopClear, Filter.accept]
      exact .refl _
  · exact (accepts true (by simp [clear])).trans (congrArg Host.Outcome.next (if_pos starting))
  · exact (accepts false (by simp [occupied])).trans (congrArg Host.Outcome.next (if_pos starting))

/-! ### Raw changes -/

theorem Filter.reads_eq (f : Filter) (level : Bool) (now : Nat) : f.rawChange level now = f.reads level now :=
  f.rawChange_eq level now

/-- No acceptance is overdue of a candidate that has not lasted the long limit (R1). -/
theorem Filter.heldTo_eq_none {f : Filter} {level : Bool} {long now : Nat}
    (h : ∀ b, f.since = some b → f.raw ≠ level → f.raw ≠ f.level → now < b + long) : f.heldTo level long now = none := by
  rcases f.heldTo_cases level long now with ⟨b, since, raw, other, late, _⟩ | ⟨_, e⟩
  · have := h b since raw other
    omega
  · exact e

/-- A candidate that has lasted it was accepted at the moment it did. -/
theorem Filter.heldTo_eq_some {f : Filter} {level : Bool} {long now b : Nat} (since : f.since = some b) (raw : f.raw ≠ level)
    (other : f.raw ≠ f.level) (late : b + long ≤ now) : f.heldTo level long now = some (b + long) := by
  simp [Filter.heldTo, since, raw, other, late]

/-- Such a candidate is of the level not accepted. -/
theorem Filter.level_of_candidate {f : Filter} {level : Bool} (raw : f.raw ≠ level) (other : f.raw ≠ f.level) :
    f.level = level ∧ f.raw = !level := by
  revert raw other
  cases f.raw <;> cases f.level <;> cases level <;> simp

theorem acceptPresence_presence (level : Bool) (s : State) :
    (acceptPresence level s).bay.presence = s.bay.presence.accept level := by
  unfold acceptPresence
  dsimp only
  split
  · rfl
  · rw [(settle_reacted _).bay]
    cases level <;> simp

theorem acceptPlugIn_plug (s : State) : (acceptPlugIn s).bay.plug = s.bay.plug.accept true := by
  unfold acceptPlugIn
  dsimp only
  split
  · simp
  · rw [(settle_reacted _).bay]
    simp

theorem acceptPlugOut_plug (s : State) : (acceptPlugOut s).bay.plug = s.bay.plug.accept false := by
  unfold acceptPlugOut
  rw [(settle_reacted _).bay]
  dsimp only
  split <;> simp

/-- What an overdue acceptance leaves stands at the moment it was taken, before the raw change. -/
theorem advance_of_onTime {s u : State} {d t : Nat} (late : d ≤ max s.now t) (h : OnTime (s.advance d) u) :
    (u.advance t).now = max s.now t := (late_onTime late h).2

theorem rawPresence_held {s : State} {t b : Nat} {on : Bool} (since : s.bay.presence.since = some b)
    (raw : s.bay.presence.raw ≠ on) (other : s.bay.presence.raw ≠ s.bay.presence.level) (late : b + 400 ≤ max s.now t) :
    ∃ u : State, exec (if on then .presenceAcceptedClear (b + 400) else .presenceAcceptedOccupied (b + 400)) s = .next u ∧
      u.bay.presence.level = !on ∧
      rawPresence t on s = { u.advance t with bay := { u.bay with presence := u.bay.presence.reads on (max s.now t) } } := by
  obtain ⟨level, _⟩ := Filter.level_of_candidate raw other
  have ripe : s.bay.presence.ripe 200 (max s.now (b + 400)) := ⟨b, since, by omega⟩
  have may := Filter.mayAccept_of_ripe (level := !on) (by simp [level]) ripe
  refine ⟨acceptPresence (!on) (s.advance (b + 400)), ?_, by rw [acceptPresence_presence]; rfl, ?_⟩
  · cases on <;> exact congrArg Host.Outcome.next (if_pos may)
  · have now := advance_of_onTime late (acceptPresence_onTime (!on) (s.advance (b + 400)))
    have held := Filter.heldTo_eq_some since raw other late
    simp only [rawPresence, Config.presenceLong, held, takeHeld, now, Filter.reads_eq]
    rfl

theorem rawPlug_held {s : State} {t b : Nat} {on : Bool} (since : s.bay.plug.since = some b)
    (raw : s.bay.plug.raw ≠ on) (other : s.bay.plug.raw ≠ s.bay.plug.level) (late : b + 40 ≤ max s.now t) :
    ∃ u : State, exec (if on then .plugAcceptedOut (b + 40) else .plugAcceptedIn (b + 40)) s = .next u ∧
      u.bay.plug.level = !on ∧
      rawPlug t on s = { u.advance t with bay := { u.bay with plug := u.bay.plug.reads on (max s.now t) } } := by
  obtain ⟨level, _⟩ := Filter.level_of_candidate raw other
  have ripe : s.bay.plug.ripe 20 (max s.now (b + 40)) := ⟨b, since, by omega⟩
  have may := Filter.mayAccept_of_ripe (level := !on) (by simp [level]) ripe
  have held := Filter.heldTo_eq_some since raw other late
  cases on
  · refine ⟨acceptPlugIn (s.advance (b + 40)), congrArg Host.Outcome.next (if_pos may), by rw [acceptPlugIn_plug]; rfl, ?_⟩
    have now := advance_of_onTime late (acceptPlugIn_onTime (s.advance (b + 40)))
    simp only [rawPlug, Config.plugLong, held, takeHeld, Bool.false_eq_true, if_false, now, Filter.reads_eq]
    rfl
  · refine ⟨acceptPlugOut (s.advance (b + 40)), congrArg Host.Outcome.next (if_pos may), by rw [acceptPlugOut_plug]; rfl, ?_⟩
    have now := advance_of_onTime late (acceptPlugOut_onTime (s.advance (b + 40)))
    simp only [rawPlug, Config.plugLong, held, takeHeld, if_true, now, Filter.reads_eq]
    rfl

theorem rawFlash_held {s : State} {t onMean current b : Nat} {x : Capture} {p : LampStep} (capture : s.lamps.capture = some x)
    (step : s.lamps.current = some p) {lit : Bool} (shows : lit = decide (p.onThreshold ≤ min current 2000))
    (since : x.lit.since = some b) (raw : x.lit.raw ≠ lit) (other : x.lit.raw ≠ x.lit.level) (late : b + 40 ≤ max s.now t) :
    ∃ u : State, exec (.litLevelAccepted (b + 40) (!lit) onMean) s = .next u ∧
      rawFlash t onMean current s = { u.advance t with
        lamps := { u.lamps with capture := u.lamps.capture.map fun y => { y with lit := y.lit.reads lit (max s.now t) } } } := by
  obtain ⟨level, _⟩ := Filter.level_of_candidate raw other
  have ripe : x.lit.ripe 20 (max s.now (b + 40)) := ⟨b, since, by omega⟩
  have may := Filter.mayAccept_of_ripe (level := !lit) (by simp [level]) ripe
  have held := Filter.heldTo_eq_some since raw other late
  refine ⟨acceptLit x (!lit) onMean (s.advance (b + 40)), ?_, ?_⟩
  · simp only [exec, execLitLevelAccepted, State.advance_lamps, State.advance_now, capture, Config.litShort, may, if_true]
  · have now := advance_of_onTime late (acceptLit_onTime x (!lit) onMean (s.advance (b + 40)))
    have senses : decide (p.onThreshold ≤ sensed current) = lit := shows.symm
    simp only [rawFlash, capture, step, senses, Config.litLong, held, takeHeld, now, Filter.reads_eq]
    rfl

/-- Settles O9: a raw change is read after the acceptance that its candidate may have brought about. -/
theorem rawChangesMoveTheirFilter : Obligations.RawChangesMoveTheirFilter := by
  refine ⟨fun t level on s shows => ?_, fun t onMean current s => ⟨?_, fun x p lit capture step shows => ⟨fun fresh => ?_, ?_⟩⟩,
    fun t level s other ripe => congrArg Host.Outcome.next (if_pos (Filter.mayAccept_of_ripe other ripe))⟩
  · have reads : (level != 0) = on := by rw [shows]; by_cases h : level = 0 <;> simp [h]
    simp only [exec, execRawInputChange, reads, Host.Outcome.next.injEq]
    refine ⟨fun fresh => ?_, fun b since raw lvl late => rawPresence_held since raw lvl late, fun fresh => ?_,
      fun b since raw lvl late => rawPlug_held since raw lvl late, fun fresh => ?_, fun b since raw lvl late => ?_⟩
    · simp only [rawPresence, Config.presenceLong, Filter.heldTo_eq_none fresh, takeHeld, Filter.reads_eq]
      rfl
    · simp only [rawPlug, Config.plugLong, Filter.heldTo_eq_none fresh, takeHeld, Filter.reads_eq]
      rfl
    · simp only [rawKey, Config.keyLong, Filter.heldTo_eq_none fresh, takeHeld, Filter.reads_eq]
      rfl
    · have held := Filter.heldTo_eq_some since raw lvl late
      have now := advance_of_onTime late (.of_eq (a := s.advance (b + 100)) (b := acceptKey (!on) (s.advance (b + 100))))
      have key : (acceptKey (!on) (s.advance (b + 100))).bay.key.rawChange on (max s.now t) =
          { raw := on, level := !on, since := some (max s.now t) } := by
        simp [acceptKey, Filter.rawChange, Filter.accept, raw]
      simp only [rawKey, Config.keyLong, held, takeHeld, now, State.advance_bay, key]
      simp only [State.advance, acceptKey]
  · rintro (none | none)
    · simp [exec, execRawInputChange, rawFlash, none]
    · cases hc : s.lamps.capture <;> simp [exec, execRawInputChange, rawFlash, none, hc]
  · have senses : decide (p.onThreshold ≤ sensed current) = lit := shows.symm
    simp only [exec, execRawInputChange, rawFlash, capture, step, senses, Config.litLong, Filter.heldTo_eq_none fresh, takeHeld,
      Filter.reads_eq]
    simp [capture]
  · intro b since raw lvl late
    obtain ⟨u, accepted, changed⟩ := rawFlash_held (onMean := onMean) capture step shows since raw lvl late
    exact ⟨u, accepted, congrArg Host.Outcome.next changed⟩

/-! ### A plug accepted in -/

/-- Settles O12: the link leaves UNPLUGGED first, so that the IDENTIFY finds it OPENING. -/
theorem plugInOpensTheLinkAndAsksIdentify : Obligations.PlugInOpensTheLinkAndAsksIdentify := by
  intro t s out ripe unplugged
  have accepts : exec (.plugAcceptedIn t) s = .next (acceptPlugIn (s.advance t)) :=
    congrArg Host.Outcome.next (if_pos (Filter.mayAccept_of_ripe (by simp [out]) ripe))
  refine ⟨fun started arriving => ?_, fun starting => ?_⟩
  · let base : State :=
      { s.advance t with
        bay := { s.bay with plug := { s.bay.plug with level := true, since := none }, occupancy := .linking,
                            implied := s.bay.implied || decide (s.bay.occupancy = .empty) },
        link := { s.link with state := .opening, failureRun := 0 } }
    have taken : acceptPlugIn (s.advance t) = settle (raiseIdentify base) := by
      simp only [acceptPlugIn, linkPlugIn, State.advance_link, State.advance_bay, unplugged, if_true, started, Option.isSome_none,
        Bool.false_eq_true, if_false, base]
      rcases arriving with e | e <;> simp [bayPlugIn, e, Filter.accept]
    have plugged : base.link.state ≠ .unplugged := by simp [base]
    refine ⟨_, accepts.trans (congrArg Host.Outcome.next taken), (Reacted.refl base).raiseIdentify.settle, ?_, fun idle => ?_⟩
    · rw [settle_asks_identify]
      exact raiseIdentify_asks plugged
    · rw [raiseIdentify_of_plugged plugged]
      exact settle_begins_identify idle rfl
  · rw [accepts]
    simp [acceptPlugIn, linkPlugIn, unplugged, starting, Filter.accept]

end Sys2Proof.Machine
end

section
/-! SUPPORT. The two rounds of reactions at the end of an event agree (log 6): the second reads the same table, lead and heat state, so that it
only starts what it may and takes clearance's tests. -/

namespace Sys2Proof.Machine

open Sys2Proof

/-! ### Clearance's tests -/

/-- A test moves the departure as R150, R151 and R153 say, and does nothing else. -/
theorem clearanceMove_eq (s : State) : clearanceMove s = changeDep (s.laneMove s.dep.state) s := by
  have state := clearanceMove_state s
  have moves : clearanceMove s = s ∨ ∃ d, clearanceMove s = changeDep d s := by
    unfold clearanceMove
    split
    · split
      · exact .inr ⟨_, rfl⟩
      · exact .inl rfl
    · split
      · exact .inr ⟨_, rfl⟩
      · split
        · split
          · exact .inr ⟨_, rfl⟩
          · exact .inl rfl
        · exact .inl rfl
    · split
      · exact .inr ⟨_, rfl⟩
      · split
        · exact .inr ⟨_, rfl⟩
        · exact .inl rfl
    · exact .inl rfl
  rcases moves with e | ⟨d, e⟩
  · rw [e] at state ⊢
    exact (if_pos state.symm).symm
  · rw [e] at state ⊢
    rw [changeDep_state] at state
    rw [state]

theorem clearanceMove_of_rests {s : State} (h : s.laneMove s.dep.state = s.dep.state) : clearanceMove s = s := by
  rw [clearanceMove_eq, h]
  exact if_pos rfl

theorem clearanceTests_of_rests {s : State} (h : s.laneMove s.dep.state = s.dep.state) : clearanceTests s = s := by
  simp only [clearanceTests, clearanceMove_of_rests h]

theorem clearanceTests_state (s : State) : (clearanceTests s).dep.state = s.laneMove (s.laneMove (s.laneMove s.dep.state)) := by
  unfold clearanceTests
  rw [clearanceMove_state, clearanceMove_state, clearanceMove_state, clearanceMove_laneMove, clearanceMove_laneMove]

/-- No walk of the tests comes back to where it left. -/
theorem laneStep_returns (coach near free enter : Bool) (h : enter = true → free = true) (d : DepState) :
    let move := laneStep coach near free enter
    move (move (move d)) = d → move d = d := by
  revert h
  revert coach near free enter
  cases d <;> decide

theorem State.laneMove_returns {s : State} {d : DepState} (h : s.laneMove (s.laneMove (s.laneMove d)) = d) : s.laneMove d = d :=
  laneStep_returns _ _ _ _ State.laneFree_of_mayEnter d h

/-- Tests that end where they began moved nothing. -/
theorem clearanceTests_of_ends {s : State} (h : (clearanceTests s).dep.state = s.dep.state) : clearanceTests s = s := by
  rw [clearanceTests_state] at h
  exact clearanceTests_of_rests (State.laneMove_returns h)

/-- SETTLING, once entered by the tests, is not left by them. -/
theorem State.laneMove_settling {s : State} {d : DepState} (ne : d ≠ .settling) (h : s.laneMove d = .settling) :
    s.laneMove .settling = .settling := by
  unfold State.laneMove laneStep at h ⊢
  cases d <;> simp only [reduceCtorEq] at h ne ⊢
  case assigned => split at h <;> cases h
  case ready =>
    split at h
    · cases h
    · next coach =>
      split at h
      · next enter =>
        have free := State.laneFree_of_mayEnter enter
        simp only [Bool.not_eq_true, Bool.not_eq_false'] at coach
        simp [coach, free]
      · cases h
  case settling => exact absurd rfl ne

theorem Departure.move_timers {x : Departure} (h : x.state ≠ .settling) (d : DepState) :
    (x.move d).settleTimer = x.settleTimer ∧ (x.move d).key = x.key := by
  unfold Departure.move
  split
  · exact ⟨rfl, rfl⟩
  · simp

/-- The tests stop a settle and drop its key only by leaving SETTLING for good. -/
theorem clearanceTests_timers {s : State} (h : s.dep.state ≠ .settling ∨ (clearanceTests s).dep.state = .settling) :
    (clearanceTests s).dep.settleTimer = s.dep.settleTimer ∧ (clearanceTests s).dep.key = s.dep.key := by
  by_cases settling : s.dep.state = .settling
  · rw [clearanceTests_of_ends ((h.resolve_left (not_not_intro settling)).trans settling.symm)]
    exact ⟨rfl, rfl⟩
  · have move (a : State) (e : a.laneMove = s.laneMove) (k : a.dep.settleTimer = s.dep.settleTimer ∧ a.dep.key = s.dep.key)
        (off : a.dep.state ≠ .settling ∨ s.laneMove .settling = .settling) :
        ((clearanceMove a).dep.settleTimer = s.dep.settleTimer ∧ (clearanceMove a).dep.key = s.dep.key) ∧
          ((clearanceMove a).dep.state ≠ .settling ∨ s.laneMove .settling = .settling) := by
      rw [clearanceMove_eq, changeDep_dep, Departure.move_state, e]
      by_cases at_ : a.dep.state = .settling
      · have stays := off.resolve_left (not_not_intro at_)
        rw [at_, stays, Departure.move_self at_]
        exact ⟨k, .inr rfl⟩
      · obtain ⟨timer, key⟩ := Departure.move_timers at_ (s.laneMove a.dep.state)
        refine ⟨⟨timer.trans k.1, key.trans k.2⟩, ?_⟩
        by_cases enters : s.laneMove a.dep.state = .settling
        · exact .inr (State.laneMove_settling at_ enters)
        · exact .inl enters
    obtain ⟨k1, off1⟩ := move s rfl ⟨rfl, rfl⟩ (.inl settling)
    obtain ⟨k2, off2⟩ := move _ (clearanceMove_laneMove s) k1 off1
    have e : (clearanceMove (clearanceMove s)).laneMove = s.laneMove := by rw [clearanceMove_laneMove, clearanceMove_laneMove]
    exact (move _ e k2 off2).1

/-! ### The second round -/

/-- What a round reads before the heat state: the passes and checks started, the table, the lead and the latest start. -/
def firstRead (s : State) : State := deriveLatest (readPeers (startCheck (startPass s)))

theorem react_firstRead (s : State) : react s = clearanceTests (evalHeat (firstRead s)) := rfl

theorem firstRead_reacted (s : State) : Reacted s (firstRead s) := (Reacted.refl s).startPass.startCheck.readPeers.deriveLatest

/-- A table just read is read again without effect (R104, R107). -/
theorem readPeers_again {s : State} (purged : (s.peers.purge s.now).entries = s.peers.entries)
    (given : s.peers.lowestGiven = lowestAir s.peers.entries) : readPeers s = s := by
  have same : s.peers.purge s.now = s.peers := by
    unfold Peers.purge at purged ⊢
    dsimp only at purged
    rw [purged]
  unfold readPeers
  rw [same]
  exact if_pos given.symm

theorem deriveLatest_again {s : State}
    (h : s.lead.latest = s.dep.assignment.bind fun _ => s.dep.countdown.map fun c => c - 60 * (s.lead.lead : Int)) :
    deriveLatest s = s := by
  have latest : (deriveLatest s).lead.latest = s.lead.latest := (deriveLatest_latest s).trans h.symm
  have e : deriveLatest s = { s with lead := { s.lead with latest := (deriveLatest s).lead.latest } } := rfl
  rw [e, latest]

/-- A heat state just given, with its inputs as they were, is given again without effect. -/
theorem evalHeat_again {a b : State} (heat : b.heat = (evalHeat a).heat) (start : b.start = a.start)
    (off : b.offCondition = a.offCondition) (reached : b.startReached = a.startReached) (supply : b.supply = a.supply) :
    evalHeat b = b := by
  have r : Reacted a (evalHeat a) := (Reacted.refl a).evalHeat
  have test : b.heatTest = b.heat.state := by
    have e : b.heatTest = (evalHeat a).heatTest := by
      unfold State.heatTest
      rw [heat, off, r.offCondition, supply, r.supply]
    rw [e, heat]
    exact (evalHeat_state a).symm
  have called : updateCalled b = b := by
    rcases updateCalled_cases b with ⟨e, _⟩ | ⟨on, reaches, _⟩
    · exact e
    · refine updateCalled_of_called ?_
      rw [heat]
      have marked : (updateCalled a).heat.called = true := by
        rcases updateCalled_cases a with ⟨e, k⟩ | ⟨_, _, k, _⟩
        · rw [e]
          rw [off] at on
          rw [reached] at reaches
          rcases k with k | k | k
          · rw [k] at on; cases on
          · rw [k] at reaches; cases reaches
          · exact k
        · exact k
      have keeps := (enterHeatState_heat (updateCalled a).heatTest (updateCalled a)).2.2.1 fun e => by
        rw [heatTest_eq_off, updateCalled_offCondition, ← off, on] at e
        cases e
      have w : (evalHeat a).heat = _ := updateWanted_heat (enterHeatState (updateCalled a).heatTest (updateCalled a))
      rw [w]
      exact keeps.1.trans marked
  have entered : enterHeatState b.heatTest b = b := if_pos test
  obtain ⟨wanted, drawn⟩ := evalHeat_wanted a
  have wants : b.wantedNow = b.heat.wanted := by
    rw [heat, wanted]
    unfold State.wantedNow
    rw [heat, start, r.start]
  rw [← heat] at drawn
  unfold evalHeat
  dsimp only
  rw [called, entered]
  unfold updateWanted
  rw [wants]
  exact if_neg (Nat.not_lt.mpr drawn)

/-- The second round starts what it may and takes the tests again: the table, the lead and the heat state stand. -/
theorem react_again (s : State) : react (react s) = clearanceTests (startCheck (startPass (react s))) := by
  have first : Reacted (firstRead s) (startCheck (startPass (react s))) := by
    rw [react_firstRead]
    exact (Reacted.refl _).evalHeat.clearanceTests.startPass.startCheck
  have peers : (startCheck (startPass (react s))).peers = (react s).peers := by simp
  have lead : (startCheck (startPass (react s))).lead = (firstRead s).lead := by
    have e : (react s).lead = (firstRead s).lead := by simp [react_firstRead]
    simpa using e
  have heat : (startCheck (startPass (react s))).heat = (evalHeat (firstRead s)).heat := by
    have e : (react s).heat = (evalHeat (firstRead s)).heat := by rw [react_firstRead, clearanceTests_heat]
    simpa using e
  have latest : (firstRead s).lead.latest = _ := deriveLatest_latest (readPeers (startCheck (startPass s)))
  have now : (startCheck (startPass (react s))).now = s.now := by
    have e := (Reacted.refl s).react.now
    simpa using e
  have reacted := react_peers s
  rw [react_firstRead (react s), firstRead]
  generalize startCheck (startPass (react s)) = x at *
  have read : readPeers x = x := by
    refine readPeers_again ?_ ?_ <;> rw [peers, reacted]
    rw [now]
    exact Peers.purge_purge s.now s.peers
  have derived : deriveLatest x = x := by
    refine deriveLatest_again ?_
    rw [lead, first.assignment, first.countdown]
    exact latest
  have reached : x.startReached = (firstRead s).startReached := by unfold State.startReached; rw [lead]
  rw [read, derived, evalHeat_again heat first.start first.offCondition reached first.supply]

/-- The end of every event, over one full round. -/
theorem settle_again (s : State) :
    settle s = driveHead (giveConditions (arbitrate (startPass (clearanceTests (startCheck (startPass (react s))))))) := by
  rw [settle_eq, react_again]

theorem settle_heat_react (s : State) : (settle s).heat = (react s).heat := by
  rw [settle_again]
  simp

theorem settle_lead_react (s : State) : (settle s).lead = (react s).lead := by
  rw [settle_again]
  simp

/-- Where no check may start, the second round moves no departure state (R150, R151, R153). -/
theorem react_twice_of_checkBlocked {s : State} (h : s.checkBlocked) : react (react s) = startPass (react s) := by
  obtain ⟨blocked, _⟩ := react_of_checkBlocked h
  have passed : (startPass (react s)).checkBlocked := blocked.reacted (Reacted.refl _).startPass (by simp) (by simp)
  rw [react_again, startCheck_blocked passed]
  refine clearanceTests_of_rests ?_
  have same : (startPass (react s)).laneMove = (react s).laneMove :=
    (Reacted.refl _).startPass.laneMove (startPass_coachConditions _) (by simp)
  have dep : (startPass (react s)).dep = (react s).dep := startPass_dep _
  rw [same, dep, react_firstRead]
  exact clearanceTests_rests _

/-! ### A bay that settles on -/

/-- A bay in SETTLING with its coach conditions holding, found in SETTLING at the end of the event, was not moved in between. -/
theorem settle_stays {s : State} (settling : s.dep.state = .settling) (coach : s.coachConditions = true)
    (ends : (settle s).dep.state = .settling) : (settle s).dep = s.dep := by
  have reached : Reacted s (evalHeat (firstRead s)) := (firstRead_reacted s).evalHeat
  have dep : (evalHeat (firstRead s)).dep = s.dep := by simp [firstRead]
  have first : (evalHeat (firstRead s)).laneMove .settling = .settling := by
    obtain ⟨holds, line, hold, fresh⟩ := settle_laneSafe s ends
    have u : Reacted s (settle s) := settle_reacted s
    have still : startCheck (startPass s) = s := by
      have pass : startPass s = s := by
        unfold startPass State.passAllowed
        rw [settling]
        simp [DepState.early]
      rw [pass]
      unfold startCheck State.checkAllowed
      rw [settling]
      simp [DepState.early]
    have lead : (evalHeat (firstRead s)).lead = (settle s).lead := by
      rw [settle_lead_react, react_firstRead]
      simp
    have heat : (evalHeat (firstRead s)).heat = (settle s).heat := by
      rw [settle_heat_react, react_firstRead, clearanceTests_heat]
    have peers : (evalHeat (firstRead s)).peers = (settle s).peers := by
      rw [settle_peers, ← react_peers, react_firstRead]
      simp
    have free : (evalHeat (firstRead s)).laneFree = true := by
      unfold State.laneFree
      rw [reached.lineConditions, reached.hold, peers, ← u.lineConditions, ← u.hold, line, hold, fresh]
      rfl
    have sheet : (evalHeat (firstRead s)).lamps.sheet = s.lamps.sheet := by
      rw [firstRead, still]
      simp
    have faults : (evalHeat (firstRead s)).faults = s.faults := by
      rw [firstRead, still]
      simp
    have fit : (evalHeat (firstRead s)).coachConditions = true := by
      have warm : (evalHeat (firstRead s)).heatHolds = (settle s).heatHolds := by
        unfold State.heatHolds
        rw [reached.start, lead, heat, reached.dep, u.start, u.dep]
      have same : (evalHeat (firstRead s)).identityHolds = s.identityHolds := by
        unfold State.identityHolds
        rw [reached.identity, reached.assignment]
      unfold State.coachConditions at coach holds ⊢
      rw [same, sheet, faults, dep, warm]
      simp only [Bool.and_eq_true] at coach holds ⊢
      exact ⟨coach.1, holds.2⟩
    unfold State.laneMove laneStep
    simp [fit, free]
  have round : react s = evalHeat (firstRead s) := by
    rw [react_firstRead]
    exact clearanceTests_of_rests (by rw [dep, settling, first])
  have last : (settle s).dep = (clearanceTests (startCheck (startPass (react s)))).dep := by
    rw [settle_again]
    simp
  have kept : (startCheck (startPass (react s))).dep = s.dep := by
    have e : (startCheck (startPass (react s))).dep = (react s).dep := by simp
    rw [e, round, dep]
  rw [last] at ends ⊢
  rw [clearanceTests_of_ends (ends.trans (by rw [kept, settling])), kept]

/-- A bay found in SETTLING at the end of an event has its settle and its key from before, unless it was in SETTLING with its coach
conditions gone (R152). -/
theorem settle_timers {s : State} (ends : (settle s).dep.state = .settling)
    (held : s.dep.state = .settling → s.coachConditions = true) :
    (settle s).dep.settleTimer = s.dep.settleTimer ∧ (settle s).dep.key = s.dep.key := by
  by_cases settling : s.dep.state = .settling
  · rw [settle_stays settling (held settling) ends]
    exact ⟨rfl, rfl⟩
  · have dep : (evalHeat (firstRead s)).dep = s.dep := by simp [firstRead]
    obtain ⟨timer, key⟩ := clearanceTests_timers (s := evalHeat (firstRead s)) (.inl (by rwa [dep]))
    rw [dep, ← react_firstRead] at timer key
    have last : (settle s).dep = (clearanceTests (startCheck (startPass (react s)))).dep := by
      rw [settle_again]
      simp
    have kept : (startCheck (startPass (react s))).dep = (react s).dep := by simp
    rw [last] at ends ⊢
    have second := clearanceTests_timers (s := startCheck (startPass (react s))) (.inr ends)
    rw [kept, timer, key] at second
    exact second

/-- Reactions start no settle: what is stopped stays stopped (R152). -/
theorem settle_unkeyed {s : State} (timer : s.dep.settleTimer = none) (key : s.dep.key = none) :
    (settle s).dep.settleTimer = none ∧ (settle s).dep.key = none := by
  have move (a : State) (k : a.dep.settleTimer = none ∧ a.dep.key = none) :
      (clearanceMove a).dep.settleTimer = none ∧ (clearanceMove a).dep.key = none := by
    rw [clearanceMove_eq, changeDep_dep]
    unfold Departure.move
    split <;> simp [k]
  have tests (a : State) (k : a.dep.settleTimer = none ∧ a.dep.key = none) :
      (clearanceTests a).dep.settleTimer = none ∧ (clearanceTests a).dep.key = none := move _ (move _ (move _ k))
  have dep : (evalHeat (firstRead s)).dep = s.dep := by simp [firstRead]
  have first := tests (evalHeat (firstRead s)) (by rw [dep]; exact ⟨timer, key⟩)
  rw [← react_firstRead] at first
  have kept : (startCheck (startPass (react s))).dep = (react s).dep := by simp
  have second := tests (startCheck (startPass (react s))) (by rw [kept]; exact first)
  rw [settle_again]
  simpa using second

end Sys2Proof.Machine
end

section
/-! SUPPORT. The sources at the end of an event, and how `Reacted` is read over another base state that agrees with the first. -/

namespace Sys2Proof.Machine

open Sys2Proof

/-! ### Conditions given -/

/-- The record of a condition its owner gives as holding or not: left where it was given so before (R165). -/
def SourceRec.given (holds : Bool) (r : SourceRec) : SourceRec :=
  if holds = r.holding then r else if holds then r.begins else r.ends

theorem giveCondition_record (src other : Source) (s : State) :
    (giveCondition src s).notices.get other =
      if src = other then (s.notices.get other).given (s.conditionHolds other) else s.notices.get other := by
  unfold giveCondition SourceRec.given
  split
  · next same => split
                 · next e => rw [← e, same]; simp
                 · rfl
  · next differs =>
    split
    · next on => rw [modifySource_get]; split <;> simp_all
    · next on => rw [modifySource_get]; split <;> simp_all

theorem giveConditions_record {src : Source} (cond : src.isCondition = true) (s : State) :
    (giveConditions s).notices.get src = (s.notices.get src).given (s.conditionHolds src) := by
  cases src <;> simp only [Source.isCondition, Bool.false_eq_true] at cond <;>
    simp [giveConditions, giveCondition_record, giveCondition_holds]

/-- A condition's record moves once in an event's reactions, as its owner's condition then stands. -/
theorem settle_get_condition {src : Source} (cond : src.isCondition = true) (s : State) :
    (settle s).notices.get src = (s.notices.get src).given ((settle s).conditionHolds src) := by
  have reacted (a : State) : (react a).notices.get src = a.notices.get src := by
    have started := (startCheck_works (startPass a)).edges src cond
    rw [react_eq]
    simpa using started
  have holds : (settle s).conditionHolds src = (arbitrate (startPass (react (react s)))).conditionHolds src := by
    rw [settle_eq, driveHead_conditionHolds]
    simp [giveConditions, giveCondition_holds]
  have last (b : State) : (arbitrate (startPass b)).notices = b.notices := by simp
  rw [holds, settle_eq, driveHead_notices, giveConditions_record cond, last, reacted, reacted]

/-- A condition that holds as it did before the event has its record unchanged. -/
theorem settle_get_of_holding {src : Source} (cond : src.isCondition = true) {s : State}
    (same : ((settle s).notices.get src).holding = (s.notices.get src).holding) :
    (settle s).notices.get src = s.notices.get src := by
  rw [settle_get_condition cond] at same ⊢
  unfold SourceRec.given at same ⊢
  split
  · rfl
  · next differs =>
    rw [if_neg differs] at same
    revert differs same
    cases (settle s).conditionHolds src <;> cases (s.notices.get src).holding <;> simp

/-! ### Edges raised -/

theorem giveConditions_edges {src : Source} (edge : src.isCondition = false) (s : State) :
    (giveConditions s).notices.get src = s.notices.get src := by
  cases src <;> simp only [Source.isCondition, Bool.true_eq_false] at edge <;> simp [giveConditions, giveCondition_record]

/-- Reactions raise an edge or leave it. -/
theorem settle_raised {src : Source} (edge : src.isCondition = false) (s : State) :
    ((settle s).notices.get src).RaisedFrom (s.notices.get src) := by
  have reacted (a : State) : ((react a).notices.get src).RaisedFrom (a.notices.get src) := by
    have started := ((startCheck_works (startPass a)).tells src).1
    rw [react_eq]
    simpa using started
  have last (b : State) : (arbitrate (startPass b)).notices = b.notices := by simp
  rw [settle_eq, driveHead_notices, giveConditions_edges edge, last]
  exact (reacted s).trans (reacted _)

/-- Where no check may start they leave every edge. -/
theorem settle_get_blocked {s : State} (h : s.checkBlocked) {src : Source} (edge : src.isCondition = false) :
    (settle s).notices.get src = s.notices.get src := by
  obtain ⟨h1, _, _, _, _, first⟩ := react_of_checkBlocked h
  obtain ⟨_, _, _, _, _, second⟩ := react_of_checkBlocked h1
  have last (b : State) : (arbitrate (startPass b)).notices = b.notices := by simp
  rw [settle_eq, driveHead_notices, giveConditions_edges edge, last, second, first]

theorem settle_tells_blocked {s : State} (h : s.checkBlocked) {src : Source} (edge : src.isCondition = false) (arg : Nat) :
    (settle s).notices.tells src arg = s.notices.tells src arg := by
  unfold Notices.tells
  rw [settle_get_blocked h edge]

/-! ### Another base state -/

/-- What is only reactions from one state is so from another that agrees with it on what reactions leave alone. -/
theorem Reacted.rebase {a b c : State} (h : Reacted a b) (pending : c.pending = a.pending := by simp)
    (now : c.now = a.now := by simp) (start : c.start = a.start := by simp) (bay : c.bay = a.bay := by simp)
    (linkState : c.link.state = a.link.state := by simp) (failureRun : c.link.failureRun = a.link.failureRun := by simp)
    (cache : c.link.cache = a.link.cache := by simp) (passTimer : c.link.passTimer = a.link.passTimer := by simp)
    (line : { c.line with departSlot := a.line.departSlot, heatSlot := a.line.heatSlot, inFlight := a.line.inFlight } = a.line :=
      by simp)
    (inFlight : c.line.inFlight.map (·.content) = a.line.inFlight.map (·.content) := by simp)
    (supply : c.supply = a.supply := by simp) (overdrawRun : c.meter.overdrawRun = a.meter.overdrawRun := by simp)
    (probe : c.lead.probe = a.lead.probe := by simp) (probeTimer : c.lead.probeTimer = a.lead.probeTimer := by simp)
    (claimTimer : c.heat.claimTimer = a.heat.claimTimer := by simp)
    (heaterFault : c.heat.heaterFault = a.heat.heaterFault := by simp) (weakFound : c.heat.weakFound = a.heat.weakFound := by simp)
    (drawn : a.heat.drawn ≤ c.heat.drawn := by simp)
    (dep : { c.dep with settleTimer := a.dep.settleTimer, key := a.dep.key } = a.dep := by simp)
    (rests : a.dep.state.moves = false → b.dep = a.dep → b.dep = c.dep := by simp)
    (figure : c.faults.figure = a.faults.figure := by simp) (retention : c.faults.retention = a.faults.retention := by simp)
    (masks : ∀ src, (c.notices.get src).masked = (a.notices.get src).masked := by simp)
    (maskAll : c.notices.maskAll = a.notices.maskAll := by simp) (order : c.notices.order = a.notices.order := by simp)
    (stream : c.notices.stream = a.notices.stream := by simp)
    (replacement : c.notices.replacement = a.notices.replacement := by simp) : Reacted c b where
  pending := h.pending.trans pending.symm
  now := h.now.trans now.symm
  start := h.start.trans start.symm
  bay := by rw [bay]; exact h.bay
  linkState := h.linkState.trans linkState.symm
  failureRun := h.failureRun.trans failureRun.symm
  cache := h.cache.trans cache.symm
  passTimer := h.passTimer.trans passTimer.symm
  line := by rw [h.line, ← line]
  inFlight := h.inFlight.trans inFlight.symm
  supply := h.supply.trans supply.symm
  overdrawRun := h.overdrawRun.trans overdrawRun.symm
  probe := h.probe.trans probe.symm
  probeTimer := h.probeTimer.trans probeTimer.symm
  claimTimer := h.claimTimer.trans claimTimer.symm
  heaterFault := h.heaterFault.trans heaterFault.symm
  weakFound := h.weakFound.trans weakFound.symm
  drawn := h.drawn.trans drawn
  dep := by rw [h.dep, ← dep]
  rests := fun k => by
    have state : c.dep.state = a.dep.state := by rw [← dep]
    rw [state] at k
    exact rests k (h.rests k)
  moves := fun k => by
    have state : c.dep.state = a.dep.state := by rw [← dep]
    rw [state] at k
    exact h.moves k
  figure := h.figure.trans figure.symm
  retention := h.retention.trans retention.symm
  masks := fun src => (h.masks src).trans (masks src).symm
  maskAll := h.maskAll.trans maskAll.symm
  order := h.order.trans order.symm
  stream := h.stream.trans stream.symm
  replacement := h.replacement.trans replacement.symm

end Sys2Proof.Machine
end

section
/-! SUPPORT. Orders from the panels and the settle heard: HOLD (O47), WAIVE (O49), ASSIGN and CANCEL (O48), the own number (O41), a peer's
SETTLING (O46), and the link's paces (O20). -/

namespace Sys2Proof.Machine

open Sys2Proof

/-! ### HOLD and WAIVE -/

/-- Settles O47: no bay settles while a depot hold is set. -/
theorem depotHoldStopsLaneEntries : Obligations.DepotHoldStopsLaneEntries := by
  refine ⟨fun t s on => ⟨_, congrArg Host.Outcome.next (receive_configured on), fun settling => ?_, settle_reacted _⟩,
    fun t s on => ⟨_, congrArg Host.Outcome.next (receive_configured on), settle_reacted _⟩,
    fun t d s h due => ⟨_, congrArg Host.Outcome.next (onDue_at (s := s) (t := t) h due), settle_reacted _⟩⟩
  have free := (settle_laneSafe _ settling).2.2.1
  rw [(settle_reacted _).hold] at free
  cases free

/-- Settles O49: a latched fault waiver is what BLOCKING_FAULT's condition reads. -/
theorem waiversNeedTheKeyAndASession : Obligations.WaiversNeedTheKeyAndASession := by
  intro t s on
  refine ⟨fun ⟨opened, key⟩ => ?_, fun refused => ?_⟩
  · have accepted : (s.heard t).waiveAccepted = true := by
      unfold State.waiveAccepted
      rw [Bool.and_eq_true]
      exact ⟨opened, key⟩
    have taken (effect : State → State) :
        receive (fun s => if s.waiveAccepted then effect s else s) (s.advance t) = effect (s.heard t) :=
      (receive_configured on).trans (if_pos accepted)
    refine ⟨⟨_, congrArg Host.Outcome.next (taken _), settle_reacted _⟩, ⟨_, congrArg Host.Outcome.next (taken _), settle_reacted _, ?_⟩,
      ⟨_, congrArg Host.Outcome.next (taken _), settle_reacted _⟩⟩
    rw [settle_conditions _ .blockingFault rfl]
    unfold State.conditionHolds
    rw [(settle_reacted _).dep]
    simp
  · have ignored : (s.heard t).waiveAccepted = false := by
      unfold State.waiveAccepted
      rw [Bool.and_eq_false_iff]
      exact refused
    have left (effect : State → State) :
        receive (fun s => if s.waiveAccepted then effect s else s) (s.advance t) = s.heard t :=
      (receive_configured on).trans (if_neg (by rw [ignored]; exact Bool.false_ne_true))
    exact ⟨congrArg Host.Outcome.next (left _), congrArg Host.Outcome.next (left _), congrArg Host.Outcome.next (left _)⟩

/-! ### The own number heard -/

/-- A line fault or a conflict takes the heat controller OFF and SETTLING back (R123, R153). -/
theorem settle_of_lineDown {s : State} (down : s.lineConditions = false) :
    (settle s).heat.state = .off ∧ (settle s).heat.drawn = 0 ∧ (settle s).dep.state ≠ .settling := by
  have off : s.offCondition = true := by
    unfold State.lineConditions at down
    unfold State.offCondition
    cases hf : s.lineFault <;> cases hc : s.line.conflict <;> simp_all
  refine ⟨(settle_off off).1, (settle_off off).2, fun settling => ?_⟩
  have line := (settle_laneSafe s settling).2.1
  rw [(settle_reacted s).lineConditions, down] at line
  cases line

/-- ADDRESS_CONFLICT is given as the conflict stands (R95). -/
theorem settle_conflict_given (s : State) : ((settle s).notices.get .addressConflict).holding = s.line.conflict := by
  rw [settle_conditions s .addressConflict rfl, ← (settle_reacted s).conflict]
  rfl

/-- Settles O41: conflict fails the line conditions and is what ADDRESS_CONFLICT reads. -/
theorem quietAndConflictRunTheirTimes : Obligations.QuietAndConflictRunTheirTimes := by
  refine ⟨fun t d s h due quiet => ?_, fun t s on => ?_, fun t d s h due => ?_⟩
  · refine congrArg Host.Outcome.next ((onDue_at (s := s) (t := t) h due).trans ?_)
    simp [quiet]
  · have effect : exec (.ownNumberHeard t) s = .next (settle { s.heard t with line := { (s.heard t).line with
        conflict := true, conflictTimer := some (max s.now t + 60000) } }) :=
      congrArg Host.Outcome.next (receive_configured on)
    refine ⟨_, effect, settle_reacted _, ?_⟩
    have down : State.lineConditions { s.heard t with line := { (s.heard t).line with
        conflict := true, conflictTimer := some (max s.now t + 60000) } } = false := by simp [State.lineConditions]
    obtain ⟨state, drawn, settling⟩ := settle_of_lineDown down
    exact ⟨state, drawn, settling, settle_conflict_given _⟩
  · have effect : exec (.conflictTimerExpiry t) s = .next (settle { s.advance t with line := { s.line with
        conflict := false, conflictTimer := none } }) :=
      congrArg Host.Outcome.next (onDue_at (s := s) (t := t) h due)
    exact ⟨_, effect, settle_reacted _, settle_conflict_given _⟩

/-! ### A peer's SETTLING -/

theorem execDepartClaimReceived_peer {t n : Nat} {state : ClaimState} {countdown : Int} {s : State} (on : s.configured = true)
    (peer : s.isPeer n = true) : exec (.departClaimReceived t n state countdown) s =
      .next (settle (hearDepart n { state := state, countdown := countdown, heard := max s.now t } (s.heard t))) :=
  congrArg Host.Outcome.next ((receive_configured on).trans (if_pos peer))

theorem State.isPeer_iff {s : State} {n : Nat} : s.isPeer n = true ↔ 1 ≤ n ∧ n ≤ 48 ∧ n ≠ s.ownNumber := by
  simp [State.isPeer, and_assoc]

theorem Reacted.setPeer {a s : State} (h : Reacted a s) (n : Nat) (f : PeerEntry → PeerEntry) :
    Reacted a (Machine.setPeer n f s) := h.withPeers _

theorem Reacted.hearSettling {a s : State} (h : Reacted a s) (n : Nat) (countdown : Int) :
    Reacted a (Machine.hearSettling n countdown s) := by
  unfold Machine.hearSettling
  split
  · next settling =>
    have moves : s.dep.state.moves = true := by rw [settling]; rfl
    split
    · exact h.changeDep rfl moves
    · split
      · exact h.changeDep rfl moves
      · exact h
  · exact h

theorem Reacted.hearDepart {a s : State} (h : Reacted a s) (n : Nat) (part : DepartPart) :
    Reacted a (Machine.hearDepart n part s) := by
  unfold Machine.hearDepart
  dsimp only
  split
  · exact (h.setPeer _ _).hearSettling _ _
  · exact h.setPeer _ _

/-- A bay in SETTLING that hears a peer's SETTLING yields to the earlier due moment, then to the lower number (R154). -/
def State.yieldsTo (s : State) (n : Nat) (countdown : Int) : Prop :=
  match s.dep.key with
  | none => True
  | some (own, moment) =>
      (s.now : Int) + 1000 * countdown < moment + 1000 * own ∨
        ((s.now : Int) + 1000 * countdown = moment + 1000 * own ∧ n < s.ownNumber)

theorem hearSettling_eq {s : State} (settling : s.dep.state = .settling) (n : Nat) (countdown : Int) :
    (s.yieldsTo n countdown → hearSettling n countdown s = changeDep .ready s) ∧
      (¬s.yieldsTo n countdown → hearSettling n countdown s = s) := by
  unfold hearSettling State.yieldsTo
  rw [if_pos settling]
  cases hk : s.dep.key with
  | none => exact ⟨fun _ => rfl, fun no => absurd trivial no⟩
  | some key =>
    obtain ⟨own, moment⟩ := key
    have before := keyBefore_iff (v := dueMoment s.now countdown) (v' := dueMoment moment own) (n := n) (n' := s.ownNumber)
    unfold dueMoment at before
    exact ⟨fun y => if_pos (before.mpr y), fun no => if_neg fun e => no (before.mp e)⟩

/-- A yield drops the settle and its key, and reactions start none (R154). -/
theorem settle_yielded {s : State} (on : s.configured = true) (settling : s.dep.state = .settling) :
    (settle (changeDep .ready s)).dep.settleTimer = none ∧ (settle (changeDep .ready s)).dep.key = none ∧
      (settle (changeDep .ready s)).line.departSlot = true := by
  have timers : (changeDep .ready s).dep.settleTimer = none ∧ (changeDep .ready s).dep.key = none := by
    rw [changeDep_dep]
    simp [Departure.move, settling]
  have due : (changeDep .ready s).line.departSlot = true := by
    unfold changeDep
    rw [if_neg (by rw [settling]; decide)]
    exact makeDepartDue_departSlot on
  obtain ⟨timer, key⟩ := settle_unkeyed timers.1 timers.2
  exact ⟨timer, key, settle_departSlot due⟩

/-- Settles O46, by whether the bay yields; where it does not, its settle is left as it was. -/
theorem earlierDueMomentTakesTheLane : Obligations.EarlierDueMomentTakesTheLane := by
  intro t n countdown s on settling low high other
  have peer : s.isPeer n = true := State.isPeer_iff.mpr ⟨low, high, other⟩
  have effect := execDepartClaimReceived_peer (t := t) (state := .settling) (countdown := countdown) on peer
  let a := setPeer n (fun e => { e with depart := some { state := .settling, countdown := countdown, heard := max s.now t } })
    (s.heard t)
  have reached : Reacted (s.heard t) a := (Reacted.refl _).setPeer _ _
  have heard : hearDepart n { state := .settling, countdown := countdown, heard := max s.now t } (s.heard t) =
      hearSettling n countdown a := by
    unfold hearDepart
    exact if_pos rfl
  rw [heard] at effect
  have dep : a.dep = s.dep := rfl
  have now : (a.now : Int) = max (s.now : Int) t := Nat.cast_max s.now t
  have number : a.ownNumber = s.ownNumber := rfl
  have coach : a.coachConditions = s.coachConditions := rfl
  have open_ : a.configured = true := on
  obtain ⟨yes, no⟩ := hearSettling_eq (s := a) settling n countdown
  generalize a = b at *
  refine ⟨_, effect, (reached.hearSettling n countdown).settle, fun yields means => ?_⟩
  have same : yields ↔ b.yieldsTo n countdown := by
    rw [means]
    unfold State.yieldsTo
    rewrite [dep, now, number]
    rcases s.dep.key with _ | ⟨_, _⟩ <;> exact Iff.rfl
  refine ⟨fun y => ?_, fun y safe ends => ?_⟩
  · rw [yes (same.mp y)]
    exact settle_yielded open_ (by rw [dep, settling])
  · rw [no fun k => y (same.mpr k)] at ends ⊢
    rw [settle_stays (by rw [dep, settling]) (coach.trans (safe settling).1) ends, dep]

/-! ### ASSIGN and CANCEL -/

/-- A claim falling due marks the slot and the claim in flight (R87, R88). -/
theorem makeDepartDue_eq (s : State) :
    ∃ due flight, makeDepartDue s = { s with line := { s.line with departSlot := due, inFlight := flight } } ∧
      flight.map (·.content) = s.line.inFlight.map (·.content) := by
  refine ⟨(makeDepartDue s).line.departSlot, (makeDepartDue s).line.inFlight, ?_, (Reacted.refl s).makeDepartDue.inFlight⟩
  unfold makeDepartDue
  split <;> rfl

/-- A change of the departure state moves the departure and makes its claim due (R161). -/
theorem changeDep_eq (d : DepState) (s : State) :
    ∃ due flight, changeDep d s =
      { s with dep := s.dep.move d, line := { s.line with departSlot := due, inFlight := flight } } ∧
      flight.map (·.content) = s.line.inFlight.map (·.content) := by
  unfold changeDep Departure.move
  by_cases h : d = s.dep.state
  · rw [if_pos h, if_pos h]
    exact ⟨_, _, rfl, rfl⟩
  · rw [if_neg h, if_neg h]
    obtain ⟨due, flight, e, content⟩ := makeDepartDue_eq { s with dep := { s.dep with
      state := d,
      settleTimer := if s.dep.state = .settling then none else s.dep.settleTimer,
      key := if s.dep.state = .settling then none else s.dep.key,
      releaseTimer := if s.dep.state = .holding then none else s.dep.releaseTimer } }
    exact ⟨due, flight, e, content⟩

theorem Departure.move_eq {x : Departure} (free : x.state ≠ .holding) (d : DepState) :
    x.move d = { x with state := d, settleTimer := (x.move d).settleTimer, key := (x.move d).key } := by
  unfold Departure.move
  split
  · next h => rw [h]
  · rfl

/-- ASSIGN starts the departure again, and beyond that is reactions (R144). -/
theorem acceptAssign_reacted {coach countdown : Nat} {s : State} (free : s.dep.state ≠ .holding) :
    Reacted
      { s with dep := { s.dep with state := .assigned, assignment := some coach, countdown := some (countdown : Int),
                                   nextFall := some ((s.now / 1000 + 1) * 1000) },
               line := { s.line with departSlot := true } } (acceptAssign coach countdown s) := by
  obtain ⟨due, flight, e, content⟩ := changeDep_eq .assigned s
  unfold acceptAssign
  rw [e, Departure.move_eq free]
  refine Reacted.recomputeLead (Reacted.makeDepartDue ((Reacted.refl _).rebase (inFlight := content.symm) (dep := rfl) (rests := ?_)))
  intro no
  cases no

theorem changeDep_departSlot {d : DepState} {s : State} (on : s.configured = true) (moves : d ≠ s.dep.state) :
    (changeDep d s).line.departSlot = true := by
  unfold changeDep
  rw [if_neg moves]
  exact makeDepartDue_departSlot on

theorem SourceRec.raise_eq (arg : Nat) (r : SourceRec) :
    r.raise arg = { r with pending := true, inst := { arg := arg, more := r.pending } } := by
  unfold SourceRec.raise
  split
  · next h => rw [h]
  · next h => rw [Bool.eq_false_iff.mpr h]

/-- A departure that is cancelled, of one not released (R145). -/
theorem Departure.cancelled_eq {x : Departure} (h : x.wellKept) (free : x.state ≠ .holding) :
    x.cancelled = { x with state := .none, assignment := none, countdown := none, nextFall := none, settleTimer := none,
                           key := none } := by
  obtain ⟨_, _, _, settle, keyed, _, _⟩ := h
  have timers : (x.move .none).settleTimer = none ∧ (x.move .none).key = none := by
    by_cases settling : x.state = .settling
    · simp [Departure.move, settling]
    · obtain ⟨timer, key⟩ := Departure.move_timers settling .none
      exact ⟨timer.trans (eq_none_of_isSome_imp settle settling), key.trans (eq_none_of_isSome_imp keyed settling)⟩
  unfold Departure.cancelled
  rw [Departure.move_eq free, timers.1, timers.2]

/-- Settles O48, by the departure state at the frame. -/
theorem assignAndCancelSetTheDeparture : Obligations.AssignAndCancelSetTheDeparture := by
  intro t coach countdown s on fits inRange kept
  refine ⟨fun ⟨holding, gone⟩ => ?_, fun refuses => ⟨?_, ?_⟩, fun early => ?_, fun none => ?_⟩
  · have effect : exec (.assign t coach countdown) s = .next (settle (acceptAssign coach countdown (s.heard t))) := by
      refine congrArg Host.Outcome.next ((receive_configured on).trans ((if_pos ⟨fits, inRange⟩).trans ?_))
      cases hs : s.dep.state <;> simp_all
    have due : (acceptAssign coach countdown (s.heard t)).line.departSlot = true := by
      unfold acceptAssign
      have claims (a : State) (d : a.line.departSlot = true) : (recomputeLead a).line.departSlot = true := by simpa using d
      exact claims _ (makeDepartDue_departSlot (by simp [State.configured] at on ⊢; exact on))
    have timers : (acceptAssign coach countdown (s.heard t)).dep.settleTimer = none ∧
        (acceptAssign coach countdown (s.heard t)).dep.key = none := by
      obtain ⟨_, _, _, settle, keyed, _, _⟩ := kept
      rw [acceptAssign_dep]
      by_cases settling : s.dep.state = .settling
      · simp [Departure.move, settling]
      · obtain ⟨timer, key⟩ := Departure.move_timers settling .assigned
        exact ⟨timer.trans (eq_none_of_isSome_imp settle settling), key.trans (eq_none_of_isSome_imp keyed settling)⟩
    obtain ⟨timer, key⟩ := settle_unkeyed timers.1 timers.2
    exact ⟨_, effect, settle_departSlot due, timer, key, (acceptAssign_reacted (s := s.heard t) holding).settle⟩
  · have effect : exec (.assign t coach countdown) s = .next (raiseEdge .assignRefused coach (s.heard t)) := by
      refine congrArg Host.Outcome.next ((receive_configured on).trans ((if_pos ⟨fits, inRange⟩).trans ?_))
      rcases refuses with h | h <;> simp [h]
    refine ⟨_, effect, rfl, ?_, fun other ne => raiseEdge_get_other _ _ ne.symm⟩
    rw [← SourceRec.raise_eq]
    rfl
  · refine congrArg Host.Outcome.next ((receive_configured on).trans ?_)
    rcases refuses with h | h <;> simp [h]
  · have effect : exec (.cancel t) s = .next (settle (enterNone (s.heard t))) := by
      refine congrArg Host.Outcome.next ((receive_configured on).trans ?_)
      rcases early with h | h | h | h <;> simp [h]
    have r : Reacted (enterNone (s.heard t)) (settle (enterNone (s.heard t))) := settle_reacted _
    have moved : s.dep.state ≠ .none ∧ s.dep.state ≠ .holding := by rcases early with h | h | h | h <;> simp [h]
    have dep := r.rests (by simp [Departure.cancelled]; rfl)
    rw [enterNone_dep] at dep
    have off : (enterNone (s.heard t)).offCondition = true := by
      rw [State.offCondition_iff]
      simp [Departure.cancelled]
    have due : (enterNone (s.heard t)).line.departSlot = true := changeDep_departSlot on moved.1.symm
    refine ⟨_, effect, settle_departSlot due, (settle_off off).1, (settle_off off).2, ?_, ?_⟩
    · rw [dep]
      exact Departure.cancelled_eq kept moved.2
    · have head := settle_headRight (enterNone (s.heard t))
      have bay := r.bay
      rw [State.headRight, dep] at head
      rw [bay, head]
      simp [Departure.cancelled, aspectOf]
  · refine congrArg Host.Outcome.next ((receive_configured on).trans ?_)
    simp [none]

/-! ### The link's paces -/

theorem staleCache_of_fresh {s : State} (fresh : s.link.cache.fresh = true) :
    staleCache s = clearAtTarget (recomputeLead { s with link := { s.link with cache :=
      { s.link.cache with fresh := false, staleTimer := none } } }) := if_pos fresh

/-- At target is not set by reactions while the cache is stale (R110, R125). -/
theorem settle_atTarget {s : State} (taken : s.configured = true → s.leadTaken) (stale : s.link.cache.fresh = false)
    (clear : s.heat.atTarget = false) : (settle s).heat.atTarget = false := by
  have read : s.configured = true → (firstRead s).leadTaken := fun on =>
    deriveLatest_taken (readPeers_taken (State.leadTaken_congr (taken on)
      ⟨by simp, by simp, by simp, fun _ => by simp, by simp⟩ (by simp) (by simp) (by simp) (by simp)))
  have reached := firstRead_reacted s
  have heat : (firstRead s).heat = s.heat := by simp [firstRead]
  have called : (updateCalled (firstRead s)).heat.atTarget = false := by
    rcases updateCalled_cases (firstRead s) with ⟨e, _⟩ | ⟨off, _, _, ⟨e, _⟩ | ⟨_, v, cabin⟩⟩
    · rw [e, heat, clear]
    · rw [e, heat, clear]
    · have on : s.configured = true := by
        rw [← reached.configured]
        have : (firstRead s).configured = true := by
          by_contra no
          simp [State.offCondition, no] at off
        exact this
      have fresh := (read on).fresh cabin
      rw [reached.cache, stale] at fresh
      cases fresh
  have e : (settle s).heat = (evalHeat (firstRead s)).heat := by
    rw [settle_heat_react, react_firstRead, clearanceTests_heat]
  rw [e]
  unfold evalHeat
  dsimp only
  rw [updateWanted_heat]
  rcases enterHeatState_marks (updateCalled (firstRead s)).heatTest (updateCalled (firstRead s)) with ⟨_, _, _, k, _⟩ | ⟨_, _, k, _⟩
  · exact k
  · exact k.trans called

/-- Settles O20: what each timer asks for is still asked for after the reactions. -/
theorem linkTimersAskAgain : Obligations.LinkTimersAskAgain := by
  refine ⟨fun t d s h due up on => ?_, fun t d s h due fresh => ?_, fun t d s h due => ?_, fun t d s h due => ?_⟩
  · have effect : exec (.pollTimerExpiry t) s = .next (settle { raiseTemp (s.advance t) with
        link := { (raiseTemp (s.advance t)).link with pollTimer := some (max s.now t + 30000) } }) :=
      congrArg Host.Outcome.next (onDue_at (s := s) (t := t) h due)
    have reached : Reacted (s.advance t) { raiseTemp (s.advance t) with
        link := { (raiseTemp (s.advance t)).link with pollTimer := some (max s.now t + 30000) } } :=
      (Reacted.refl _).raiseTemp.withLink _
    have polling : State.polling { raiseTemp (s.advance t) with
        link := { (raiseTemp (s.advance t)).link with pollTimer := some (max s.now t + 30000) } } := by
      simp [State.polling, raiseTemp, up, Link.asks]
    generalize ({ raiseTemp (s.advance t) with
        link := { (raiseTemp (s.advance t)).link with pollTimer := some (max s.now t + 30000) } } : State) = a at *
    obtain ⟨asks, timer⟩ := settle_polls polling (by rw [reached.offCondition]; exact on)
    rw [reached.settle.now] at timer
    exact ⟨_, effect, reached.settle, timer, asks⟩
  · have effect : exec (.cacheStaleTimerExpiry t) s = .next (settle (staleCache (s.advance t))) :=
      congrArg Host.Outcome.next (onDue_at (s := s) (t := t) h due)
    rw [staleCache_of_fresh (s := s.advance t) fresh] at effect
    refine ⟨_, effect, (Reacted.refl _).recomputeLead.clearAtTarget.settle, ?_⟩
    refine settle_atTarget (fun on => ?_) (by simp) (by simp)
    exact recomputeLead_taken fun no => by simp [State.configured] at on no; simp [on] at no
  · have effect : exec (.passTimerExpiry t) s = .next (settle { s.advance t with
        link := { s.link with passOwed := true, passTimer := some (max s.now t + 600000) } }) :=
      congrArg Host.Outcome.next (onDue_at (s := s) (t := t) h due)
    refine ⟨_, effect, (settle_reacted _).rebase, ?_⟩
    exact settle_passOwed (s := { s.advance t with
      link := { s.link with passOwed := true, passTimer := some (max s.now t + 600000) } }) rfl
  · have effect : exec (.reidentifyTimerExpiry t) s = .next (settle
        (if s.bay.occupancy = .unlinked then raiseIdentify { s.advance t with bay := { s.bay with reidentify := none } }
        else { s.advance t with bay := { s.bay with reidentify := none } })) :=
      congrArg Host.Outcome.next (onDue_at (s := s) (t := t) h due)
    refine ⟨_, effect, Reacted.settle ?_, fun unlinked plugged => ?_⟩
    · split
      · exact (Reacted.refl _).raiseIdentify
      · exact .refl _
    · rw [if_pos unlinked, settle_asks_identify]
      exact raiseIdentify_asks plugged

end Sys2Proof.Machine
end

section
/-! SUPPORT. The outcome of a frame of its own: one that was not sent (O38) and one that finished (O39, O40). -/

namespace Sys2Proof.Machine

open Sys2Proof

/-! ### What an unsent frame carried -/

theorem Notices.unsent_keeps (n : Notices) (c : Content) :
    (∀ src, (n.unsent c).get src = n.get src) ∧ (n.unsent c).maskAll = n.maskAll ∧ (n.unsent c).order = n.order := by
  unfold Notices.unsent
  split
  · split <;> exact ⟨fun _ => rfl, rfl, rfl⟩
  · exact ⟨fun _ => rfl, rfl, rfl⟩

theorem Notices.unsent_of_notice (n : Notices) (src : Source) (arg : Nat) (more : Bool) : n.unsent (.notice src arg more) = n := by
  unfold Notices.unsent
  split <;> rfl

theorem SourceRec.giveBack_of_taken {r : SourceRec} {i : Instance} (h : r.taken = some i) :
    r.giveBack = { r with pending := true, taken := none, inst := if r.pending then { r.inst with more := true } else i } := by
  unfold SourceRec.giveBack
  rw [h]
  cases r with
  | mk pending inst taken holding repeatTimer masked => cases pending <;> rfl

theorem returnFrame_eq (f : Flight) (s : State) :
    returnFrame f s = { s with line := { s.line with inFlight := none }, notices := (returnFrame f s).notices } := by
  unfold returnFrame modifySource
  split
  · split <;> rfl
  all_goals rfl

/-- What an edge told goes back to its source, and what any other frame carried waits where it did (R85, R89). -/
theorem returnFrame_notices (f : Flight) (s : State) :
    (∃ src arg more, f.content = .notice src arg more ∧ src.isCondition = false ∧
      (returnFrame f s).notices = s.notices.set src (s.notices.get src).giveBack) ∨
    ((∀ src arg more, f.content = .notice src arg more → src.isCondition = true) ∧
      (returnFrame f s).notices = s.notices.unsent f.content) := by
  obtain ⟨content, renewed⟩ := f
  cases content
  case notice src arg more =>
    cases cond : src.isCondition
    · refine .inl ⟨src, arg, more, rfl, cond, ?_⟩
      simp [returnFrame, cond, modifySource]
    · refine .inr ⟨fun _ _ _ e => by cases e; exact cond, ?_⟩
      rw [Notices.unsent_of_notice]
      simp [returnFrame, cond]
  all_goals
    refine .inr ⟨by simp, ?_⟩
    simp only [returnFrame, Notices.unsent, Notices.reportOutcome, Content.isReport]
    cases s.notices.replacement <;> simp

theorem returnFrame_get {f : Flight} {s : State} {other : Source}
    (h : other.isCondition = true ∨ ∀ arg more, f.content ≠ .notice other arg more) :
    (returnFrame f s).notices.get other = s.notices.get other := by
  rcases returnFrame_notices f s with ⟨src, arg, more, e, edge, notices⟩ | ⟨_, notices⟩
  · rw [notices]
    refine Notices.get_set_other fun same => ?_
    subst same
    rcases h with cond | differs
    · rw [edge] at cond; cases cond
    · exact differs arg more e
  · rw [notices, (s.notices.unsent_keeps _).1]

theorem returnFrame_keeps_masks (f : Flight) (s : State) :
    (∀ src, ((returnFrame f s).notices.get src).masked = ((s.notices.unsent f.content).get src).masked) ∧
    (returnFrame f s).notices.maskAll = (s.notices.unsent f.content).maskAll ∧
    (returnFrame f s).notices.order = (s.notices.unsent f.content).order ∧
    (returnFrame f s).notices.stream = (s.notices.unsent f.content).stream ∧
    (returnFrame f s).notices.replacement = (s.notices.unsent f.content).replacement := by
  rcases returnFrame_notices f s with ⟨src, arg, more, e, edge, notices⟩ | ⟨_, notices⟩
  · rw [notices, e, Notices.unsent_of_notice]
    refine ⟨fun other => ?_, rfl, rfl, rfl, rfl⟩
    rw [Notices.get_set]
    split
    · next same =>
      subst same
      unfold SourceRec.giveBack
      split
      · rfl
      · split <;> rfl
    · rfl
  · rw [notices]
    exact ⟨fun _ => rfl, rfl, rfl, rfl, rfl⟩

theorem returnFrame_edge {f : Flight} {s : State} {src : Source} {arg : Nat} {more : Bool} {i : Instance}
    (e : f.content = .notice src arg more) (edge : src.isCondition = false) (taken : (s.notices.get src).taken = some i) :
    (returnFrame f s).notices = s.notices.set src { s.notices.get src with
      pending := true, taken := none,
      inst := if (s.notices.get src).pending then { (s.notices.get src).inst with more := true } else i } := by
  rcases returnFrame_notices f s with ⟨src', arg', more', e', _, notices⟩ | ⟨cond, _⟩
  · rw [e] at e'
    cases e'
    rw [notices, SourceRec.giveBack_of_taken taken]
  · rw [cond src arg more e] at edge
    cases edge

/-! ### A transmit error -/

theorem countError_line (s : State) : countError s = { s with line :=
    if s.line.status = .probing ∨ 15 ≤ s.line.errorRun then
      { s.line with status := .quiet, errorRun := 0, quietTimer := some (s.now + 10000) }
    else { s.line with errorRun := s.line.errorRun + 1 } } := by
  unfold countError
  have same : Config.errorsToQuiet ≤ s.line.errorRun + 1 ↔ 15 ≤ s.line.errorRun := by
    simp only [Config.errorsToQuiet]; omega
  simp only [same]
  split <;> rfl

/-- Settles O38: what was carried waits again before the reactions, and they take nothing that waits, be it a claim, an edge or a condition. -/
theorem unsentFramesKeepWaiting : Obligations.UnsentFramesKeepWaiting := by
  intro t f s flies
  refine ⟨⟨returnFrame f (s.advance t), ?_, returnFrame_eq f (s.advance t), fun cond => ?_, fun src arg more i e edge taken => ?_⟩, ?_⟩
  · unfold exec execArbitrationLost
    simp only [State.advance_line, flies]
  · rcases returnFrame_notices f (s.advance t) with ⟨src, arg, more, e, edge, _⟩ | ⟨_, notices⟩
    · rw [cond src arg more e] at edge
      cases edge
    · exact notices
  · rw [returnFrame_edge (s := s.advance t) e edge taken]
    refine ⟨rfl, rfl, rfl, rfl, Notices.get_set_self _ _ _, fun other differs => Notices.get_set_other differs.symm⟩
  · have effect : exec (.transmitError t) s = .next (settle (countError (returnFrame f (s.advance t)))) := by
      unfold exec execTransmitError
      simp only [State.advance_line, flies]
    have sent : countError (returnFrame f (s.advance t)) = { s.advance t with
        line :=
          if s.line.status = .probing ∨ 15 ≤ s.line.errorRun then
            { s.line with inFlight := none, status := .quiet, errorRun := 0, quietTimer := some (max s.now t + 10000) }
          else { s.line with inFlight := none, errorRun := s.line.errorRun + 1 },
        notices := (returnFrame f (s.advance t)).notices } := by
      rw [countError_line, returnFrame_eq]
      rfl
    have masks := returnFrame_keeps_masks f (s.advance t)
    have others := @returnFrame_get f (s.advance t)
    have edges := @returnFrame_edge f (s.advance t)
    rw [sent] at effect
    generalize (returnFrame f (s.advance t)).notices = n at *
    obtain ⟨masked, maskAll, order, stream, replacement⟩ := masks
    refine ⟨_, effect, ?_, fun due => ?_, fun due => ?_, fun src arg more i e edge taken => ?_,
      fun other edge sheet lost differs => ?_, fun src cond same => ?_, fun quiet => ?_⟩
    · exact (settle_reacted _).rebase (masks := fun src => (masked src).symm) (maskAll := maskAll.symm) (order := order.symm)
        (stream := stream.symm) (replacement := replacement.symm)
    · refine (settle_due _).depart ?_
      dsimp only
      split <;> exact due
    · refine (settle_due _).heat ?_
      dsimp only
      split <;> exact due
    · have given := edges e edge taken
      have record : n.get src = { s.notices.get src with
          pending := true, taken := none,
          inst := if (s.notices.get src).pending then { (s.notices.get src).inst with more := true } else i } := by
        rw [given]; exact Notices.get_set_self _ _ _
      by_cases spare : src = .lampSheetDone ∨ src = .blockingLost
      · rcases settle_raised edge { s.advance t with
            line :=
              if s.line.status = .probing ∨ 15 ≤ s.line.errorRun then
                { s.line with inFlight := none, status := .quiet, errorRun := 0, quietTimer := some (max s.now t + 10000) }
              else { s.line with inFlight := none, errorRun := s.line.errorRun + 1 },
            notices := n } with same | ⟨pending, taken, more⟩
        · rw [same, record]
          exact ⟨rfl, rfl, .inl rfl⟩
        · refine ⟨pending, taken.trans ?_, .inr ⟨spare, more ?_⟩⟩ <;> rw [record]
      · rw [settle_get edge (fun k => spare (.inl k)) (fun k => spare (.inr k)), record]
        exact ⟨rfl, rfl, .inl rfl⟩
    · rw [settle_get edge sheet lost]
      exact others (.inr differs)
    · have kept : n.get src = s.notices.get src := others (.inl cond)
      rw [← kept] at same ⊢
      exact settle_get_of_holding cond same
    · refine settle_of_lineDown ?_
      simp [State.lineConditions, State.lineFault, quiet]

/-! ### A notice or a report frame that finished -/

theorem finishFrame_notice {f : Flight} {src : Source} {arg : Nat} {more : Bool} (e : f.content = .notice src arg more) (s : State) :
    (finishFrame f s).notices = s.notices.set src
      (if src.isCondition then (s.notices.get src).told s.now else (s.notices.get src).retire) := by
  obtain ⟨content, renewed⟩ := f
  cases e
  cases cond : src.isCondition <;> simp [finishFrame, frameGone, cond, modifySource]

theorem finishFrame_report {f : Flight} (report : f.content.isReport = true) (s : State) :
    (finishFrame f s).notices = s.notices.reportOutcome true := by
  obtain ⟨content, renewed⟩ := f
  cases content <;> simp only [Content.isReport, Bool.false_eq_true] at report <;> rfl

theorem Stream.advance_eq (st : Stream) :
    st.advance = if st.kind = .bayStatus then none else some { st with next := st.next + 1, first := false } := by
  unfold Stream.advance
  cases st.kind <;> rfl

/-- Settles O40: the source's record and the stream as the finish leaves them are what the reactions find. -/
theorem finishedNoticesAndReportsMoveOn : Obligations.FinishedNoticesAndReportsMoveOn := by
  intro t f s flies
  have effect : exec (.frameFinished t) s = .next (settle (finishFrame f (s.advance t))) := by
    unfold exec execFrameFinished
    simp only [State.advance_line, flies]
  have notice := @finishFrame_notice f
  have report := fun h => @finishFrame_report f h (s.advance t)
  simp only [State.advance_notices] at report
  have told : ∀ src arg more, f.content = .notice src arg more → (finishFrame f (s.advance t)).notices = s.notices.set src
      (if src.isCondition then (s.notices.get src).told (max s.now t) else (s.notices.get src).retire) :=
    fun src arg more e => notice e (s.advance t)
  generalize finishFrame f (s.advance t) = a at *
  have reached := settle_reacted a
  refine ⟨settle a, effect, fun src arg more e edge => ?_, fun src arg more e cond held => ?_,
    fun src arg more e cond idle off => ?_, fun isReport => ⟨fun k waits => ?_, fun alone => ⟨?_, fun st runs => ?_⟩⟩⟩
  · have record : a.notices.get src = (s.notices.get src).retire := by simp [told src arg more e, edge]
    refine ⟨?_, reached.stream.trans (by simp [told src arg more e]), fun sheet lost => ?_⟩
    · rcases settle_raised edge a with same | ⟨_, taken, _⟩
      · rw [same, record]; rfl
      · rw [taken, record]; rfl
    · rw [settle_get edge sheet lost, record]
      exact ⟨rfl, rfl⟩
  · have record : a.notices.get src = (s.notices.get src).told (max s.now t) := by simp [told src arg more e, cond]
    rw [settle_get_condition cond, record]
    cases (settle a).conditionHolds src <;> simp [SourceRec.given, SourceRec.told, SourceRec.ends, held, Config.noticeRepeat]
  · have record : a.notices.get src = (s.notices.get src).told (max s.now t) := by simp [told src arg more e, cond]
    rw [settle_get_of_holding cond (off.trans (by rw [record]; exact idle.symm)), record]
    simp [SourceRec.told, idle]
  · rw [reached.stream, reached.replacement, report isReport]
    simp [Notices.reportOutcome, waits]
  · rw [reached.replacement, report isReport]
    simp [Notices.reportOutcome, alone]
  · rw [reached.stream, report isReport]
    simp [Notices.reportOutcome, alone, runs, Stream.advance_eq]

end Sys2Proof.Machine
end

section
/-! SUPPORT. Claims that finish: the slots and the announcements as the reactions leave them (O39), and the frame an idle begins (O37). -/

namespace Sys2Proof.Machine

open Sys2Proof

/-! ### The claims' slots through the reactions -/

theorem State.laneMove_of_moves {s : State} {d : DepState} (h : d.moves = false) : s.laneMove d = d := by
  unfold State.laneMove laneStep
  cases d <;> first | rfl | cases h

theorem react_departSlot {s : State} (ends : (react s).dep.state = s.dep.state) :
    (react s).line.departSlot = s.line.departSlot := by
  have dep : (evalHeat (firstRead s)).dep = s.dep := by
    have read : (firstRead s).dep = s.dep := by simp [firstRead]
    simpa using read
  rw [react_firstRead] at ends ⊢
  rw [clearanceTests_of_ends (by rw [ends, dep])]
  simp [firstRead]

@[simp] theorem driveHead_line (s : State) : (driveHead s).line = s.line := rfl

/-- What follows the two rounds of reactions touches neither the departure nor the line. -/
theorem settle_tail (s : State) :
    (settle s).dep = (react (react s)).dep ∧ (settle s).line = (react (react s)).line := by
  rw [settle_eq]
  generalize react (react s) = b
  exact ⟨by simp, by simp⟩

/-- A departure state that ends the event as it began it made no departure claim due, where no check may start or no test moves it. -/
theorem settle_departSlot_of_ends {s : State} (h : s.checkBlocked ∨ s.dep.state.moves = false)
    (ends : (settle s).dep.state = s.dep.state) : (settle s).line.departSlot = s.line.departSlot := by
  obtain ⟨dep, line⟩ := settle_tail s
  rw [dep] at ends
  rw [line]
  rcases h with blocked | rests
  · rw [react_twice_of_checkBlocked blocked, startPass_dep] at ends
    rw [react_twice_of_checkBlocked blocked]
    exact (congrArg Line.departSlot (startPass_keeps (react s)).2.2.2.1).trans (react_departSlot ends)
  · have first : (react s).dep = s.dep := (Reacted.refl s).react.rests rests
    have again : (react (react s)).dep = (react s).dep := (Reacted.refl _).react.rests (by rw [first]; exact rests)
    exact (react_departSlot (by rw [again])).trans (react_departSlot (by rw [first]))

theorem enterHeatState_heatSlot {new : HeatState} {s : State} (h : (enterHeatState new s).heat.state = s.heat.state) :
    (enterHeatState new s).line.heatSlot = s.line.heatSlot := by
  rw [(enterHeatState_heat new s).1] at h
  unfold enterHeatState
  rw [if_pos h]

/-- A heat state that ends the event as it began it made no heat claim due. -/
theorem settle_heatSlot_of_ends {s : State} (ends : (settle s).heat.state = s.heat.state) :
    (settle s).line.heatSlot = s.line.heatSlot := by
  have same : (settle s).line.heatSlot = (evalHeat (firstRead s)).line.heatSlot := by
    rw [settle_again, react_firstRead]
    simp
  rw [settle_heat_react, react_firstRead, clearanceTests_heat] at ends
  rw [same]
  have heat : (updateCalled (firstRead s)).heat.state = s.heat.state := by simp [firstRead]
  have line : (updateCalled (firstRead s)).line = s.line := by simp [firstRead]
  unfold evalHeat at ends ⊢
  rw [updateWanted_heat] at ends
  generalize updateCalled (firstRead s) = a at *
  have kept := enterHeatState_heatSlot (ends.trans heat.symm)
  rw [line] at kept
  simpa using kept

/-- The announcements outlast the reactions but in a state that draws nothing (R134). -/
theorem settle_announced (s : State) :
    HeatState.drawsNothing (settle s).heat.state = true ∨ (settle s).heat.announced = s.heat.announced := by
  rw [settle_heat_react, react_firstRead, clearanceTests_heat]
  have announced : (updateCalled (firstRead s)).heat.announced = s.heat.announced := by
    simp [firstRead]
  unfold evalHeat
  rw [updateWanted_heat]
  generalize updateCalled (firstRead s) = a at *
  dsimp only
  rcases enterHeatState_drawing a.heatTest a with ⟨_, _, _, kept, _⟩ | ⟨_, _, _, _, nothing⟩
  · exact .inr (kept.trans announced)
  · exact .inl (by rw [(enterHeatState_heat a.heatTest a).1]; exact nothing)

theorem Heat.announcement_congr {a b : Heat} (h : a.announced = b.announced) : a.announcement = b.announcement := by
  funext level
  unfold Heat.announcement
  rw [h]

theorem Heat.announcement_announce (h : Heat) (intended now : Nat) {level : Nat} (lowest : 1 ≤ level) (highest : level ≤ 4) :
    (h.announce intended now).announcement level =
      if level ≤ intended ∧ h.announcement level = none then some now else h.announcement level := by
  have four : level = 1 ∨ level = 2 ∨ level = 3 ∨ level = 4 := by omega
  rcases four with e | e | e | e <;> subst e <;> rfl

/-! ### A claim that finished -/

/-- What the finish of a frame that is no report moves. -/
theorem finishFrame_eq {f : Flight} (h : f.content.isReport = false) (s : State) :
    ∃ notices timer key announced, finishFrame f s = { s with
      line := { s.line with
        inFlight := none, errorRun := 0, status := if s.line.status = .probing then .normal else s.line.status,
        departSlot := if Content.kind f.content = 1 then f.renewed else s.line.departSlot,
        heatSlot := if Content.kind f.content = 2 then f.renewed else s.line.heatSlot,
        airSlot := if Content.kind f.content = 8 then f.renewed else s.line.airSlot },
      notices := notices, dep := { s.dep with settleTimer := timer, key := key },
      heat := { s.heat with announced := announced } } ∧
      (∀ state wanted intended drawn power latest, f.content = .heat state wanted intended drawn power latest →
        { s.heat with announced := announced } = s.heat.announce intended s.now) ∧
      (notices.maskAll = s.notices.maskAll ∧ notices.order = s.notices.order ∧ notices.stream = s.notices.stream ∧
        notices.replacement = s.notices.replacement ∧ ∀ src, (notices.get src).masked = (s.notices.get src).masked) ∧
      (∀ countdown, f.content = .depart .settling countdown → s.dep.state = .settling → s.dep.key = none →
        timer = some (s.now + 3000) ∧ key = some (countdown, s.now)) ∧
      ((∀ countdown, f.content = .depart .settling countdown → s.dep.key ≠ none) →
        timer = s.dep.settleTimer ∧ key = s.dep.key) := by
  obtain ⟨content, renewed⟩ := f
  cases content with
  | depart state countdown =>
    by_cases starts : state = .settling ∧ s.dep.state = .settling ∧ s.dep.key = none
    · refine ⟨s.notices, some (s.now + 3000), some (countdown, s.now), s.heat.announced, ?_, by simp, ⟨rfl, rfl, rfl, rfl, fun _ => rfl⟩,
        fun c e _ _ => by cases e; exact ⟨rfl, rfl⟩, fun no => ?_⟩
      · simp [finishFrame, frameGone, departFinished, starts, Content.kind, Config.settle]
      · exact absurd starts.2.2 (no countdown (by rw [starts.1]))
    · refine ⟨s.notices, s.dep.settleTimer, s.dep.key, s.heat.announced, ?_, by simp, ⟨rfl, rfl, rfl, rfl, fun _ => rfl⟩,
        fun c e stays new => ?_, fun _ => ⟨rfl, rfl⟩⟩
      · simp only [finishFrame, frameGone, departFinished, if_neg starts, Content.kind]
        rfl
      · cases e
        exact absurd ⟨rfl, stays, new⟩ starts
  | heat state wanted intended drawn power latest =>
    exact ⟨s.notices, s.dep.settleTimer, s.dep.key, (s.heat.announce intended s.now).announced, rfl,
      fun _ _ _ _ _ _ e => by cases e; rfl, ⟨rfl, rfl, rfl, rfl, fun _ => rfl⟩, by simp, fun _ => ⟨rfl, rfl⟩⟩
  | air v =>
    exact ⟨s.notices, s.dep.settleTimer, s.dep.key, s.heat.announced, rfl, by simp, ⟨rfl, rfl, rfl, rfl, fun _ => rfl⟩, by simp,
      fun _ => ⟨rfl, rfl⟩⟩
  | notice src arg more =>
    refine ⟨s.notices.set src (if src.isCondition then (s.notices.get src).told s.now else (s.notices.get src).retire),
      s.dep.settleTimer, s.dep.key, s.heat.announced, ?_, by simp, ⟨rfl, rfl, rfl, rfl, fun other => ?_⟩, by simp, fun _ => ⟨rfl, rfl⟩⟩
    · simp only [finishFrame, frameGone, modifySource, Content.kind]
      split <;> rfl
    · rw [Notices.get_set]
      split
      · next same => subst same; split <;> rfl
      · rfl
  | faultEntry _ _ => cases h
  | lampEntry _ _ => cases h
  | bayStatus _ => cases h

/-- Settles O39: a state that ends the event as it began it makes no claim due, and a settle under way goes on. -/
theorem finishedClaimsReachTheirOwners : Obligations.FinishedClaimsReachTheirOwners := by
  intro t f s flies isClaim
  have effect : exec (.frameFinished t) s = .next (settle (finishFrame f (s.advance t))) := by
    unfold exec execFrameFinished
    simp only [State.advance_line, flies]
  obtain ⟨notices, timer, key, announced, finished, announces, ⟨maskAll, order, stream, replacement, masked⟩, starts, stays⟩ :=
    finishFrame_eq isClaim (s.advance t)
  have reached := settle_reacted (finishFrame f (s.advance t))
  have due := settle_due (finishFrame f (s.advance t))
  have depart := @settle_departSlot_of_ends (finishFrame f (s.advance t))
  have heat := @settle_heatSlot_of_ends (finishFrame f (s.advance t))
  have levels := settle_announced (finishFrame f (s.advance t))
  have timers := @settle_timers (finishFrame f (s.advance t))
  have coach : (finishFrame f (s.advance t)).coachConditions = s.coachConditions := by rw [finished]; rfl
  generalize settle (finishFrame f (s.advance t)) = u at *
  rw [coach] at timers
  rw [finished] at reached due depart heat levels timers
  refine ⟨u, effect, ?_, ⟨reached.maskAll.trans maskAll, reached.order.trans order, reached.stream.trans stream,
    fun src => (reached.masks src).trans (masked src)⟩, fun kind renewed => due.depart (by simp [kind, renewed]),
    fun kind renewed => due.heat (by simp [kind, renewed]), fun kind ends blocked => ?_, fun kind ends => ?_,
    fun state wanted intended drawn power latest e => levels.imp id fun kept level lowest highest => ?_,
    fun countdown e stay new safe ends => ?_, fun state countdown e no safe ends => ?_⟩
  · exact reached.rebase (line := rfl) (rests := fun _ same => by rw [same]; rfl) (masks := reached.masks) (maskAll := reached.maskAll)
      (order := reached.order) (stream := reached.stream) (replacement := reached.replacement)
  · refine (depart ?_ ends).trans (if_pos kind)
    rcases blocked with k | k | k | k | k | k
    exacts [.inl (.inl k), .inl (.inr (.inl k)), .inl (.inr (.inr (.inl k))), .inl (.inr (.inr (.inr (.inl k)))),
      .inl (.inr (.inr (.inr (.inr (.inl k))))), .inr k]
  · exact (heat ends).trans (if_pos kind)
  · have stands := announces state wanted intended drawn power latest e
    rw [Heat.announcement_congr kept, stands, Heat.announcement_announce _ _ _ lowest highest]
    rfl
  · obtain ⟨timer', key'⟩ := timers ends fun settling => (safe settling).1
    obtain ⟨timer'', key''⟩ := starts countdown e stay new
    exact ⟨timer'.trans timer'', key'.trans key''⟩
  · obtain ⟨timer', key'⟩ := timers ends fun settling => (safe settling).1
    obtain ⟨timer'', key''⟩ := stays fun c e' => by
      rcases no with no | no
      · rw [e] at e'; cases e'; exact absurd rfl no
      · exact no
    exact ⟨timer'.trans timer'', key'.trans key''⟩

end Sys2Proof.Machine
end

section
/-! SUPPORT. The frame an idle begins: the transmit choice with the values of its moment (O37). -/

namespace Sys2Proof.Machine

open Sys2Proof

/-! ### The set of sources pending and masked -/

/-- Bits set one by one for the sources that meet a test. -/
theorem foldl_bits (p : Source → Bool) (src : Source) : ∀ (l : List Source) (w : Word16),
    (l.foldl (fun w x => if p x then w ||| (1#16 <<< x.number.val) else w) w).getLsbD src.number.val =
      (w.getLsbD src.number.val || (l.any fun x => decide (x = src)) && p src)
  | [], w => by simp
  | x :: l, w => by
    rw [List.foldl_cons, foldl_bits p src l, List.any_cons]
    by_cases same : x = src
    · subst same
      cases p x <;> simp
    · have apart : x.number.val ≠ src.number.val := fun e => same (Source.number_val_inj.mp e)
      have bit : (1#16 <<< x.number.val).getLsbD src.number.val = false := by
        rw [BitVec.getLsbD_shiftLeft, BitVec.getLsbD_one]
        by_cases before : src.number.val < x.number.val
        · simp [before]
        · have after : src.number.val - x.number.val ≠ 0 := by omega
          simp [after]
      cases p x
      · simp [same]
      · rw [if_pos rfl, BitVec.getLsbD_or, bit]
        simp [same]

theorem Notices.maskedPending_bit (n : Notices) (src : Source) :
    n.maskedPending.getLsbD src.number.val = ((n.get src).pending && (n.maskAll || (n.get src).masked)) := by
  unfold Notices.maskedPending
  rw [foldl_bits (fun x => (n.get x).pending && n.masked x)]
  have known : (allSources.any fun x => decide (x = src)) = true := by
    simpa using mem_allSources src
  rw [known]
  simp [Notices.masked]

/-! ### The frame begun -/

theorem execLineIdle_contending {s : State} (on : s.configured = true) (status : s.line.status ≠ .quiet)
    (idle : s.line.inFlight = none) (t : Nat) : exec (.lineIdle t) s = .next (transmitChoice (s.advance t)) := by
  have free : (s.advance t).mayContend = true := by simp [State.mayContend, on, status, idle]
  exact congrArg Host.Outcome.next (if_pos free)

theorem transmitChoice_depart {s : State} (h : s.line.departSlot = true) : transmitChoice s = beginFrame s.departContent s :=
  if_pos h

theorem transmitChoice_heat {s : State} (depart : s.line.departSlot = false) (h : s.line.heatSlot = true) :
    transmitChoice s = beginFrame s.heatContent s := by
  unfold transmitChoice
  rw [if_neg (by simp [depart]), if_pos h]

theorem transmitChoice_air {s : State} (depart : s.line.departSlot = false) (heat : s.line.heatSlot = false)
    (h : s.line.airSlot = true) : transmitChoice s = beginFrame (.air (s.lead.probe.getD 0)) s := by
  unfold transmitChoice
  rw [if_neg (by simp [depart]), if_neg (by simp [heat]), if_pos h]

/-- No claim waits: the best notice is begun, and without one the stream is asked (R87). -/
def State.noClaim (s : State) : Prop := s.line.departSlot = false ∧ s.line.heatSlot = false ∧ s.line.airSlot = false

theorem transmitChoice_notice {s : State} (unclaimed : s.noClaim) {src : Source} (best : s.notices.best = some src) :
    transmitChoice s = beginNotice src s := by
  obtain ⟨depart, heat, air⟩ := unclaimed
  unfold transmitChoice
  rw [if_neg (by simp [depart]), if_neg (by simp [heat]), if_neg (by simp [air]), best]

theorem transmitChoice_idle {s : State} (unclaimed : s.noClaim) (best : s.notices.best = none)
    (stream : s.notices.stream = none) : transmitChoice s = s := by
  obtain ⟨depart, heat, air⟩ := unclaimed
  unfold transmitChoice beginReport
  rw [if_neg (by simp [depart]), if_neg (by simp [heat]), if_neg (by simp [air]), best, stream]

theorem transmitChoice_report {s : State} (unclaimed : s.noClaim) (best : s.notices.best = none) {st : Stream}
    (stream : s.notices.stream = some st) :
    (∀ c, s.reportFrame st = some c → transmitChoice s = beginFrame c s) ∧
    (s.reportFrame st = none → transmitChoice s = { s with notices := { s.notices with stream := none } }) := by
  obtain ⟨depart, heat, air⟩ := unclaimed
  unfold transmitChoice beginReport
  rw [if_neg (by simp [depart]), if_neg (by simp [heat]), if_neg (by simp [air]), best, stream]
  exact ⟨fun c h => by simp only [h], fun h => by simp only [h]⟩

theorem beginNotice_condition {src : Source} (cond : src.isCondition = true) (s : State) :
    beginNotice src s = beginFrame (.notice src (s.conditionArg src) false) s := if_pos cond

theorem beginNotice_edge {src : Source} (edge : src.isCondition = false) (s : State) :
    beginNotice src s = beginFrame (.notice src (s.notices.get src).inst.arg (s.notices.get src).inst.more)
      (modifySource src .take s) := if_neg (by simp [edge])

theorem State.advance_conditionArg (s : State) (t : Nat) (src : Source) : (s.advance t).conditionArg src = s.conditionArg src := by
  cases src <;> rfl

theorem State.advance_reportFrame (s : State) (t : Nat) (st : Stream) : (s.advance t).reportFrame st = s.reportFrame st := by
  obtain ⟨kind, next, first⟩ := st
  cases kind <;> rfl

theorem State.starvedMinutes_eq {s : State} {latest : Int} (h : s.lead.latest = some latest) (lowest : -18000 ≤ latest) :
    (s.starvedMinutes : Int) = if latest ≤ 0 then -latest / 60 else 0 := by
  unfold State.starvedMinutes
  rw [h]
  dsimp only
  split <;> omega

theorem SheetEntry.notOk_eq (e : SheetEntry) : e.notOk = e.result.any fun v => decide (v.1 ≠ .ok) := by
  unfold SheetEntry.notOk
  rcases e.result with _ | ⟨v, current⟩ <;> rfl

theorem State.reportFrame_faults (s : State) (place : Nat) (first : Bool) :
    s.reportFrame { kind := .faults, next := place + 1, first := first } = match s.faults.records[place]? with
      | some r => some (.faultEntry (place + 1) (some r))
      | none => if first = true ∧ s.faults.records = [] then some (.faultEntry 0 none) else none := rfl

theorem State.reportFrame_lamps (s : State) (place : Nat) (first : Bool) :
    s.reportFrame { kind := .lamps, next := place + 1, first := first } = match s.lamps.sheet.entries[place]? with
      | some e => some (.lampEntry e.step (some e))
      | none => if first = true ∧ s.lamps.sheet.entries = [] then some (.lampEntry 0 none) else none := rfl

/-- Settles O37, by the order of the transmit choice. -/
theorem idleBeginsTheFirstWaitingFrame : Obligations.IdleBeginsTheFirstWaitingFrame := by
  refine ⟨fun t s => ⟨fun barred => ?_, fun on status idle => ⟨fun content waits => ?_, fun depart heat air => ⟨?_, ?_, ?_⟩⟩⟩,
    fun s => ⟨?_, rfl, rfl, fun latest h lowest => State.starvedMinutes_eq h lowest, fun level h => ?_,
      fun place first => ⟨fun r h => ?_, fun h => ?_, fun e h => ?_, fun h => ?_⟩, fun next first => ?_⟩⟩
  · have closed : (s.advance t).mayContend = false := by
      rcases barred with h | h | h
      · simp [State.mayContend, h]
      · simp [State.mayContend, h]
      · obtain ⟨f, flies⟩ := Option.isSome_iff_exists.mp h
        simp [State.mayContend, flies]
    exact congrArg Host.Outcome.next (if_neg (by simp [closed]))
  · rw [execLineIdle_contending on status idle]
    refine congrArg Host.Outcome.next ?_
    rcases waits with ⟨depart, e⟩ | ⟨depart, heat, e⟩ | ⟨depart, heat, ⟨air, e⟩ | ⟨air, src, best, cond, e⟩ | ⟨air, best, st, runs, e⟩⟩
    · rw [transmitChoice_depart (s := s.advance t) depart, e]; rfl
    · rw [transmitChoice_heat (s := s.advance t) depart heat, e]; rfl
    · rw [transmitChoice_air (s := s.advance t) depart heat air, e]; rfl
    · rw [transmitChoice_notice (s := s.advance t) ⟨depart, heat, air⟩ best, beginNotice_condition cond, State.advance_conditionArg, e]; rfl
    · exact (transmitChoice_report (s := s.advance t) ⟨depart, heat, air⟩ best runs).1 content (by rw [State.advance_reportFrame, e])
  · intro src content best edge e
    refine ⟨_, execLineIdle_contending on status idle t, ?_⟩
    rw [transmitChoice_notice (s := s.advance t) ⟨depart, heat, air⟩ best, beginNotice_edge edge, e]
    exact ⟨rfl, Notices.get_set_self _ _ _, fun other differs => Notices.get_set_other differs.symm⟩
  · intro best stream
    rw [execLineIdle_contending on status idle, transmitChoice_idle (s := s.advance t) ⟨depart, heat, air⟩ best stream]
  · intro st best runs ended
    rw [execLineIdle_contending on status idle]
    exact congrArg Host.Outcome.next ((transmitChoice_report (s := s.advance t) ⟨depart, heat, air⟩ best runs).2
      (by rw [State.advance_reportFrame, ended]))
  · rintro src (e | e) <;> subst e <;> simp only [State.conditionArg, State.identity] <;> cases s.bay.session <;> rfl
  · simp [State.conditionArg, h]
  · rw [State.reportFrame_faults, h]
  · rw [State.reportFrame_faults, List.getElem?_eq_none h]
  · rw [State.reportFrame_lamps, h]
  · rw [State.reportFrame_lamps, List.getElem?_eq_none h]
  · refine ⟨s.bayStatus, rfl, rfl, rfl, rfl, rfl, rfl, rfl, rfl, rfl, rfl, rfl, rfl, rfl, ?_, ?_, s.notices.maskedPending_bit⟩
    · simp only [State.bayStatus, Sheet.notOk, SheetEntry.notOk_eq]
    · simp only [State.bayStatus, Sheet.blockingNotOk, SheetEntry.notOk_eq]

end Sys2Proof.Machine
end

section
/-! SUPPORT. The answers of a fault pass: an entry filed and the next asked for (O16), and the end mark (O17). -/

namespace Sys2Proof.Machine

open Sys2Proof

/-! ### An answer taken in time -/

/-- An answer that fits its request and comes within the 250 ms is a success (R24, R25). -/
theorem takeReply_succeeds {s : State} {t tag : Nat} {fits : Request → Bool} {onSuccess : Transaction → State → State}
    {x : Transaction} (busy : s.link.busy = some x) (same : x.tag = tag) (time : max s.now t ≤ x.timer)
    (fit : fits x.request = true) :
    takeReply t tag fits onSuccess s = settle (onSuccess x { s.advance t with
      link := { s.link with busy := none, failureRun := 0 } }) := by
  unfold takeReply
  dsimp only
  rw [judgeReply_succeeds (s := s.advance t) busy same time fit]
  rfl

/-! ### The end mark -/

theorem Faults.completePass_of_current {f : Faults} {k : CurrentPass} (h : f.current = some k) :
    f.completePass = { f with
      current := none, figure := some k.entries,
      records := f.records.map fun r =>
        if r.origin = .coach ∧ r.stamp ≠ some k.number then { r with active := false } else r } := by
  unfold Faults.completePass
  rw [h]

/-- Settles O17: no check and no pass may start, so the list stands as the pass leaves it. -/
theorem endMarkCompletesThePass : Obligations.EndMarkCompletesThePass := by
  intro t tag x c k s busy request live same time pass current owed lamps
  have effect : exec (.faultNextEndMark t tag) s = .next (settle (completePass { s.advance t with
      link := { s.link with busy := none, failureRun := 0 } })) := by
    refine congrArg Host.Outcome.next ((takeReply_succeeds busy same time (by rw [request]; rfl)).trans ?_)
    rw [if_pos ⟨live, pass⟩]
  have check : State.checkBlocked (completePass { s.advance t with link := { s.link with busy := none, failureRun := 0 } }) :=
    lamps.imp id fun complete => .inl complete
  have still : State.passBlocked (completePass { s.advance t with link := { s.link with busy := none, failureRun := 0 } }) :=
    .inl owed
  refine ⟨_, effect, (settle_pass_blocked still).1, (settle_reacted _).failureRun, ?_⟩
  rw [settle_faults_blocked check still]
  exact Faults.completePass_of_current current

/-! ### The inactive record that gives way -/

/-- One record at its place goes before another at its own (R45): seen last earlier, then seen first earlier, then nearer the front. -/
def FaultRecord.goesBefore (r : FaultRecord) (i : Nat) (r' : FaultRecord) (j : Nat) : Prop :=
  r.lastSeen < r'.lastSeen ∨ (r.lastSeen = r'.lastSeen ∧
    (r.firstSeen < r'.firstSeen ∨ (r.firstSeen = r'.firstSeen ∧ i ≤ j)))

/-- The inactive record at a place goes before every other (R45). -/
def isVictim (l : List FaultRecord) (i : Nat) (r : FaultRecord) : Prop :=
  l[i]? = some r ∧ r.active = false ∧
    ∀ (j : Nat) (r' : FaultRecord), l[j]? = some r' → r'.active = false → r.goesBefore i r' j

theorem FaultRecord.olderThan_iff (a b : FaultRecord) :
    a.olderThan b = true ↔ a.lastSeen < b.lastSeen ∨ (a.lastSeen = b.lastSeen ∧ a.firstSeen < b.firstSeen) := by
  simp [FaultRecord.olderThan]

theorem inactiveVictim_spec (l : List FaultRecord) :
    (inactiveVictim l = none → ∀ r ∈ l, r.active = true) ∧
    (∀ i r, inactiveVictim l = some (i, r) → isVictim l i r) := by
  induction l with
  | nil => exact ⟨by simp, fun i r h => by cases h⟩
  | cons r rest ih =>
    obtain ⟨all, victim⟩ := ih
    unfold inactiveVictim
    cases found : inactiveVictim rest with
    | none =>
      dsimp only
      split
      · next active =>
        exact ⟨fun _ => by simpa using ⟨active, all found⟩, fun i v h => by cases h⟩
      · next inactive =>
        refine ⟨nofun, fun i v h => ?_⟩
        cases h
        refine ⟨rfl, by simpa using inactive, fun j r' at_ idle => ?_⟩
        cases j with
        | zero => cases at_; exact .inr ⟨rfl, .inr ⟨rfl, le_refl _⟩⟩
        | succ j =>
          have live := all found r' (List.mem_of_getElem? at_)
          rw [live] at idle
          cases idle
    | some best =>
      obtain ⟨i, v⟩ := best
      obtain ⟨place, idle, least⟩ := victim i v found
      dsimp only
      split
      · next first =>
        simp only [Bool.and_eq_true, Bool.not_eq_true'] at first
        obtain ⟨inactive, older⟩ := first
        rw [← Bool.not_eq_true, FaultRecord.olderThan_iff] at older
        refine ⟨nofun, fun j r' h => ?_⟩
        cases h
        refine ⟨rfl, inactive, fun j r' at_ idle' => ?_⟩
        cases j with
        | zero => cases at_; exact .inr ⟨rfl, .inr ⟨rfl, le_refl _⟩⟩
        | succ j =>
          have later := least j r' at_ idle'
          unfold FaultRecord.goesBefore at later ⊢
          omega
      · next second =>
        refine ⟨nofun, fun j r' h => ?_⟩
        cases h
        refine ⟨place, idle, fun j r' at_ idle' => ?_⟩
        cases j with
        | zero =>
          cases at_
          simp only [Bool.and_eq_true, Bool.not_eq_true', not_and, Bool.not_eq_false] at second
          rcases (FaultRecord.olderThan_iff _ _).mp (second idle') with k | ⟨k, k'⟩
          · exact .inl k
          · exact .inr ⟨k, .inl k'⟩
        | succ j =>
          have later := least j r' at_ idle'
          unfold FaultRecord.goesBefore at later ⊢
          omega

/-- There is one such record, and it is the one evicted. -/
theorem inactiveVictim_of_isVictim {l : List FaultRecord} {i : Nat} {r : FaultRecord} (h : isVictim l i r) :
    inactiveVictim l = some (i, r) := by
  obtain ⟨place, idle, least⟩ := h
  obtain ⟨all, victim⟩ := inactiveVictim_spec l
  cases found : inactiveVictim l with
  | none =>
    rw [all found r (List.mem_of_getElem? place)] at idle
    cases idle
  | some best =>
    obtain ⟨j, v⟩ := best
    obtain ⟨place', idle', least'⟩ := victim j v found
    have one := least j v place' idle'
    have two := least' i r place idle
    have same : j = i := by unfold FaultRecord.goesBefore at one two; omega
    subst same
    rw [place] at place'
    cases place'
    rfl

theorem inactiveVictim_of_active {l : List FaultRecord} (h : ∀ r ∈ l, r.active = true) : inactiveVictim l = none := by
  cases found : inactiveVictim l with
  | none => rfl
  | some best =>
    obtain ⟨i, v⟩ := best
    obtain ⟨place, idle, _⟩ := (inactiveVictim_spec l).2 i v found
    rw [h v (List.mem_of_getElem? place)] at idle
    cases idle

/-! ### A coach entry filed -/

/-- The offer a fault entry makes. -/
def coachOffer (module code : Nat) (severity : Severity) (count : Nat) : Offer :=
  { origin := .coach, module := module, code := code, severity := severity, count := count }

theorem coachOffer_matches (r : FaultRecord) (module code : Nat) (severity : Severity) (count : Nat) :
    r.matchesOffer (coachOffer module code severity count) = true ↔ r.origin = .coach ∧ r.module = module ∧ r.code = code := by
  unfold FaultRecord.matchesOffer
  simp only [Bool.and_eq_true, decide_eq_true_eq, and_assoc]
  exact Iff.rfl

/-- What an offer does to the list where a session is open: the list it leaves, and the code of a BLOCKING record lost (R43 to R47). -/
theorem offerFault_of_open {s : State} (on : s.sessionOpen = true) (o : Offer) :
    (∀ f, s.faults.take o s.uptime = (f, none) → offerFault o s = { s with faults := f }) ∧
    (∀ f code, s.faults.take o s.uptime = (f, some code) → offerFault o s = loseBlocking code { s with faults := f }) := by
  unfold offerFault
  rw [if_pos on]
  exact ⟨fun f h => by simp only [h], fun f code h => by simp only [h]⟩

theorem Faults.take_merges {f : Faults} {o : Offer} (h : ∃ r ∈ f.records, r.matchesOffer o = true) (sec : Nat) :
    f.take o sec = ({ f with
      records := f.records.map fun r =>
        if r.matchesOffer o then r.merge o (f.current.map (·.number)) sec else r }, none) := by
  unfold Faults.take
  exact if_pos (List.any_eq_true.mpr h)

/-- A newcomer in a list with room, and in a full one with an inactive record, with none in either mode (R43, R45, R46). -/
theorem Faults.take_newcomer {f : Faults} {o : Offer} (new : ∀ r ∈ f.records, ¬r.matchesOffer o = true) (sec : Nat) :
    (f.records.length < 24 →
      f.take o sec = ({ f with records := f.records ++ [o.record (f.current.map (·.number)) sec] }, none)) ∧
    (24 ≤ f.records.length →
      (∀ i r, isVictim f.records i r →
        f.take o sec = ({ f with records := f.records.eraseIdx i ++ [o.record (f.current.map (·.number)) sec] }, none)) ∧
      ((∀ r ∈ f.records, r.active = true) →
        (f.retention = .newest → ∀ first rest, f.records = first :: rest →
          f.take o sec = ({ f with records := rest ++ [o.record (f.current.map (·.number)) sec] },
            if first.severity = .blocking then some first.code else none)) ∧
        (f.retention = .first → f.take o sec = (f, if o.severity = .blocking then some o.code else none)))) := by
  have unmatched : ¬(f.records.any fun r => r.matchesOffer o) = true := by
    rw [List.any_eq_true]
    rintro ⟨r, mem, same⟩
    exact new r mem same
  unfold Faults.take
  dsimp only
  rw [if_neg unmatched]
  refine ⟨fun room => if_pos room, fun full => ?_⟩
  rw [if_neg (show ¬f.records.length < Config.listPlaces from Nat.not_lt.mpr full)]
  refine ⟨fun i r victim => by rw [inactiveVictim_of_isVictim victim], fun active => ?_⟩
  rw [inactiveVictim_of_active active]
  refine ⟨fun mode first rest e => ?_, fun mode => ?_⟩
  · rw [mode, e]; rfl
  · rw [mode]

/-- The blocks the taking of an entry leaves: the next asked for, or at the limit the pass given up and none owed (R36, R37). -/
theorem takeEntry_of_pass {s : State} {p : Pass} (pass : s.link.pass = some p) (up : s.link.state = .up)
    (module code : Nat) (severity : Severity) (count next : Nat) :
    let taken := offerFault (coachOffer module code severity (max 1 count)) { s with faults := s.faults.countEntry }
    takeEntry module code severity count next s =
      if 255 ≤ p.count + 1 then
        { taken with
          link := { s.link with pass := none, faultReq := none, busy := s.link.busy.map (·.disownFault) },
          faults := { taken.faults with current := none } }
      else { taken with link := { s.link with pass := some { cursor := next, count := p.count + 1 }, faultReq := some next } } := by
  have link : (offerFault (coachOffer module code severity (max 1 count)) { s with faults := s.faults.countEntry }).link = s.link := by
    simp
  unfold takeEntry takeCoachEntry
  rw [pass]
  unfold coachOffer at link ⊢
  generalize offerFault _ _ = taken at link ⊢
  dsimp only [Config.passLimit]
  rw [link]
  by_cases last : 255 ≤ p.count + 1
  · refine (if_pos last).trans (Eq.trans ?_ (if_pos last).symm)
    simp [abandonPass]
  · refine (if_neg last).trans (Eq.trans ?_ (if_neg last).symm)
    simp [raiseFaultNext, up]

/-- A FAULT_NEXT asked for is asked for after the reactions, where no pass may start. -/
theorem settle_asks_entry {s : State} (pass : s.passBlocked) (c : Nat) :
    (settle s).link.asks (.faultNext c) = s.link.asks (.faultNext c) := by
  obtain ⟨k1, entry1, _⟩ := react_of_passBlocked pass
  obtain ⟨k2, entry2, _⟩ := react_of_passBlocked k1
  obtain ⟨busy1, _⟩ := react_requests s
  obtain ⟨busy2, _⟩ := react_requests (react s)
  rw [settle_link, arbitrate_asks]
  generalize react (react s) = b at *
  rw [startPass_blocked k2]
  simp [Link.asks, busy1, busy2, entry1, entry2]

/-- The state an answer leaves before its own consequences: the wires free and the failure run at 0 (R25). -/
def State.answered (s : State) (t : Nat) : State := { s.advance t with link := { s.link with busy := none, failureRun := 0 } }

/-- The state after the entry of the pass has been offered. -/
def State.filed (s : State) (t : Nat) (module code : Nat) (severity : Severity) (count : Nat) : State :=
  offerFault (coachOffer module code severity (max 1 count)) { s.answered t with faults := s.faults.countEntry }

/-- An entry's answer ends in the list as the offer leaves it, with the pass gone on or given up. -/
theorem execFaultNextEntry_filed {t tag module code count next : Nat} {severity : Severity} {x : Transaction} {c : Nat}
    {p : Pass} {s : State} (busy : s.link.busy = some x) (request : x.request = .faultNext c) (live : x.live = true)
    (same : x.tag = tag) (time : max s.now t ≤ x.timer) (pass : s.link.pass = some p) (up : s.link.state = .up)
    (owed : s.link.passOwed = false) (lamps : s.lamps.running = true ∨ s.lamps.sheet.state = .complete)
    (fits : module ≤ 255 ∧ code ≤ 65535 ∧ count ≤ 255 ∧ next ≤ 65535) :
    ∃ u : State, exec (.faultNextEntry t tag module code severity count next) s = .next u ∧
      u.link.failureRun = 0 ∧ u.bay.session = s.bay.session ∧ u.faults.figure = s.faults.figure ∧
      (p.count + 1 < 255 → u.link.pass = some { cursor := next, count := p.count + 1 } ∧
        u.link.asks (.faultNext next) = true ∧ u.faults.current = s.faults.countEntry.current) ∧
      (255 ≤ p.count + 1 → u.link.pass = none ∧ u.link.passOwed = false ∧ u.faults.current = none) ∧
      u.faults.records = (s.filed t module code severity count).faults.records ∧
      u.faults.blockingLost = (s.filed t module code severity count).faults.blockingLost ∧
      ∀ arg, u.notices.tells .blockingLost arg = (s.filed t module code severity count).notices.tells .blockingLost arg := by
  obtain ⟨hm, hc, hn, hx⟩ := fits
  have effect : exec (.faultNextEntry t tag module code severity count next) s =
      .next (settle (takeEntry module code severity count next (s.answered t))) := by
    refine congrArg Host.Outcome.next ((takeReply_succeeds busy same time (by
      rw [request]; simp [Request.isFaultNext, hm, hc, hn, hx])).trans ?_)
    rw [if_pos live]
    rfl
  have entry := takeEntry_of_pass (s := s.answered t) pass up module code severity count next
  change _ = if 255 ≤ p.count + 1 then
      { s.filed t module code severity count with
        link := { s.link with busy := none, failureRun := 0, pass := none, faultReq := none },
        faults := { (s.filed t module code severity count).faults with current := none } }
    else { s.filed t module code severity count with
      link := { s.link with busy := none, failureRun := 0, pass := some { cursor := next, count := p.count + 1 }, faultReq := some next } }
    at entry
  have kept : (s.filed t module code severity count).lamps = s.lamps ∧ (s.filed t module code severity count).bay = s.bay ∧
      (s.filed t module code severity count).faults.figure = s.faults.figure ∧
      (s.filed t module code severity count).faults.current = s.faults.countEntry.current := by
    simp [State.filed, State.answered, Faults.countEntry]
  generalize s.filed t module code severity count = taken at *
  obtain ⟨lamps', bay, figure, current⟩ := kept
  rw [← lamps'] at lamps
  generalize takeEntry module code severity count next (s.answered t) = a at effect entry
  have stands : a.lamps = taken.lamps ∧ a.bay = taken.bay ∧ a.notices = taken.notices ∧ a.link.failureRun = 0 ∧
      a.link.passOwed = false ∧ a.faults.records = taken.faults.records ∧ a.faults.blockingLost = taken.faults.blockingLost ∧
      a.faults.figure = taken.faults.figure := by
    rw [entry]
    split <;> exact ⟨rfl, rfl, rfl, rfl, owed, rfl, rfl, rfl⟩
  obtain ⟨lampsA, bayA, noticesA, runA, owedA, recordsA, lostA, figureA⟩ := stands
  have check : a.checkBlocked := by
    rw [← lampsA] at lamps
    exact lamps.imp id .inl
  have faults := settle_faults_blocked check (.inl owedA)
  obtain ⟨passU, owedU⟩ := settle_pass_blocked (s := a) (.inl owedA)
  refine ⟨settle a, effect, (settle_reacted a).failureRun.trans runA,
    (settle_reacted a).session.trans (by rw [bayA, bay]), by rw [faults, figureA, figure], fun more => ?_, fun full => ?_,
    by rw [faults, recordsA], by rw [faults, lostA], fun arg => ?_⟩
  · rw [if_neg (Nat.not_le.mpr more)] at entry
    refine ⟨passU.trans (by rw [entry]), ?_, by rw [faults, entry]; exact current⟩
    rw [settle_asks_entry (.inl owedA), entry]
    simp [Link.asks]
  · rw [if_pos full] at entry
    exact ⟨passU.trans (by rw [entry]), owedU.trans owedA, by rw [faults, entry]⟩
  · rw [settle_tells_blocked check rfl, noticesA]

/-- Settles O16, by what the list does with the offer: merge it, append it, or put it into a full list. -/
theorem faultEntryIsFiledAndTheNextAskedFor : Obligations.FaultEntryIsFiledAndTheNextAskedFor := by
  intro t tag module code severity count next x c p k s busy request live same time pass up on current owed lamps hm hc hn hx
  obtain ⟨u, effect, run, session, figure, more, full, records, lost, tells⟩ :=
    execFaultNextEntry_filed busy request live same time pass up owed lamps ⟨hm, hc, hn, hx⟩
  have counted : s.faults.countEntry.current = some { k with entries := min 255 (k.entries + 1) } := by
    simp [Faults.countEntry, current]
  have number : s.faults.countEntry.current.map (·.number) = some k.number := by rw [counted]; rfl
  obtain ⟨kept, gone⟩ := offerFault_of_open (s := { s.answered t with faults := s.faults.countEntry }) on
    (coachOffer module code severity (max 1 count))
  have isMatch := fun r => coachOffer_matches r module code severity (max 1 count)
  refine ⟨u, effect, run, session, figure, fun h => ?_, full, fun known => ?_, fun new newcomer e => ?_⟩
  · rw [← counted]; exact more h
  · have merged := Faults.take_merges (f := s.faults.countEntry) (known.imp fun r h => ⟨h.1, (isMatch r).mpr h.2⟩)
      (max s.now t / 1000)
    rw [records, State.filed, kept _ merged]
    refine List.map_congr_left fun r _ => ?_
    by_cases same : r.origin = .coach ∧ r.module = module ∧ r.code = code
    · rw [if_pos ((isMatch r).mpr same), if_pos same, number]
      rfl
    · rw [if_neg (mt (isMatch r).mp same), if_neg same]
  · have record : (coachOffer module code severity (max 1 count)).record (s.faults.countEntry.current.map (·.number))
        (max s.now t / 1000) = newcomer := by rw [e, number]; rfl
    obtain ⟨appended, crowding⟩ := Faults.take_newcomer (f := s.faults.countEntry) (fun r mem => mt (isMatch r).mp (new r mem))
      (max s.now t / 1000)
    rw [record] at appended crowding
    refine ⟨fun room => ?_, fun crowded => ⟨fun i r place idle least => ?_, fun active => ?_⟩⟩
    · rw [records, State.filed, kept _ (appended room)]
      rfl
    · rw [records, lost, State.filed, kept _ ((crowding crowded).1 i r ⟨place, idle, least⟩)]
      exact ⟨rfl, rfl⟩
    · obtain ⟨evicts, drops⟩ := (crowding crowded).2 active
      refine ⟨fun newest first rest list => ?_, fun first => ?_⟩
      · have taken := evicts newest first rest list
        by_cases blocking : first.severity = .blocking
        · rw [if_pos blocking] at taken
          rw [records, lost, tells, State.filed, gone _ _ taken]
          exact ⟨rfl, fun _ => ⟨rfl, raiseEdge_tells _ _ _⟩, fun no => absurd blocking no⟩
        · rw [if_neg blocking] at taken
          rw [records, lost, State.filed, kept _ taken]
          exact ⟨rfl, fun yes => absurd yes blocking, fun _ => rfl⟩
      · have taken := drops first
        by_cases blocking : severity = .blocking
        · rw [show (coachOffer module code severity (max 1 count)).severity = severity from rfl, if_pos blocking] at taken
          rw [records, lost, tells, State.filed, gone _ _ taken]
          exact ⟨rfl, fun _ => ⟨rfl, raiseEdge_tells _ _ _⟩, fun no => absurd blocking no⟩
        · rw [show (coachOffer module code severity (max 1 count)).severity = severity from rfl, if_neg blocking] at taken
          rw [records, lost, State.filed, kept _ taken]
          exact ⟨rfl, fun yes => absurd yes blocking, fun _ => rfl⟩

end Sys2Proof.Machine
end

section
/-! SUPPORT. The flash verdict (O30) and the departure's timers with the tests they read (O50). -/

namespace Sys2Proof.Machine

open Sys2Proof

/-! ### The flash verdict -/

theorem worse_flash (fast slow duty : Prop) [Decidable fast] [Decidable slow] [Decidable duty] :
    worse (worse (if fast then .fast else .ok) (if slow then .slow else .ok)) (if duty then .duty else .ok) =
      if duty then Verdict.duty else if fast then .fast else if slow then .slow else .ok := by
  by_cases hd : duty <;> by_cases hf : fast <;> by_cases hs : slow <;> simp only [hd, hf, hs, if_true, if_false] <;> rfl

/-- The on-time of a capture: what each fall has after the rise before it, over the periods closed (R70). -/
theorem onTime_eq {rises falls : List Nat} (h : rises.length ≤ falls.length + 1) :
    ((falls.zip rises.dropLast).map fun p => p.1 - p.2).sum =
      ((List.range (rises.length - 1)).map fun n => falls.getD n 0 - rises.getD n 0).sum := by
  congr 1
  refine List.ext_getElem (by simp; omega) fun n _ closed => ?_
  have inside : n < rises.length - 1 := by simpa using closed
  rw [List.getElem_map, List.getElem_map, List.getElem_zip, List.getElem_dropLast, List.getElem_range,
    List.getD_eq_getElem _ _ (by omega), List.getD_eq_getElem _ _ (by omega)]

/-- The verdict of a capture with two rising edges or more that is not lit throughout (R70). -/
theorem flashVerdict_of_rises (img : Image) {x : Capture} (lit : ¬(x.litAtOpening = true ∧ x.fallen = false))
    {first second : Nat} {more : List Nat} (rises : x.rises = first :: second :: more) :
    flashVerdict img x =
      (let span := (second :: more).getLast (by simp) - first
      let average := span / (x.rises.length - 1)
      let duty := 100 * ((x.falls.zip x.rises.dropLast).map fun p => p.1 - p.2).sum / span
      if duty < img.leastDuty ∨ img.greatestDuty < duty then .duty
      else if average < img.shortestPeriod then .fast
      else if img.longestPeriod < average then .slow
      else .ok) := by
  have dark : ¬(x.litAtOpening && !x.fallen) = true := by simpa using lit
  unfold flashVerdict
  rw [if_neg dark, rises]
  exact worse_flash _ _ _

/-- Settles O30: the worst of three tests is the first that applies in the order DUTY, FAST, SLOW. -/
theorem reversedFlashLimitsFailEveryLamp : Obligations.ReversedFlashLimitsFailEveryLamp := by
  intro img x
  have stuck (on : x.litAtOpening = true) (stays : x.fallen = false) : flashVerdict img x = .stuckOn :=
    if_pos (by simp [on, stays])
  refine ⟨stuck, fun lit few => ?_, fun first last average duty onTime lit two closed head end_ hav hon hduty => ?_,
    fun two reversed => ?_⟩
  · have dark : ¬(x.litAtOpening && !x.fallen) = true := by simpa using lit
    unfold flashVerdict
    rw [if_neg dark]
    rcases rises : x.rises with _ | ⟨first, _ | ⟨second, more⟩⟩
    · rfl
    · rfl
    · rw [rises] at few; simp at few
  · rcases rises : x.rises with _ | ⟨first', _ | ⟨second, more⟩⟩
    · simp [rises] at two
    · simp [rises] at two
    · have begun : first' = first := by simpa [rises] using head
      have done : (second :: more).getLast (by simp) = last := by
        simpa [rises, List.getLast?_cons_cons, List.getLast?_eq_some_getLast] using end_
      rw [flashVerdict_of_rises img lit rises, onTime_eq closed, ← hon]
      subst begun
      dsimp only
      rw [done, ← hav, ← hduty]
  · rcases rises : x.rises with _ | ⟨first, _ | ⟨second, more⟩⟩
    · simp [rises] at two
    · simp [rises] at two
    · by_cases lit : x.litAtOpening = true ∧ x.fallen = false
      · rw [stuck lit.1 lit.2]; decide
      · rw [flashVerdict_of_rises img lit rises]
        dsimp only
        split
        · decide
        · next fair =>
          split
          · decide
          · next slower =>
            split
            · decide
            · next faster => omega

/-! ### The tests the departure reads (R146, R147, R106) -/

theorem State.identityHolds_iff (s : State) : (s.dep.assignment.isSome && s.identityHolds) = true ↔
    ∃ coach id, s.dep.assignment = some coach ∧ s.bay.session = .opened id ∧ (coach = 0 ∨ coach = id.coach) := by
  unfold State.identityHolds State.identity
  cases s.dep.assignment <;> cases s.bay.session <;> simp

theorem Sheet.blocks_eq_false_iff (sh : Sheet) : sh.blocks = false ↔
    sh.state = .complete ∧ ∀ e ∈ sh.entries, e.blocking = true → e.result.all (fun v => decide (v.1 = .ok)) = true := by
  have fine (e : SheetEntry) : e.notOk = false ↔ e.result.all (fun v => decide (v.1 = .ok)) = true := by
    rw [SheetEntry.notOk_eq]
    cases e.result <;> simp
  unfold Sheet.blocks Sheet.blockingNotOk
  simp only [Bool.or_eq_false_iff, decide_eq_false_iff_not, not_not, not_lt, Nat.le_zero, List.length_eq_zero_iff,
    List.filter_eq_nil_iff, Bool.and_eq_true, not_and, Bool.not_eq_true, fine]

theorem Faults.blocks_eq_false_iff (f : Faults) : f.blocks = false ↔
    f.blockingLost = false ∧ ∀ r ∈ f.records, r.active = true → r.severity ≠ .blocking := by
  rw [← Bool.not_eq_true, Faults.blocks_iff]
  simp

theorem State.countdownAtMost_iff (s : State) (limit : Int) :
    s.countdownAtMost limit = true ↔ ∃ countdown, s.dep.countdown = some countdown ∧ countdown ≤ limit := by
  unfold State.countdownAtMost
  cases s.dep.countdown <;> simp

theorem State.heatHolds_iff (s : State) : s.heatHolds = true ↔
    s.start.image.stages = 0 ∨ s.lead.lead = 0 ∨ s.heat.state = .maintain ∨ s.countdownAtMost 0 = true ∨ s.dep.waiveHeat = true := by
  unfold State.heatHolds State.countdownAtMost
  cases s.dep.countdown <;> simp [or_assoc]

theorem State.coachConditions_iff (s : State) : s.coachConditions = true ↔ ∃ (coach : Nat) (id : Identity),
    s.dep.assignment = some coach ∧ s.bay.session = .opened id ∧ (coach = 0 ∨ coach = id.coach) ∧
    ((s.lamps.sheet.state = .complete ∧
        ∀ e ∈ s.lamps.sheet.entries, e.blocking = true → e.result.all (fun v => decide (v.1 = .ok)) = true) ∨
      s.dep.waiveLamp = true) ∧
    ((s.faults.blockingLost = false ∧ ∀ r ∈ s.faults.records, r.active = true → r.severity ≠ .blocking) ∨
      s.dep.waiveFault = true) ∧
    (s.start.image.stages = 0 ∨ s.lead.lead = 0 ∨ s.heat.state = .maintain ∨ s.countdownAtMost 0 = true ∨
      s.dep.waiveHeat = true) := by
  unfold State.coachConditions
  rw [Bool.and_eq_true, Bool.and_eq_true, Bool.and_eq_true, State.identityHolds_iff, State.heatHolds_iff, Bool.or_eq_true,
    Bool.or_eq_true, Bool.not_eq_true', Bool.not_eq_true', Sheet.blocks_eq_false_iff, Faults.blocks_eq_false_iff]
  constructor
  · rintro ⟨⟨⟨⟨coach, id, assigned, opened, meant⟩, lamps⟩, faults⟩, heat⟩
    exact ⟨coach, id, assigned, opened, meant, lamps, faults, heat⟩
  · rintro ⟨coach, id, assigned, opened, meant, lamps, faults, heat⟩
    exact ⟨⟨⟨⟨coach, id, assigned, opened, meant⟩, lamps⟩, faults⟩, heat⟩

theorem State.lineConditions_iff (s : State) :
    s.lineConditions = true ↔ s.line.status = .normal ∧ s.line.conflict = false := by
  simp [State.lineConditions, State.lineFault]

theorem Peers.freshHolding_iff (p : Peers) :
    p.freshHolding = true ↔ ∃ e ∈ p.entries, ∃ part : DepartPart, e.depart = some part ∧ part.state = .holding := by
  unfold Peers.freshHolding
  rw [List.any_eq_true]
  refine exists_congr fun e => and_congr_right fun _ => ?_
  cases e.depart <;> simp

theorem PeerEntry.contender_eq_some {now : Nat} {e : PeerEntry} {c : Nat × ClaimState × Int} :
    e.contender now = some c ↔ ∃ part : DepartPart, e.depart = some part ∧ (part.state = .ready ∨ part.state = .settling) ∧
      c = (e.station, part.state, part.countdown - ((now - part.heard) / 1000 : Nat)) := by
  unfold PeerEntry.contender ageAdjusted
  cases e.depart with
  | none => simp
  | some part =>
    by_cases h : part.state = .ready ∨ part.state = .settling
    · simp [eq_comm]
    · simp [h]

theorem State.ranksFirst_iff {s : State} (h : s.tableRight) (own : Int) : s.ranksFirst own = true ↔
    ∀ e ∈ s.peers.entries, ∀ part : DepartPart, e.depart = some part → (part.state = .ready ∨ part.state = .settling) →
      own < part.countdown - ((s.now - part.heard) / 1000 : Nat) ∨
      (own = part.countdown - ((s.now - part.heard) / 1000 : Nat) ∧ s.ownNumber < e.station) := by
  obtain ⟨_, others, _⟩ := h
  unfold State.ranksFirst
  rw [List.all_eq_true]
  constructor
  · intro first e mem part given lane
    have key := first _ (Peers.mem_contenders.mpr ⟨e, mem, PeerEntry.contender_eq_some.mpr ⟨part, given, lane, rfl⟩⟩)
    rw [Bool.not_eq_true', Bool.eq_false_iff, ne_eq, keyBefore_iff] at key
    have apart := (others e mem).2.1
    dsimp only at key
    omega
  · intro first c mem
    obtain ⟨e, entry, contends⟩ := Peers.mem_contenders.mp mem
    obtain ⟨part, given, lane, rfl⟩ := PeerEntry.contender_eq_some.mp contends
    have key := first e entry part given lane
    rw [Bool.not_eq_true', Bool.eq_false_iff, ne_eq, keyBefore_iff]
    dsimp only
    omega

/-! ### The departure's timers -/

theorem laneBound {d : DepState} (h : d.moves = true) : d = .assigned ∨ d = .ready ∨ d = .settling := by
  cases d <;> simp_all [DepState.moves]

/-- The countdown's moves: what the rules allow has been taken at the end of the event (R150, R151). -/
theorem settle_takes_lane (s : State) :
    (s.dep.state = .assigned → (settle s).coachConditions = true → (settle s).countdownAtMost 600 = true →
      (settle s).dep.state = .ready ∨ (settle s).dep.state = .settling) ∧
    (s.dep.state = .ready → (settle s).coachConditions = true → (settle s).lineConditions = true →
      (settle s).countdownAtMost (settle s).start.image.allowance = true → (settle s).dep.hold = false →
      (settle s).peers.freshHolding = false → (settle s).ranksFirst ((settle s).dep.countdown.getD 0) = true →
      (settle s).countdownAtMost 600 = true → (settle s).dep.state = .settling) := by
  obtain ⟨near, enter⟩ := settle_laneTaken s
  have moves := (settle_reacted s).moves
  generalize settle s = u at *
  refine ⟨fun state coach close => ?_, fun state coach line short hold fresh rank close => ?_⟩
  · rcases laneBound (moves (by rw [state]; rfl)) with e | e | e
    · exact absurd ⟨coach, close⟩ (near e)
    · exact .inl e
    · exact .inr e
  · rcases laneBound (moves (by rw [state]; rfl)) with e | e | e
    · exact absurd ⟨coach, close⟩ (near e)
    · exact absurd ⟨line, short, hold, fresh, rank⟩ (enter e).2
    · exact e

/-- A departure no test moves keeps its record through the reactions, and the head shows its aspect (R19). -/
theorem settle_of_rests {s : State} (h : s.dep.state.moves = false) :
    (settle s).dep = s.dep ∧ (settle s).bay = { s.bay with aspect := aspectOf s.dep.state } := by
  have dep := (settle_reacted s).rests h
  have aspect : (settle s).bay.aspect = aspectOf (settle s).dep.state := settle_headRight s
  refine ⟨dep, ?_⟩
  rw [(settle_reacted s).bay, aspect, dep]

theorem offCondition_of_moves {s : State} (h : s.dep.state.moves = false) : s.offCondition = true := by
  have cold : s.dep.state.heats = false := by revert h; cases s.dep.state <;> simp [DepState.moves, DepState.heats]
  simp [State.offCondition, cold]

theorem Departure.move_from_settling {x : Departure} (h : x.state = .settling) :
    x.move .holding = { x with state := .holding, settleTimer := none, key := none } := by
  simp [Departure.move, h]

theorem Departure.move_from_holding {x : Departure} (h : x.state = .holding) :
    x.move .lapsed = { x with state := .lapsed, releaseTimer := none } := by
  simp [Departure.move, h]

theorem enterHolding_departSlot {s : State} (on : s.configured = true) (settling : s.dep.state = .settling) :
    (enterHolding s).line.departSlot = true := by
  have due := changeDep_departSlot (d := .holding) on (by rw [settling]; decide)
  unfold enterHolding
  simpa using due

theorem enterLapsed_departSlot {s : State} (on : s.configured = true) (holding : s.dep.state = .holding) :
    (enterLapsed s).line.departSlot = true := by
  have due := changeDep_departSlot (d := .lapsed) on (by rw [holding]; decide)
  unfold enterLapsed
  simpa using due

theorem enterHolding_lamps (s : State) : (enterHolding s).lamps = s.lamps.abandoned := by
  unfold enterHolding
  rw [abandonCheck_lamps_eq]
  simp

theorem Lamps.abandoned_running (l : Lamps) : l.abandoned.running = false := by
  unfold Lamps.abandoned
  split
  · rfl
  · next h => simpa using h

theorem enterNone_departSlot {s : State} (on : s.configured = true) (moves : s.dep.state ≠ .none) :
    (enterNone s).line.departSlot = true := by
  have due := changeDep_departSlot (d := .none) on moves.symm
  unfold enterNone
  exact due

theorem Departure.afterSession_of_none {x : Departure} (h : x.state = .none) (cause : EndCause) (coach now transit : Nat) :
    x.afterSession cause coach now transit = x := by
  unfold Departure.afterSession
  rw [h]

/-- A session end tells SESSION_ENDED with the coach (R11, R14). -/
theorem endSession_tells (cause : EndCause) (coach : Nat) (s : State) :
    (endSession cause coach s).notices.tells .sessionEnded coach = true := by
  unfold endSession Notices.tells
  rw [giveConditions_edges rfl]
  exact raiseEdge_tells _ _ _

/-- The transit over: NONE with nothing assigned, a departing session ended, and an open one as it was (R14, R157). -/
theorem transitOver_ends {s : State} (gone : s.dep.state = .gone) :
    ((transitOver s).dep.state = .none ∧ (transitOver s).dep.assignment = none ∧ (transitOver s).dep.countdown = none ∧
      (transitOver s).dep.transitTimer = none) ∧
    (transitOver s).bay.occupancy = s.bay.occupancy ∧
    (s.configured = true → (transitOver s).line.departSlot = true) ∧
    (∀ id, s.bay.session = .departing id → (transitOver s).bay.session = .none ∧
      (transitOver s).notices.tells .sessionEnded id.coach = true ∧ (transitOver s).faults.records = []) ∧
    (∀ id, s.bay.session = .opened id → (transitOver s).bay.session = .opened id ∧
      (transitOver s).dep.waiveLamp = s.dep.waiveLamp) := by
  have slot (on : s.configured = true) : (afterTransit s).line.departSlot = true :=
    enterNone_departSlot on (by rw [show ({ s with dep := { s.dep with transitTimer := none } } : State).dep.state = _ from gone]; decide)
  have cancelled : (afterTransit s).dep.state = .none ∧ (afterTransit s).dep.assignment = none ∧ (afterTransit s).dep.countdown = none ∧
      (afterTransit s).dep.transitTimer = none ∧ (afterTransit s).dep.waiveLamp = s.dep.waiveLamp := by
    rw [afterTransit_dep]
    simp [Departure.cancelled]
  obtain ⟨state, assignment, countdown, transit, waiver⟩ := cancelled
  rcases transitOver_cases s with ⟨id, departing, e⟩ | ⟨no, e⟩ <;> rw [e]
  · have ended : (endSession .departureCompleted id.coach (afterTransit s)).dep = _ := endSession_dep _ _ _
    have bay : (endSession .departureCompleted id.coach (afterTransit s)).bay = { s.bay with session := .none } := by simp
    have empty : (endSession .departureCompleted id.coach (afterTransit s)).faults.records = [] := by simp [Faults.endSession]
    have told := endSession_tells .departureCompleted id.coach (afterTransit s)
    have due := (endSession_due .departureCompleted id.coach (afterTransit s)).depart
    generalize endSession .departureCompleted id.coach (afterTransit s) = b at *
    have record : b.dep = { (afterTransit s).dep with waiveLamp := false, waiveFault := false, waiveHeat := false } := by
      rw [ended, Departure.sessionEnded, Departure.afterSession_of_none state]
    refine ⟨?_, by rw [bay], fun on => due (slot on), fun id' departing' => ?_, fun id' opened => ?_⟩
    · rw [record]
      exact ⟨state, assignment, countdown, transit⟩
    · rw [departing] at departing'
      cases departing'
      exact ⟨by rw [bay], told, empty⟩
    · rw [departing] at opened
      cases opened
  · refine ⟨⟨state, assignment, countdown, transit⟩, by simp, slot, fun id departing => absurd departing (no id), fun id opened => ?_⟩
    exact ⟨by simpa using opened, waiver⟩

/-- Settles O50: the tests are read off their definitions, and a departure no test moves stands through the reactions. -/
theorem departureTimersMoveTheState : Obligations.DepartureTimersMoveTheState := by
  refine ⟨fun s => ⟨s.coachConditions_iff, s.lineConditions_iff, s.countdownAtMost_iff, s.peers.freshHolding_iff,
    fun table own => State.ranksFirst_iff table own⟩, fun t d s h due => ?_, fun t d s h due settling => ?_,
    fun t d s h due holding => ?_, fun t d s h due gone => ?_⟩
  · have effect : exec (.countdownTick t) s = .next (settle { s.advance t with dep := { s.dep with
        countdown := s.dep.countdown.map fun c => max (-3600) (c - 1),
        nextFall := some ((max s.now t / 1000 + 1) * 1000) } }) :=
      congrArg Host.Outcome.next (onDue_at (s := s) (t := t) h due)
    obtain ⟨near, enter⟩ := settle_takes_lane { s.advance t with dep := { s.dep with
        countdown := s.dep.countdown.map fun c => max (-3600) (c - 1),
        nextFall := some ((max s.now t / 1000 + 1) * 1000) } }
    have reached := settle_reacted { s.advance t with dep := { s.dep with
        countdown := s.dep.countdown.map fun c => max (-3600) (c - 1),
        nextFall := some ((max s.now t / 1000 + 1) * 1000) } }
    generalize settle _ = u at *
    rw [reached.start] at enter
    exact ⟨u, effect, reached, near, enter⟩
  · have effect : exec (.settleTimerExpiry t) s = .next (settle (enterHolding (s.advance t))) :=
      congrArg Host.Outcome.next ((onDue_at (s := s) (t := t) h due).trans (if_pos settling))
    have dep : (enterHolding (s.advance t)).dep = { s.dep with
        state := .holding, settleTimer := none, key := none,
        releaseTimer := some (max s.now t + 1000 * s.start.image.releaseWindow) } := by
      rw [enterHolding_dep, State.advance_dep, Departure.move_from_settling settling]
      rfl
    have bay : (enterHolding (s.advance t)).bay = s.bay := by simp
    have lamps := enterHolding_lamps (s.advance t)
    have slot := fun on => enterHolding_departSlot (s := s.advance t) on settling
    generalize enterHolding (s.advance t) = a at *
    have rests : a.dep.state.moves = false := by rw [dep]; rfl
    have blocked : a.checkBlocked := .inr (.inr (.inr (.inr (.inr (by rw [dep]; rfl)))))
    obtain ⟨depU, bayU⟩ := settle_of_rests rests
    obtain ⟨off, drawn⟩ := settle_off (offCondition_of_moves rests)
    refine ⟨_, effect, depU.trans dep, ?_, off, drawn, ?_, fun running => ?_, fun on => settle_departSlot (slot on)⟩
    · rw [bayU, bay, dep]; rfl
    · rw [settle_lamps_blocked blocked, lamps]
      exact Lamps.abandoned_running _
    · rw [settle_lamps_blocked blocked, lamps]
      simp [Lamps.abandoned, Lamps.stopped, running]
  · have effect : exec (.releaseWindowExpiry t) s = .next (settle (enterLapsed (s.advance t))) :=
      congrArg Host.Outcome.next ((onDue_at (s := s) (t := t) h due).trans (if_pos holding))
    have dep : (enterLapsed (s.advance t)).dep = { s.dep with state := .lapsed, releaseTimer := none } := by
      rw [enterLapsed_dep, State.advance_dep, Departure.move_from_holding holding]
    have bay : (enterLapsed (s.advance t)).bay = s.bay := by simp
    have told : (enterLapsed (s.advance t)).notices.tells .releaseLapsed ((s.identity.map (·.coach)).getD 0) = true :=
      raiseEdge_tells _ _ _
    have slot := fun on => enterLapsed_departSlot (s := s.advance t) on holding
    generalize enterLapsed (s.advance t) = a at *
    have rests : a.dep.state.moves = false := by rw [dep]; rfl
    obtain ⟨depU, bayU⟩ := settle_of_rests rests
    refine ⟨_, effect, depU.trans dep, ?_, (settle_off (offCondition_of_moves rests)).1, fun on => settle_departSlot (slot on), ?_⟩
    · rw [bayU, bay, dep]; rfl
    · rw [settle_tells rfl (by decide) (by decide)]
      exact told
  · have effect : exec (.transitTimerExpiry t) s = .next (settle (transitOver (s.advance t))) :=
      congrArg Host.Outcome.next ((onDue_at (s := s) (t := t) h due).trans (if_pos gone))
    obtain ⟨⟨state, assignment, countdown, transit⟩, occupancy, slot, departed, opened⟩ := transitOver_ends (s := s.advance t) gone
    generalize transitOver (s.advance t) = a at *
    have rests : a.dep.state.moves = false := by rw [state]; rfl
    obtain ⟨dep, bay⟩ := settle_of_rests rests
    refine ⟨_, effect, by rw [dep, state], by rw [dep, assignment], by rw [dep, countdown], by rw [dep, transit],
      by rw [bay, state]; rfl, by rw [bay]; exact occupancy, fun on => settle_departSlot (slot on), fun id departing => ?_,
      fun id held => ?_⟩
    · obtain ⟨none', told, empty⟩ := departed id departing
      have closed : a.sessionOpen = false := by simp [State.sessionOpen, State.identity, none']
      refine ⟨by rw [bay]; exact none', ?_, ?_⟩
      · rw [settle_tells rfl (by decide) (by decide)]
        exact told
      · rw [settle_faults_blocked (.inr (.inr (.inr (.inl closed)))) (.inr (.inr (.inr (.inr (.inl closed)))))]
        exact empty
    · obtain ⟨still, waiver⟩ := opened id held
      exact ⟨by rw [bay]; exact still, by rw [dep]; exact waiver⟩

end Sys2Proof.Machine
end

section
/-! SUPPORT. The steps of a lamp check with the link UP: a measurement's end (O25), the short watch (O26), the link wait (O27). -/

namespace Sys2Proof.Machine

open Sys2Proof

/-! ### Requests of a step -/

theorem Link.loosens_of_empty {l : Link} (h : l.lampReq = none) : l.loosens = none := by
  unfold Link.loosens
  rw [h]
  split <;> simp_all

theorem Link.loosens_of_off {l : Link} {q : LampReq} (h : l.lampReq = some q) (off : q.on = false) : l.loosens = none := by
  unfold Link.loosens
  rw [h]
  split
  · next q' _ _ e => cases e; rw [off]; rfl
  · rfl

theorem Link.loosens_of_slot {l : Link} {q : LampReq} (h : l.lampReq = some q) : l.loosens = none ∨ l.loosens = some q.channel := by
  unfold Link.loosens
  rw [h]
  split
  · next q' _ _ e => cases e; cases q.on <;> simp
  · exact .inl rfl

/-- While no check may start, the reactions move of the lamps at most the loose channel, at an on that begins (R76). -/
theorem settle_lamps_still {s : State} (h : s.checkBlocked) (none : s.link.loosens = none) : (settle s).lamps = s.lamps := by
  rw [settle_lamps_blocked h, none, Option.none_or]

/-- A LAMP_SET raised for a step is asked for after the reactions; an off moves nothing of the lamps, and an on can make its channel
loose (R76). -/
theorem settle_placed {s : State} (running : s.lamps.running = true) (channel : Nat) (on live : Bool) :
    (settle (placeLampSet channel on live s)).link.asks (.lampSet channel on) = true ∧
    (on = false → (settle (placeLampSet channel on live s)).lamps = s.lamps) ∧
    ∃ loose, (loose = s.lamps.loose ∨ loose = some channel) ∧
      (settle (placeLampSet channel on live s)).lamps = { s.lamps with loose := loose } := by
  have blocked : (placeLampSet channel on live s).checkBlocked := .inl running
  have slot : (placeLampSet channel on live s).link.lampReq = some { channel := channel, on := on, live := live } := rfl
  have lamps : (placeLampSet channel on live s).lamps = s.lamps := rfl
  generalize placeLampSet channel on live s = a at *
  refine ⟨?_, fun off => ?_, ?_⟩
  · rw [settle_asks_lamp blocked]
    simp [Link.asks, slot]
  · rw [settle_lamps_still blocked (Link.loosens_of_off slot off), lamps]
  · rw [settle_lamps_blocked blocked, lamps]
    rcases Link.loosens_of_slot slot with e | e <;> rw [e]
    · exact ⟨s.lamps.loose, .inl rfl, rfl⟩
    · exact ⟨some channel, .inr rfl, rfl⟩

theorem raiseLampSet_up {s : State} (up : s.link.state = .up) (channel : Nat) (on : Bool) :
    raiseLampSet channel on s = placeLampSet channel on true s := if_pos up

theorem enterSwitchOff_up {s : State} {p : LampStep} (up : s.link.state = .up) (work : s.lamps.current = some p) :
    enterSwitchOff s = placeLampSet p.channel false true { s with lamps := { s.lamps with stage := some .switchOff } } := by
  unfold enterSwitchOff
  rw [work]
  exact if_pos up

theorem enterClearOff_up {s : State} (up : s.link.state = .up) (channel : Nat) :
    enterClearOff channel s = placeLampSet channel false true { s with lamps := { s.lamps with stage := some .clearOff } } :=
  if_pos up

theorem enterFeedOn_up {s : State} {p : LampStep} (up : s.link.state = .up) (work : s.lamps.current = some p) :
    enterFeedOn s = placeLampSet p.channel true true { s with
      lamps := { s.lamps with stage := some .feedOn, feed := true, watchTimer := some (s.now + 20) } } := by
  unfold enterFeedOn
  rw [work]
  exact if_pos up

/-- A step sent to SWITCH_OFF, after the reactions (R67). -/
theorem enterSwitchOff_settled {s : State} {p : LampStep} (running : s.lamps.running = true) (up : s.link.state = .up)
    (work : s.lamps.current = some p) :
    Reacted s (settle (enterSwitchOff s)) ∧ (settle (enterSwitchOff s)).lamps = { s.lamps with stage := some .switchOff } ∧
      (settle (enterSwitchOff s)).link.asks (.lampSet p.channel false) = true := by
  have reached := (Reacted.refl s).enterSwitchOff.settle
  rw [enterSwitchOff_up up work] at reached ⊢
  obtain ⟨asks, lamps, _⟩ := settle_placed (s := { s with lamps := { s.lamps with stage := some .switchOff } })
    running p.channel false true
  exact ⟨reached, lamps rfl, asks⟩

/-! ### A measurement's end -/

theorem measureEnds_settled {s : State} {p : LampStep} (running : s.lamps.running = true) (work : s.lamps.current = some p)
    (up : s.link.state = .up) (v : Verdict) (current : Nat) :
    Reacted s (settle (measureEnds v current s)) ∧ (settle (measureEnds v current s)).lamps = s.lamps.measuredAs v current ∧
      (settle (measureEnds v current s)).link.asks (.lampSet p.channel false) = true := by
  obtain ⟨reached, lamps, asks⟩ := enterSwitchOff_settled (s := { s with lamps := { s.lamps with
    measured := some (v, current), warmTimer := none, meanTimer := none, capture := none } }) running up work
  exact ⟨reached.rebase, lamps, asks⟩

/-- Settles O25: three ways to one end of the measurement. -/
theorem measurementsEndInSwitchOff : Obligations.MeasurementsEndInSwitchOff := by
  intro c p v current s running work up slot how
  have ends : ∀ t, exec c s = .next (settle (measureEnds v current (s.advance t))) → Instr.moment c = t →
      ∃ u : State, exec c s = .next u ∧ Reacted (s.advance (Instr.moment c)) u ∧ u.lamps = s.lamps.measuredAs v current ∧
        u.link.asks (.lampSet p.channel false) = true := by
    intro t effect at_
    obtain ⟨reached, lamps, asks⟩ := measureEnds_settled (s := s.advance t) running work up v current
    exact ⟨_, effect, by rw [at_]; exact reached, lamps, asks⟩
  rcases how with ⟨t, d, mean, rfl, timer, due, rfl, rfl⟩ | ⟨t, onMean, tailMean, x, rfl, open_, due, rfl, rfl⟩ |
    ⟨t, mean, x, rfl, open_, dark, ripe, three, rfl, rfl⟩
  · exact ends t (congrArg Host.Outcome.next (onDue_at (s := s) (t := t) timer due)) rfl
  · refine ends t ?_ rfl
    have effect : exec (.captureWindowExpiry t onMean tailMean) s =
        .next (onDue (some x.window) (fun s => settle (captureEnds x onMean tailMean s)) (s.advance t)) := by
      unfold exec execCaptureWindowExpiry
      simp only [State.advance_lamps, open_]
    rw [effect]
    exact congrArg Host.Outcome.next (onDue_due rfl due)
  · refine ends t ?_ rfl
    have may : x.lit.mayAccept true Config.litShort (s.advance t).now = true := Filter.mayAccept_of_ripe (by rw [dark]; decide) ripe
    have full : ¬(x.edge true (max s.now t)).rises.length < Config.captureEdges := by
      simp [Capture.edge, three, Config.captureEdges]
    have effect : exec (.litLevelAccepted t true mean) s =
        .next (settle (captureEnds (x.edge true (max s.now t)) mean mean (s.advance t))) := by
      unfold exec execLitLevelAccepted
      simp only [State.advance_lamps, open_]
      rw [if_pos may]
      unfold acceptLit
      exact congrArg Host.Outcome.next (if_neg full)
    rw [effect]
    unfold captureEnds
    rw [ite_self]
    rfl

/-! ### The short watch -/

/-- The lamps after a short reading, before the step moves (R66). -/
def Lamps.shorted (l : Lamps) (mean : Nat) : Lamps :=
  { l with shortTaken := true, measured := some (.short, mean), feed := false, watchTimer := none, warmTimer := none,
           meanTimer := none, capture := none }

theorem shortReading_eq {s : State} {st : Stage} (stage : s.lamps.stage = some st) (fed : st = .feedOn ∨ st = .warm ∨ st = .measure)
    (mean : Nat) :
    shortReading mean s =
      if s.link.liveLampSet then { s with lamps := s.lamps.shorted mean }
      else enterSwitchOff { s with lamps := s.lamps.shorted mean } := by
  unfold shortReading
  dsimp only [openFeed, stopStepTimers, Lamps.shorted]
  rw [stage]
  rcases fed with e | e | e <;> subst e <;> rfl

/-- Settles O26, by whether a LAMP_SET of the step is on the wires. -/
theorem shortWatchOpensTheFeed : Obligations.ShortWatchOpensTheFeed := by
  intro t mean d s timer due
  refine ⟨fun other => ?_, fun p st short running work up slot stage fed => ?_⟩
  · refine congrArg Host.Outcome.next ((onDue_at (s := s) (t := t) timer due).trans ((if_neg other).trans ?_))
    rw [State.advance_lamps, timer]
    rfl
  · have effect : exec (.shortWatchBlockEnd t mean) s = .next (settle (shortReading (sensed mean) (s.advance t))) :=
      congrArg Host.Outcome.next ((onDue_at (s := s) (t := t) timer due).trans (if_pos short))
    rw [shortReading_eq (s := s.advance t) stage fed] at effect
    have reached : Reacted (s.advance t) { s.advance t with lamps := s.lamps.shorted (sensed mean) } := (Reacted.refl _).withLamps _
    by_cases live : s.link.liveLampSet = true
    · refine ⟨_, effect.trans (congrArg (fun a => Host.Outcome.next (settle a)) (if_pos live)), reached.settle, ?_⟩
      rw [settle_lamps_still (s := { s.advance t with lamps := (s.advance t).lamps.shorted (sensed mean) }) (.inl running)
        (Link.loosens_of_empty slot)]
      exact ⟨rfl, rfl, rfl, rfl, rfl, rfl, rfl, rfl, fun _ => stage, fun no => absurd live (by simp [no])⟩
    · refine ⟨_, effect.trans (congrArg (fun a => Host.Outcome.next (settle a)) (if_neg live)), reached.enterSwitchOff.settle, ?_⟩
      obtain ⟨_, lamps, asks⟩ := enterSwitchOff_settled (s := { s.advance t with lamps := (s.advance t).lamps.shorted (sensed mean) })
        running up work
      rw [lamps]
      exact ⟨rfl, rfl, rfl, rfl, rfl, rfl, rfl, rfl, fun yes => absurd yes live, fun _ => ⟨rfl, asks⟩⟩

/-! ### The link wait -/

theorem startStep_short {s : State} {p : LampStep} (up : s.link.state = .up) (work : s.lamps.current = some p)
    (short : s.lamps.shortTaken = true) :
    startStep s = placeLampSet p.channel false true { s with lamps := { s.lamps with stage := some .switchOff } } :=
  (if_pos short).trans (enterSwitchOff_up up work)

theorem startStep_loose {s : State} {channel : Nat} (up : s.link.state = .up) (short : s.lamps.shortTaken = false)
    (loose : s.lamps.loose = some channel) :
    startStep s = placeLampSet channel false true { s with lamps := { s.lamps with measured := none, stage := some .clearOff } } := by
  unfold startStep
  rw [if_neg (by simp [short])]
  dsimp only
  split
  · next c e =>
    rw [loose] at e
    cases e
    exact enterClearOff_up (s := { s with lamps := { s.lamps with measured := none } }) up channel
  · next e => rw [loose] at e; cases e

theorem startStep_fresh {s : State} {p : LampStep} (up : s.link.state = .up) (work : s.lamps.current = some p)
    (short : s.lamps.shortTaken = false) (loose : s.lamps.loose = none) :
    startStep s = placeLampSet p.channel true true { s with lamps := { s.lamps with
      measured := none, stage := some .feedOn, feed := true, watchTimer := some (s.now + 20) } } := by
  unfold startStep
  rw [if_neg (by simp [short])]
  dsimp only
  split
  · next c e => rw [loose] at e; cases e
  · exact enterFeedOn_up (s := { s with lamps := { s.lamps with measured := none } }) up work

/-- A step that begins with the link UP, after the reactions: in SWITCH_OFF, CLEAR_OFF or FEED_ON with its request asked for, the rest of the
lamps as it was but for the loose channel (R67, R75, R77). -/
theorem startStep_settled {s : State} {p : LampStep} (running : s.lamps.running = true) (up : s.link.state = .up)
    (work : s.lamps.current = some p) :
    (s.lamps.shortTaken = true →
      (settle (startStep s)).lamps = { s.lamps with stage := some .switchOff } ∧
      (settle (startStep s)).link.asks (.lampSet p.channel false) = true) ∧
    (∀ channel, s.lamps.shortTaken = false → s.lamps.loose = some channel →
      (settle (startStep s)).lamps = { s.lamps with measured := none, stage := some .clearOff } ∧
      (settle (startStep s)).link.asks (.lampSet channel false) = true) ∧
    (s.lamps.shortTaken = false → s.lamps.loose = none →
      (∃ loose, (loose = none ∨ loose = some p.channel) ∧ (settle (startStep s)).lamps = { s.lamps with
        measured := none, stage := some .feedOn, feed := true, watchTimer := some (s.now + 20), loose := loose }) ∧
      (settle (startStep s)).link.asks (.lampSet p.channel true) = true) := by
  refine ⟨fun short => ?_, fun channel short loose => ?_, fun short loose => ?_⟩
  · rw [startStep_short up work short]
    obtain ⟨asks, lamps, _⟩ := settle_placed (s := { s with lamps := { s.lamps with stage := some .switchOff } })
      running p.channel false true
    exact ⟨lamps rfl, asks⟩
  · rw [startStep_loose up short loose]
    obtain ⟨asks, lamps, _⟩ := settle_placed (s := { s with lamps := { s.lamps with measured := none, stage := some .clearOff } })
      running channel false true
    exact ⟨lamps rfl, asks⟩
  · rw [startStep_fresh up work short loose]
    obtain ⟨asks, _, loose', either, lamps⟩ := settle_placed (s := { s with lamps := { s.lamps with
      measured := none, stage := some .feedOn, feed := true, watchTimer := some (s.now + 20) } }) running p.channel true true
    exact ⟨⟨loose', by rw [← loose]; exact either, lamps⟩, asks⟩

theorem beginStep_sag {s : State} (sag : s.supply.sag = true) :
    beginStep s = { s with lamps := { s.lamps with stage := some .paused } } := if_pos sag

/-- A step due in a sag waits in PAUSED (R78). -/
theorem beginStep_sag_settled {s : State} (running : s.lamps.running = true) (sag : s.supply.sag = true) :
    ∃ loose, (settle (beginStep s)).lamps = { s.lamps with stage := some .paused, loose := loose } := by
  rw [beginStep_sag sag]
  exact ⟨_, settle_lamps_blocked (s := { s with lamps := { s.lamps with stage := some .paused } }) (.inl running)⟩

theorem beginStep_clear {s : State} (sag : s.supply.sag = false) : beginStep s = startStep s := if_neg (by simp [sag])

/-! ### A check that completes -/

theorem Sheet.writeIncomplete_eq (left n : Nat) (sh : Sheet) : sh.writeIncomplete left n = { sh with
    entries := sh.entries.map fun e =>
      if n ≤ e.step ∧ e.step < n + left then { e with result := some (.incomplete, 0) } else e } := by
  induction left generalizing n sh with
  | zero =>
    have outside (e : SheetEntry) : ¬(n ≤ e.step ∧ e.step < n + 0) := by omega
    simp only [Sheet.writeIncomplete, if_neg (outside _), List.map_id']
  | succ left ih =>
    rw [Sheet.writeIncomplete, ih]
    simp only [Sheet.write, List.map_map, if_true]
    congr 1
    refine List.map_congr_left fun e _ => ?_
    by_cases first : e.step = n
    · have inside : n ≤ e.step ∧ e.step < n + (left + 1) := by omega
      have after : ¬(n + 1 ≤ e.step ∧ e.step < n + 1 + left) := by omega
      simp only [Function.comp, if_pos first, if_pos inside, if_neg after]
    · have same : (n + 1 ≤ e.step ∧ e.step < n + 1 + left) ↔ (n ≤ e.step ∧ e.step < n + (left + 1)) := by omega
      simp only [Function.comp, if_neg first, same]

theorem completeCheck_tells (s : State) :
    (completeCheck s).notices.tells .lampSheetDone (completeCheck s).lamps.sheet.doneArg = true := by
  rw [completeCheck_lamps]
  exact raiseEdge_tells _ _ _

theorem endCheckIncomplete_tells {s : State} (running : s.lamps.running = true) :
    (endCheckIncomplete s).notices.tells .lampSheetDone (endCheckIncomplete s).lamps.sheet.doneArg = true := by
  unfold endCheckIncomplete
  rw [if_pos running]
  exact completeCheck_tells _

theorem endCheckIncomplete_lampReq {s : State} (running : s.lamps.running = true) : (endCheckIncomplete s).link.lampReq = none := by
  unfold endCheckIncomplete
  rw [if_pos running]
  simp [completeCheck, clearMarks, disownLampSets]

/-- Settles O27, by whether the step was begun again before. -/
theorem linkWaitBeginsAgainOrEndsTheCheck : Obligations.LinkWaitBeginsAgainOrEndsTheCheck := by
  intro t d n p s timer due running step work up stage
  have effect : exec (.linkWaitExpiry t) s = .next (settle (linkWaitOver (s.advance t))) :=
    congrArg Host.Outcome.next (onDue_at (s := s) (t := t) timer due)
  refine ⟨fun once => ?_, fun again => ?_⟩
  · have begun : linkWaitOver (s.advance t) = beginStep { s.advance t with
        lamps := { s.lamps with linkWaitTimer := none, failures := 0, begunAgain := true } } :=
      if_neg (by simp [once])
    rw [begun] at effect
    have reached := ((Reacted.refl (s.advance t)).withLamps
      { s.lamps with linkWaitTimer := none, failures := 0, begunAgain := true }).beginStep.settle
    have lamps : ({ s.advance t with
        lamps := { s.lamps with linkWaitTimer := none, failures := 0, begunAgain := true } } : State).lamps =
          { s.lamps with linkWaitTimer := none, failures := 0, begunAgain := true } := rfl
    have up' : ({ s.advance t with
        lamps := { s.lamps with linkWaitTimer := none, failures := 0, begunAgain := true } } : State).link.state = .up := up
    have supply : ({ s.advance t with
        lamps := { s.lamps with linkWaitTimer := none, failures := 0, begunAgain := true } } : State).supply = s.supply := rfl
    generalize ({ s.advance t with
        lamps := { s.lamps with linkWaitTimer := none, failures := 0, begunAgain := true } } : State) = a at *
    have running' : a.lamps.running = true := by rw [lamps]; exact running
    have short' : a.lamps.shortTaken = s.lamps.shortTaken := by rw [lamps]
    have loose' : a.lamps.loose = s.lamps.loose := by rw [lamps]
    have work' : a.lamps.current = some p := by rw [lamps]; exact work
    refine ⟨_, effect, reached, ?_⟩
    rw [← supply]
    by_cases sag : a.supply.sag = true
    · obtain ⟨loose'', lampsU⟩ := beginStep_sag_settled running' sag
      rw [lampsU, lamps]
      exact ⟨running, step, rfl, rfl, rfl, rfl, fun _ => rfl, fun no => absurd sag (by simp [no]),
        fun _ no => absurd sag (by simp [no]), fun no => absurd sag (by simp [no])⟩
    · rw [Bool.not_eq_true] at sag
      rw [beginStep_clear sag]
      obtain ⟨shorted, cleared, fresh⟩ := startStep_settled running' up' work'
      rw [short'] at shorted cleared fresh
      rw [loose'] at cleared fresh
      rw [lamps] at shorted cleared fresh
      generalize settle (startStep a) = u at *
      by_cases short : s.lamps.shortTaken = true
      · obtain ⟨lampsU, asks⟩ := shorted short
        rw [lampsU]
        exact ⟨running, step, rfl, rfl, rfl, rfl, fun yes => absurd sag (by simp [yes]), fun _ _ => ⟨rfl, rfl, asks⟩,
          fun _ _ no => absurd short (by simp [no]), fun _ no => absurd short (by simp [no])⟩
      · rw [Bool.not_eq_true] at short
        cases loose : s.lamps.loose with
        | some channel =>
          obtain ⟨lampsU, asks⟩ := cleared channel short loose
          rw [lampsU]
          exact ⟨running, step, rfl, rfl, rfl, rfl, fun yes => absurd sag (by simp [yes]), fun _ yes => absurd short (by simp [yes]),
            fun c _ _ e => by cases e; exact ⟨rfl, asks⟩, fun _ _ no => by cases no⟩
        | none =>
          obtain ⟨⟨_, _, lampsU⟩, asks⟩ := fresh short loose
          rw [lampsU]
          exact ⟨running, step, rfl, rfl, rfl, rfl, fun yes => absurd sag (by simp [yes]), fun _ yes => absurd short (by simp [yes]),
            nofun, fun _ _ _ => ⟨rfl, rfl, asks⟩⟩
  · have ended : linkWaitOver (s.advance t) = endCheckIncomplete { s.advance t with
        lamps := { s.lamps with linkWaitTimer := none } } :=
      if_pos again
    rw [ended] at effect
    have reached := ((Reacted.refl (s.advance t)).withLamps { s.lamps with linkWaitTimer := none }).endCheckIncomplete
    have lamps := endCheckIncomplete_lamps (s := { s.advance t with lamps := { s.lamps with linkWaitTimer := none } }) running
    have told := endCheckIncomplete_tells (s := { s.advance t with lamps := { s.lamps with linkWaitTimer := none } }) running
    have slot := endCheckIncomplete_lampReq (s := { s.advance t with lamps := { s.lamps with linkWaitTimer := none } }) running
    generalize endCheckIncomplete _ = a at *
    have blocked : a.checkBlocked := .inr (.inl (by rw [lamps]; rfl))
    refine ⟨_, effect, reached.settle, ?_⟩
    rw [settle_tells_blocked blocked rfl, settle_lamps_still blocked (Link.loosens_of_empty slot)]
    refine ⟨by rw [lamps]; rfl, by rw [lamps]; rfl, by rw [lamps]; rfl, by rw [lamps]; rfl, told, ?_⟩
    rw [lamps, Sheet.writeIncomplete_eq]
    refine List.map_congr_left fun e _ => ?_
    dsimp only
    rw [step, Option.getD_some]
    have same : (n ≤ e.step ∧ e.step < n + (s.lamps.program.length + 1 - n)) ↔ (n ≤ e.step ∧ e.step ≤ s.lamps.program.length) := by
      omega
    simp only [same]

end Sys2Proof.Machine
end

section
/-! SUPPORT. What a LAMP_SET's outcome does to a lamp check: acknowledged (O21, O22), failed (O23), and a RECHECK (O28). -/

namespace Sys2Proof.Machine

open Sys2Proof

/-! ### Only reactions follow -/

theorem Reacted.clearLoose {a s : State} (h : Reacted a s) (channel : Nat) (on : Bool) : Reacted a (Machine.clearLoose channel on s) := by
  unfold Machine.clearLoose
  split
  · exact h.withLamps _
  · exact h

theorem Reacted.raiseLooseOff {a s : State} (h : Reacted a s) : Reacted a (Machine.raiseLooseOff s) := by
  unfold Machine.raiseLooseOff
  split
  · split
    · exact h.placeLampSet _ _ _
    · exact h
  · exact h

theorem Reacted.payOff {a s : State} (h : Reacted a s) : Reacted a (Machine.payOff s) := by
  unfold Machine.payOff
  split
  · exact (h.withLamps _).raiseLooseOff
  · exact h

theorem Reacted.finishStep {a s : State} (h : Reacted a s) : Reacted a (Machine.finishStep s) := by
  unfold Machine.finishStep
  dsimp only
  split
  · exact ((h.recordVerdict _ _ _).clearMarks.withLamps _).beginStep
  · exact (h.recordVerdict _ _ _).clearMarks.completeCheck

theorem Reacted.advanceStage {a s : State} (h : Reacted a s) : Reacted a (Machine.advanceStage s) := by
  unfold Machine.advanceStage
  split
  · exact h.enterFeedOn
  · split
    · exact h.enterSwitchOff
    · exact h.withLamps _
  · exact h.openFeed.finishStep
  · exact h

theorem Reacted.lampAcknowledged {a s : State} (h : Reacted a s) (channel : Nat) (on live : Bool) :
    Reacted a (Machine.lampAcknowledged channel on live s) := by
  unfold Machine.lampAcknowledged
  dsimp only
  split
  · exact (h.clearLoose _ _).advanceStage
  · exact (h.clearLoose _ _).payOff

theorem answered_reacted {s b : State} {t : Nat} (h : Reacted (s.answered t) b) :
    Reacted { s.advance t with link := { s.link with failureRun := 0 } } b := by
  unfold State.answered at h
  exact h.rebase

/-! ### The off of R77 -/

/-- The off for a loose channel waits in its slot with the link UP. -/
def State.asksOff (s : State) (c : Nat) : Prop :=
  s.lamps.loose = some c ∧ s.link.state = .up ∧ ∃ live, s.link.lampReq = some { channel := c, on := false, live := live }

theorem State.asksOff.beginStep {s : State} {c : Nat} (h : s.asksOff c) (short : s.lamps.shortTaken = false) :
    (beginStep s).asksOff c := by
  obtain ⟨loose, up, slot⟩ := h
  unfold Machine.beginStep
  split
  · exact ⟨loose, up, slot⟩
  · rw [startStep_loose up short loose]
    exact ⟨loose, up, true, rfl⟩

/-- A check that starts asks for the same off first (R67). -/
theorem State.asksOff.startCheck {s : State} {c : Nat} (h : s.asksOff c) : (startCheck s).asksOff c := by
  unfold Machine.startCheck
  split
  · dsimp only
    split
    · exact h
    · exact State.asksOff.beginStep h rfl
  · exact h

theorem State.asksOff.react {s : State} {c : Nat} (h : s.asksOff c) : (Machine.react s).asksOff c := by
  have passed : (startPass s).asksOff c := by simpa [State.asksOff] using h
  have started := passed.startCheck
  rw [react_eq]
  simpa [State.asksOff] using started

/-- The off for a loose channel is asked for at the end of the event, whether or not a check starts in it (R67, R77). -/
theorem State.asksOff.settled {s : State} {c : Nat} (h : s.asksOff c) : (settle s).link.asks (.lampSet c false) = true := by
  obtain ⟨_, _, live, slot⟩ := h.react.react
  rw [settle_link, arbitrate_asks]
  generalize Machine.react (Machine.react s) = b at *
  simp [Link.asks, slot]

/-! ### Acknowledged -/

theorem clearLoose_on (channel : Nat) (s : State) : clearLoose channel true s = s := if_neg (by simp)

theorem clearLoose_other {channel : Nat} {on : Bool} {s : State} (h : on = true ∨ s.lamps.loose ≠ some channel) :
    clearLoose channel on s = s := if_neg (by rcases h with h | h <;> simp [h])

theorem clearLoose_own {channel : Nat} {s : State} (h : s.lamps.loose = some channel) :
    clearLoose channel false s = { s with lamps := { s.lamps with loose := none } } := if_pos ⟨rfl, h⟩

theorem advanceStage_warm {s : State} (stage : s.lamps.stage = some .feedOn) (short : s.lamps.shortTaken = false) :
    advanceStage s = { s with lamps := { s.lamps with stage := some .warm, warmTimer := some (s.now + 300) } } := by
  unfold advanceStage
  rw [stage]
  exact if_neg (by simp [short])

theorem advanceStage_short {s : State} (stage : s.lamps.stage = some .feedOn) (short : s.lamps.shortTaken = true) :
    advanceStage s = enterSwitchOff s := by
  unfold advanceStage
  rw [stage]
  exact if_pos short

theorem advanceStage_cleared {s : State} (stage : s.lamps.stage = some .clearOff) : advanceStage s = enterFeedOn s := by
  unfold advanceStage
  rw [stage]

theorem advanceStage_off {s : State} (stage : s.lamps.stage = some .switchOff) :
    advanceStage s = finishStep (openFeed s) := by
  unfold advanceStage
  rw [stage]

/-- A LAMP_SET acknowledged in time (R25). -/
theorem execLampSetResponse_acknowledged {t tag channel : Nat} {on : Bool} {x : Transaction} {s : State}
    (busy : s.link.busy = some x) (request : x.request = .lampSet channel on) (same : x.tag = tag) (time : max s.now t ≤ x.timer) :
    exec (.lampSetResponse t tag channel on) s = .next (settle (lampAcknowledged channel on x.live (s.answered t))) :=
  congrArg Host.Outcome.next (takeReply_succeeds busy same time (by simp [request]))

theorem lampAcknowledged_live {s : State} {channel : Nat} {on : Bool}
    (running : s.lamps.running = true) : lampAcknowledged channel on true s = advanceStage (clearLoose channel on s) := by
  have stays : (clearLoose channel on s).lamps.running = true := by unfold clearLoose; split <;> exact running
  unfold lampAcknowledged
  exact if_pos (by simp [stays])

theorem lampAcknowledged_dead (channel : Nat) (on : Bool) (s : State) :
    lampAcknowledged channel on false s = payOff (clearLoose channel on s) := rfl

theorem payOff_free {s : State} (h : s.lamps.offOwed = false) : payOff s = s := if_neg (by simp [h])

theorem payOff_loose {s : State} {c : Nat} (owed : s.lamps.offOwed = true) (loose : s.lamps.loose = some c) (up : s.link.state = .up) :
    payOff s = placeLampSet c false false { s with lamps := { s.lamps with offOwed := false } } := by
  unfold payOff raiseLooseOff
  rw [if_pos owed]
  dsimp only
  rw [loose]
  exact if_pos up

theorem payOff_none {s : State} (owed : s.lamps.offOwed = true) (loose : s.lamps.loose = none) :
    payOff s = { s with lamps := { s.lamps with offOwed := false } } := by
  unfold payOff raiseLooseOff
  rw [if_pos owed]
  dsimp only
  rw [loose]

theorem Link.asks_lamp_none {l : Link} (busy : l.busy = none) (slot : l.lampReq = none) (c : Nat) (set : Bool) :
    l.asks (.lampSet c set) = false := by
  simp [Link.asks, busy, slot]

/-- Settles O21, by the stage and by whether the acknowledgement still counts for the step. -/
theorem acknowledgementsMoveTheStepOn : Obligations.AcknowledgementsMoveTheStepOn := by
  intro t tag channel on x s busy request same time up slot
  have effect := execLampSetResponse_acknowledged busy request same time
  have reached := answered_reacted (s := s) (t := t) ((Reacted.refl _).lampAcknowledged channel on x.live).settle
  have lamps : (s.answered t).lamps = s.lamps := rfl
  have now : (s.answered t).now = max s.now t := rfl
  have upA : (s.answered t).link.state = .up := up
  have idle : (s.answered t).link.busy = none := rfl
  have slotA : (s.answered t).link.lampReq = none := slot
  generalize s.answered t = a at *
  rw [← lamps, ← now]
  refine ⟨fun live running set stage short => ⟨_, effect, ?_, reached⟩, fun p live running set stage short work =>
    ⟨_, effect, ?_⟩, fun p live running set stage loose work => ⟨_, effect, ?_⟩, fun live owed => ⟨_, effect, reached, ?_, ?_⟩,
    fun live owed running => ⟨_, effect, reached, ?_⟩⟩
  · rw [live, set, lampAcknowledged_live running, clearLoose_on, advanceStage_warm stage short]
    exact settle_lamps_still (s := { a with lamps := { a.lamps with stage := some .warm, warmTimer := some (a.now + 300) } })
      (.inl running) (Link.loosens_of_empty slotA)
  · rw [live, set, lampAcknowledged_live running, clearLoose_on, advanceStage_short stage short] at reached ⊢
    obtain ⟨_, lamps', asks⟩ := enterSwitchOff_settled running upA work
    exact ⟨lamps', asks, reached⟩
  · rw [live, set, lampAcknowledged_live running, clearLoose_own loose] at reached ⊢
    have begun := (advanceStage_cleared (s := { a with lamps := { a.lamps with loose := none } }) stage).trans
      (enterFeedOn_up upA work)
    rw [begun] at reached ⊢
    obtain ⟨asks, _, loose', either, lamps'⟩ := settle_placed (s := { a with lamps := { a.lamps with
      loose := none, stage := some .feedOn, feed := true, watchTimer := some (a.now + 20) } }) running p.channel true true
    generalize settle _ = u at *
    rw [lamps']
    exact ⟨rfl, rfl, rfl, asks, either, rfl, reached⟩
  · intro c loose other
    have kept : on = true ∨ a.lamps.loose ≠ some channel := other.imp id fun differs e => differs (by rw [loose] at e; cases e; rfl)
    rw [live, lampAcknowledged_dead, clearLoose_other kept, payOff_loose owed loose upA]
    refine ⟨State.asksOff.settled ⟨loose, upA, false, rfl⟩, fun running => ?_⟩
    obtain ⟨_, lamps', _⟩ := settle_placed (s := { a with lamps := { a.lamps with offOwed := false } }) running c false false
    exact lamps' rfl
  · intro running off loose
    rw [live, off, lampAcknowledged_dead, clearLoose_own loose,
      payOff_none (s := { a with lamps := { a.lamps with loose := none } }) owed rfl]
    have blocked : State.checkBlocked { a with lamps := { a.lamps with loose := none, offOwed := false } } := .inl running
    refine ⟨settle_lamps_still blocked (Link.loosens_of_empty slotA), fun c set => ?_⟩
    exact (settle_asks_lamp blocked c set).trans (Link.asks_lamp_none idle slotA c set)
  · have free : (clearLoose channel on a).lamps = { a.lamps with
        loose := if on = false ∧ a.lamps.loose = some channel then none else a.lamps.loose } := by
      unfold clearLoose
      by_cases own : on = false ∧ a.lamps.loose = some channel
      · rw [if_pos (by simpa using own), if_pos own]
      · rw [if_neg (by simpa using own), if_neg own]
    have link : (clearLoose channel on a).link = a.link := by simp
    rw [live, lampAcknowledged_dead, payOff_free (by rw [free]; exact owed)]
    rw [settle_lamps_still (.inl (by rw [free]; exact running)) (Link.loosens_of_empty (by rw [link]; exact slotA)), free]

/-! ### Records offered -/

/-- An offer taken in an open session into a list with room is a record there, active (R43, R44). -/
theorem offerFault_reports {s : State} (on : s.sessionOpen = true) (room : s.faults.records.length < 24) (o : Offer) :
    ∃ r ∈ (offerFault o s).faults.records, r.origin = o.origin ∧ r.module = o.module ∧ r.code = o.code ∧ r.active = true := by
  obtain ⟨kept, _⟩ := offerFault_of_open on o
  by_cases known : ∃ r ∈ s.faults.records, r.matchesOffer o = true
  · obtain ⟨r, mem, same⟩ := known
    rw [kept _ (Faults.take_merges ⟨r, mem, same⟩ s.uptime)]
    refine ⟨r.merge o (s.faults.current.map (·.number)) s.uptime, List.mem_map.mpr ⟨r, mem, if_pos same⟩, ?_⟩
    simp only [FaultRecord.matchesOffer, Bool.and_eq_true, decide_eq_true_eq] at same
    obtain ⟨⟨origin, module⟩, code⟩ := same
    exact ⟨origin, module, code, rfl⟩
  · have new : ∀ r ∈ s.faults.records, ¬r.matchesOffer o = true := fun r mem same => known ⟨r, mem, same⟩
    rw [kept _ ((Faults.take_newcomer new s.uptime).1 room)]
    exact ⟨_, List.mem_append_right _ (List.mem_singleton_self _), rfl, rfl, rfl, rfl⟩

theorem mem_startPass {s : State} {r : FaultRecord} (h : r ∈ s.faults.records) (own : r.origin ≠ .coach) :
    r ∈ (startPass s).faults.records := by
  unfold startPass raiseFaultNext
  split
  · have kept : r ∈ s.faults.beginPass.records := List.mem_map.mpr ⟨r, h, if_neg fun k => own k.1⟩
    split <;> exact kept
  · exact h

/-- A record that is not the coach's stays through the reactions where no check may start (R48, R52). -/
theorem mem_settle {s : State} (check : s.checkBlocked) {r : FaultRecord} (h : r ∈ s.faults.records) (own : r.origin ≠ .coach) :
    r ∈ (settle s).faults.records := by
  obtain ⟨h1, _, faults1, _⟩ := react_of_checkBlocked check
  obtain ⟨_, _, faults2, _⟩ := react_of_checkBlocked h1
  rw [settle_faults]
  refine mem_startPass ?_ own
  rw [faults2]
  refine mem_startPass ?_ own
  rw [faults1]
  exact mem_startPass h own

/-! ### A step recorded -/

/-- The state in which a step has been recorded and its marks are cleared (R72). -/
def State.recorded (s : State) (n : Nat) (v : Verdict) (current : Nat) : State := clearMarks (recordVerdict n v current s)

theorem State.recorded_lamps (s : State) (n : Nat) (v : Verdict) (current : Nat) :
    (s.recorded n v current).lamps = { s.lamps with
      sheet := s.lamps.sheet.write n v current, failures := 0, begunAgain := false, sagRetry := false, shortTaken := false,
      measured := none } := by
  unfold State.recorded clearMarks
  rw [recordVerdict_lamps]

theorem State.recorded_keeps (s : State) (n : Nat) (v : Verdict) (current : Nat) :
    (s.recorded n v current).link = s.link ∧ (s.recorded n v current).supply = s.supply := by
  simp [State.recorded, clearMarks]

/-- A verdict that is not OK is an active LAMP record (R53, R72). -/
theorem State.recorded_reports {s : State} {n : Nat} {p : LampStep} {v : Verdict} (step : s.lamps.program[n - 1]? = some p)
    (bad : v ≠ .ok) (on : s.sessionOpen = true) (room : s.faults.records.length < 24) (current : Nat) :
    ∃ r ∈ (s.recorded n v current).faults.records,
      r.origin = .lamp ∧ r.module = p.channel ∧ r.code = Verdict.place v ∧ r.active = true := by
  unfold State.recorded clearMarks recordVerdict
  dsimp only
  rw [if_neg bad, step]
  exact offerFault_reports (s := { s with lamps := { s.lamps with sheet := s.lamps.sheet.write n v current } }) on room
    (lampOffer p.channel p.blocking v)

theorem finishStep_eq {s : State} {n : Nat} {v : Verdict} {current : Nat} (step : s.lamps.step = some n)
    (measured : s.lamps.measured = some (v, current)) :
    finishStep s =
      if n < s.lamps.program.length then
        beginStep { s.recorded n v current with lamps := { (s.recorded n v current).lamps with step := some (n + 1) } }
      else completeCheck (s.recorded n v current) := by
  have program : (s.recorded n v current).lamps.program = s.lamps.program := by rw [State.recorded_lamps]
  unfold finishStep
  rw [step, measured]
  rw [← program]
  rfl

theorem clearLoose_off {channel : Nat} {s : State} (h : s.lamps.loose = none ∨ s.lamps.loose = some channel) :
    clearLoose channel false s = { s with lamps := { s.lamps with loose := none } } := by
  rcases h with h | h
  · rw [clearLoose_other (.inr (by simp [h])), ← h]
  · exact clearLoose_own h

/-- A fresh step begun with no loose channel: in PAUSED or in FEED_ON (R67, R78). The records that are not the coach's stay. -/
theorem beginStep_settled {s : State} {p : LampStep} (running : s.lamps.running = true) (up : s.link.state = .up)
    (work : s.lamps.current = some p) (loose : s.lamps.loose = none) (short : s.lamps.shortTaken = false) :
    (s.supply.sag = true → ∃ loose, (settle (beginStep s)).lamps = { s.lamps with stage := some .paused, loose := loose }) ∧
    (s.supply.sag = false → ∃ loose, (settle (beginStep s)).lamps = { s.lamps with
      measured := none, stage := some .feedOn, feed := true, watchTimer := some (s.now + 20), loose := loose }) ∧
    ∀ r ∈ s.faults.records, r.origin ≠ .coach → r ∈ (settle (beginStep s)).faults.records := by
  refine ⟨beginStep_sag_settled running, fun clear => ?_, fun r mem own => ?_⟩
  · rw [beginStep_clear clear]
    obtain ⟨⟨loose', _, lamps⟩, _⟩ := (startStep_settled running up work).2.2 short loose
    exact ⟨loose', lamps⟩
  · have begun : (beginStep s).lamps.running = true ∧ (beginStep s).faults = s.faults := by
      cases sag : s.supply.sag with
      | true => rw [beginStep_sag sag]; exact ⟨running, rfl⟩
      | false => rw [beginStep_clear sag, startStep_fresh up work short loose]; exact ⟨running, rfl⟩
    exact mem_settle (.inl begun.1) (by rw [begun.2]; exact mem) own

/-- The check's completion after its last step (R73); the records that are not the coach's stay. -/
theorem completeCheck_settled {s : State} (slot : s.link.lampReq = none) :
    (settle (completeCheck s)).lamps = (completeCheck s).lamps ∧
    (settle (completeCheck s)).notices.tells .lampSheetDone (completeCheck s).lamps.sheet.doneArg = true ∧
    ∀ r ∈ s.faults.records, r.origin ≠ .coach → r ∈ (settle (completeCheck s)).faults.records := by
  have blocked : (completeCheck s).checkBlocked := .inr (.inl (by rw [completeCheck_lamps]))
  have told := completeCheck_tells s
  have link : (completeCheck s).link.lampReq = none := by simpa using slot
  have faults : (completeCheck s).faults = s.faults := by simp
  generalize completeCheck s = a at *
  refine ⟨settle_lamps_still blocked (Link.loosens_of_empty link), ?_, fun r mem own => ?_⟩
  · rw [settle_tells_blocked blocked rfl]
    exact told
  · exact mem_settle blocked (by rw [faults]; exact mem) own

/-- Settles O22: the step recorded, then the next or the check's completion. -/
theorem switchOffRecordsTheStep : Obligations.SwitchOffRecordsTheStep := by
  intro t tag n x p v current s busy request live same time running up slot stage step first work measured loose
  have effect := execLampSetResponse_acknowledged busy request same time
  have lamps : (s.answered t).lamps = s.lamps := rfl
  have supply : (s.answered t).supply = s.supply := rfl
  have faults : (s.answered t).faults = s.faults := rfl
  have sessionA : (s.answered t).sessionOpen = s.sessionOpen := rfl
  have upA : (s.answered t).link.state = .up := up
  have slotA : (s.answered t).link.lampReq = none := slot
  generalize s.answered t = a at *
  rw [← lamps] at running stage step work measured loose
  rw [live, lampAcknowledged_live running, clearLoose_off loose,
    advanceStage_off (s := { a with lamps := { a.lamps with loose := none } }) stage] at effect
  have finished := finishStep_eq (s := openFeed { a with lamps := { a.lamps with loose := none } }) step measured
  have recorded := State.recorded_lamps (openFeed { a with lamps := { a.lamps with loose := none } }) n v current
  obtain ⟨link, supply'⟩ := State.recorded_keeps (openFeed { a with lamps := { a.lamps with loose := none } }) n v current
  have reports := fun (bad : v ≠ .ok) (on : s.sessionOpen = true) (room : s.faults.records.length < 24) =>
    State.recorded_reports (s := openFeed { a with lamps := { a.lamps with loose := none } })
      (n := n) (p := p) (v := v) work bad (sessionA.trans on) (show a.faults.records.length < 24 by rw [faults]; exact room) current
  rw [finished] at effect
  have looseD : (openFeed { a with lamps := { a.lamps with loose := none } }).lamps = { a.lamps with
      loose := none, feed := false, watchTimer := none } := rfl
  rw [looseD] at recorded effect
  have linkD : (openFeed { a with lamps := { a.lamps with loose := none } }).link = a.link := rfl
  have supplyD : (openFeed { a with lamps := { a.lamps with loose := none } }).supply = a.supply := rfl
  rw [linkD] at link
  rw [supplyD] at supply'
  generalize State.recorded (openFeed { a with lamps := { a.lamps with loose := none } }) n v current = d at *
  dsimp only at effect
  rw [lamps] at recorded running effect
  by_cases more : n < s.lamps.program.length
  · rw [if_pos more] at effect
    obtain ⟨sagging, clear, kept⟩ := beginStep_settled (s := { d with lamps := { d.lamps with step := some (n + 1) } })
      (p := s.lamps.program[n]) (by rw [recorded]; exact running) (by rw [link]; exact upA)
      (by rw [recorded]; exact List.getElem?_eq_getElem more) (by rw [recorded]) (by rw [recorded])
    generalize settle (beginStep _) = u at *
    rw [recorded] at sagging clear
    refine ⟨u, effect, ?_, fun bad on room => ?_, fun _ => ?_, fun last => absurd more (by omega)⟩
    · cases sag : s.supply.sag with
      | true => obtain ⟨_, e⟩ := sagging (by rw [supply', supply]; exact sag); rw [e]; rfl
      | false => obtain ⟨_, e⟩ := clear (by rw [supply', supply]; exact sag); rw [e]; rfl
    · obtain ⟨r, mem, origin, module, code, active⟩ := reports bad on room
      exact ⟨r, kept r mem (by rw [origin]; decide), origin, module, code, active⟩
    · cases sag : s.supply.sag with
      | true =>
        obtain ⟨_, e⟩ := sagging (by rw [supply', supply]; exact sag)
        rw [e]
        exact ⟨running, rfl, rfl, rfl, rfl, rfl, rfl, fun _ => ⟨rfl, rfl⟩, nofun⟩
      | false =>
        obtain ⟨_, e⟩ := clear (by rw [supply', supply]; exact sag)
        rw [e]
        exact ⟨running, rfl, rfl, rfl, rfl, rfl, rfl, nofun, fun _ => ⟨rfl, rfl⟩⟩
  · rw [if_neg more] at effect
    obtain ⟨lamps', told, kept⟩ := completeCheck_settled (s := d) (by rw [link]; exact slotA)
    generalize settle (completeCheck d) = u at *
    rw [completeCheck_lamps, recorded] at lamps' told
    refine ⟨u, effect, by rw [lamps']; rfl, fun bad on room => ?_, fun yes => absurd yes more, fun _ => ?_⟩
    · obtain ⟨r, mem, origin, module, code, active⟩ := reports bad on room
      exact ⟨r, kept r mem (by rw [origin]; decide), origin, module, code, active⟩
    · rw [lamps']
      exact ⟨rfl, rfl, rfl, rfl, told⟩

end Sys2Proof.Machine
end

section
/-! SUPPORT. A LAMP_SET that fails with the link UP (O23). -/

namespace Sys2Proof.Machine

open Sys2Proof

theorem Reacted.enterLinkWait {a s : State} (h : Reacted a s) : Reacted a (Machine.enterLinkWait s) :=
  (h.openFeed.stopStepTimers.disownLampSets).withLamps _

theorem Reacted.raiseAgain {a s : State} (h : Reacted a s) (channel : Nat) (on : Bool) : Reacted a (Machine.raiseAgain channel on s) := by
  unfold Machine.raiseAgain
  split
  · split
    · exact h.enterSwitchOff
    · exact h.raiseLampSet _ _
  · exact h.raiseLampSet _ _
  · exact h.raiseLampSet _ _
  · exact h

theorem Reacted.lampFailed {a s : State} (h : Reacted a s) (channel : Nat) (on live : Bool) :
    Reacted a (Machine.lampFailed channel on live s) := by
  unfold Machine.lampFailed
  split
  · split
    case h_5 => exact h
    all_goals
      dsimp only
      split
      · exact (h.withLamps _).enterLinkWait
      · exact (h.withLamps _).raiseAgain _ _
  · exact h.payOff

/-- The state a failure leaves before its requester hears of it: the wires free and the failure counted (R26). -/
def State.failed (s : State) (t : Nat) : State :=
  { s.advance t with link := { s.link with busy := none, failureRun := s.link.failureRun + 1 } }

theorem failed_reacted {s b : State} {t : Nat} (h : Reacted (s.failed t) b) :
    Reacted { s.advance t with link := { s.link with failureRun := s.link.failureRun + 1 } } b := by
  unfold State.failed at h
  exact h.rebase

theorem transactionFails_counted {s : State} {x : Transaction} (t : Nat) (few : s.link.failureRun + 1 < 3) :
    transactionFails x (s.advance t) = handFailure x (s.failed t) :=
  congrArg (handFailure x) (if_pos few)

/-- A timeout or a malformed answer in time fails the transaction (R26). -/
theorem exec_fails {c : Instr} {x : Transaction} {s : State} (busy : s.link.busy = some x)
    (how : (∃ t, c = .linkTimeout t ∧ x.timer ≤ max s.now t) ∨
      (∃ t, c = .linkResponseMalformed t x.tag ∧ max s.now t ≤ x.timer)) :
    exec c s = .next (settle (transactionFails x (s.advance (Instr.moment c)))) := by
  rcases how with ⟨t, rfl, due⟩ | ⟨t, rfl, time⟩
  · exact execLinkTimeout_due busy due
  · refine congrArg Host.Outcome.next ?_
    unfold takeReply
    dsimp only
    rw [judgeReply_fails (s := s.advance t) busy rfl time rfl]
    rfl

/-! ### The stages of a failure -/

/-- A failure that counts: the first asks again, the second waits for the link (R74). -/
theorem lampFailed_counted {s : State} {st : Stage} (running : s.lamps.running = true) (stage : s.lamps.stage = some st)
    (counts : st = .clearOff ∨ st = .feedOn ∨ st = .switchOff ∨ st = .paused) (channel : Nat) (on : Bool) :
    lampFailed channel on true s =
      if 1 ≤ s.lamps.failures then enterLinkWait { s with lamps := { s.lamps with failures := 2 } }
      else raiseAgain channel on { s with lamps := { s.lamps with failures := 1 } } := by
  have run : (if 1 ≤ s.lamps.failures then 2 else 1) = min 2 (s.lamps.failures + 1) := by split <;> omega
  have second : 2 ≤ min 2 (s.lamps.failures + 1) ↔ 1 ≤ s.lamps.failures := by omega
  have counted : lampFailed channel on true s =
      if 2 ≤ min 2 (s.lamps.failures + 1) then
        enterLinkWait { s with lamps := { s.lamps with failures := min 2 (s.lamps.failures + 1) } }
      else raiseAgain channel on { s with lamps := { s.lamps with failures := min 2 (s.lamps.failures + 1) } } := by
    unfold lampFailed
    rw [if_pos (by simp [running]), stage]
    rcases counts with e | e | e | e <;> subst e <;> rfl
  rw [counted, ← run]
  by_cases again : 1 ≤ s.lamps.failures
  · rw [if_pos again, if_pos again, if_pos (by decide)]
  · rw [if_neg again, if_neg again, if_neg (by decide)]

theorem enterLinkWait_lamps (s : State) : (enterLinkWait s).lamps = { s.lamps with
    stage := some .linkWait, linkWaitTimer := some (s.now + 2000), feed := false, watchTimer := none, warmTimer := none,
    meanTimer := none, capture := none } := rfl

theorem raiseAgain_paused {s : State} (stage : s.lamps.stage = some .paused) (channel : Nat) (on : Bool) :
    raiseAgain channel on s = s := by
  unfold raiseAgain
  rw [stage]

theorem raiseAgain_short {s : State} (stage : s.lamps.stage = some .feedOn) (short : s.lamps.shortTaken = true) (channel : Nat)
    (on : Bool) : raiseAgain channel on s = enterSwitchOff s := by
  unfold raiseAgain
  rw [stage]
  exact if_pos short

theorem raiseAgain_same {s : State} {st : Stage} (stage : s.lamps.stage = some st)
    (counts : st = .clearOff ∨ st = .feedOn ∧ s.lamps.shortTaken = false ∨ st = .switchOff) (up : s.link.state = .up)
    (channel : Nat) (on : Bool) : raiseAgain channel on s = placeLampSet channel on true s := by
  unfold raiseAgain
  rw [stage]
  rcases counts with e | ⟨e, short⟩ | e <;> subst e
  · exact raiseLampSet_up up _ _
  · exact (if_neg (by simp [short])).trans (raiseLampSet_up up _ _)
  · exact raiseLampSet_up up _ _

theorem arbitrate_lampReq_none {s : State} (slot : s.link.lampReq = none) : (arbitrate s).link.lampReq = none := by
  have begun (r : Request) (live : Bool) : (s.link.beginTransaction r live s.now).lampReq = none := by
    unfold Link.beginTransaction Link.emptySlot
    cases r <;> first | exact slot | rfl
  unfold arbitrate
  split
  · exact slot
  · split
    · exact slot
    · dsimp only
      split <;> exact begun _ _

/-- No LAMP_SET waits after the reactions where none waited and no check may start. -/
theorem settle_lampReq_none {s : State} (h : s.checkBlocked) (slot : s.link.lampReq = none) : (settle s).link.lampReq = none := by
  obtain ⟨h1, _, _, _, slot1, _⟩ := react_of_checkBlocked h
  obtain ⟨_, _, _, _, slot2, _⟩ := react_of_checkBlocked h1
  rw [settle_link]
  refine arbitrate_lampReq_none ?_
  have kept : (startPass (react (react s))).link.lampReq = (react (react s)).link.lampReq := by simp
  rw [kept, slot2, slot1, slot]

/-- The first failure of a request that counts (R74). -/
theorem firstFailure_settled {s : State} {st : Stage} (running : s.lamps.running = true) (stage : s.lamps.stage = some st)
    (counts : st = .clearOff ∨ st = .feedOn ∨ st = .switchOff ∨ st = .paused) (up : s.link.state = .up)
    (busy : s.link.busy = none) (slot : s.link.lampReq = none) (channel : Nat) (on : Bool) :
    let u := settle (raiseAgain channel on s)
    (∃ stage loose, u.lamps = { s.lamps with stage := stage, loose := loose }) ∧
    (st ≠ .paused → (st = .feedOn → s.lamps.shortTaken = false) →
      u.lamps.stage = some st ∧ u.link.asks (.lampSet channel on) = true) ∧
    (∀ p, st = .feedOn → s.lamps.shortTaken = true → s.lamps.current = some p →
      u.lamps.stage = some .switchOff ∧ u.link.asks (.lampSet p.channel false) = true ∧
      ∀ other, u.link.asks (.lampSet other true) = false) ∧
    (st = .paused → u.lamps = s.lamps ∧ ∀ other set, u.link.asks (.lampSet other set) = false) := by
  dsimp only
  have still : (settle s).lamps = s.lamps ∧ ∀ other set, (settle s).link.asks (.lampSet other set) = false :=
    ⟨settle_lamps_still (.inl running) (Link.loosens_of_empty slot), fun other set =>
      (settle_asks_lamp (.inl running) other set).trans (Link.asks_lamp_none busy slot other set)⟩
  by_cases paused : st = .paused
  · rw [raiseAgain_paused (by rw [stage, paused])]
    exact ⟨⟨s.lamps.stage, s.lamps.loose, still.1⟩, fun no => absurd paused no, fun p e => (by rw [paused] at e; cases e), fun _ => still⟩
  · by_cases short : st = .feedOn ∧ s.lamps.shortTaken = true
    · obtain ⟨feeding, taken⟩ := short
      rw [raiseAgain_short (by rw [stage, feeding]) taken]
      cases work : s.lamps.current with
      | none =>
        have stays : enterSwitchOff s = s := by unfold enterSwitchOff; rw [work]
        rw [stays]
        exact ⟨⟨s.lamps.stage, s.lamps.loose, still.1⟩, fun _ no => (by rw [no feeding] at taken; cases taken),
          fun p _ _ e => (by cases e), fun e => absurd e paused⟩
      | some p =>
        obtain ⟨_, lamps, asks⟩ := enterSwitchOff_settled running up work
        refine ⟨⟨some .switchOff, s.lamps.loose, lamps⟩, fun _ no => (by rw [no feeding] at taken; cases taken),
          fun p' _ _ e => ?_, fun e => absurd e paused⟩
        cases e
        refine ⟨by rw [lamps], asks, fun other => ?_⟩
        have placed := enterSwitchOff_up up work
        have run : (enterSwitchOff s).lamps.running = true := by rw [placed]; exact running
        have link : (enterSwitchOff s).link =
            { s.link with lampReq := some { channel := p.channel, on := false, live := true } } := by rw [placed]; rfl
        rw [settle_asks_lamp (.inl run), link]
        simp [Link.asks, busy]
    · have again : st = .clearOff ∨ st = .feedOn ∧ s.lamps.shortTaken = false ∨ st = .switchOff := by
        rcases counts with e | e | e | e
        · exact .inl e
        · exact .inr (.inl ⟨e, by simpa using fun k => short ⟨e, k⟩⟩)
        · exact .inr (.inr e)
        · exact absurd e paused
      rw [raiseAgain_same stage again up]
      obtain ⟨asks, _, loose, _, lamps⟩ := settle_placed running channel on true
      exact ⟨⟨s.lamps.stage, loose, lamps⟩, fun _ _ => ⟨by rw [lamps]; exact stage, asks⟩,
        fun p feeding taken _ => absurd ⟨feeding, taken⟩ short, fun e => absurd e paused⟩

/-- The second failure of a request that counts (R74). -/
theorem secondFailure_settled {s : State} (running : s.lamps.running = true) :
    (settle (enterLinkWait s)).lamps = { s.lamps with
      stage := some .linkWait, linkWaitTimer := some (s.now + 2000), feed := false, watchTimer := none, warmTimer := none,
      meanTimer := none, capture := none } ∧
    (settle (enterLinkWait s)).link.lampReq = none := by
  have slot : (enterLinkWait s).link.lampReq = none := rfl
  have lamps := enterLinkWait_lamps s
  have blocked : (enterLinkWait s).checkBlocked := .inl running
  generalize enterLinkWait s = a at *
  exact ⟨(settle_lamps_still blocked (Link.loosens_of_empty slot)).trans lamps, settle_lampReq_none blocked slot⟩

/-- Settles O23, by whether the failure counts for the step, and by its number. -/
theorem lampFailuresRetryOnceThenWait : Obligations.LampFailuresRetryOnceThenWait := by
  intro c x channel on s busy request how few up slot running
  have effect := exec_fails busy how
  have handed : transactionFails x (s.advance (Instr.moment c)) = lampFailed channel on x.live (s.failed (Instr.moment c)) := by
    rw [transactionFails_counted _ few]
    unfold handFailure
    rw [request]
  rw [handed] at effect
  have reached := failed_reacted (s := s) (t := Instr.moment c) ((Reacted.refl _).lampFailed channel on x.live).settle
  have lamps : (s.failed (Instr.moment c)).lamps = s.lamps := rfl
  have now : (s.failed (Instr.moment c)).now = max s.now (Instr.moment c) := rfl
  have upA : (s.failed (Instr.moment c)).link.state = .up := up
  have idle : (s.failed (Instr.moment c)).link.busy = none := rfl
  have slotA : (s.failed (Instr.moment c)).link.lampReq = none := slot
  generalize s.failed (Instr.moment c) = a at *
  rw [← lamps] at running
  refine ⟨_, effect, reached, fun st live stage counts => ?_, fun other live owed loose => ?_, fun live owed => ?_⟩
  · rw [← lamps] at stage
    rw [live, lampFailed_counted running stage counts, ← lamps, ← now]
    by_cases again : 1 ≤ a.lamps.failures
    · rw [if_pos again]
      obtain ⟨lamps', slot'⟩ := secondFailure_settled (s := { a with lamps := { a.lamps with failures := 2 } }) running
      generalize settle (enterLinkWait _) = u at lamps' slot' ⊢
      dsimp only at lamps'
      rw [lamps']
      exact ⟨rfl, rfl, running, rfl, rfl, fun no => absurd again (by omega),
        fun _ => ⟨rfl, rfl, rfl, rfl, rfl, rfl, rfl, rfl, rfl, slot'⟩⟩
    · rw [if_neg again]
      obtain ⟨⟨stage', loose', lamps'⟩, same, short, paused⟩ := firstFailure_settled
        (s := { a with lamps := { a.lamps with failures := 1 } }) running stage counts upA idle slotA channel on
      generalize settle _ = u at *
      rw [lamps'] at same short paused ⊢
      exact ⟨rfl, rfl, running, rfl, rfl, fun _ => ⟨rfl, rfl, same, short, paused⟩, fun no => absurd no (by omega)⟩
  · rw [← lamps] at owed loose
    have paid : lampFailed channel on false a = _ := payOff_loose owed loose upA
    rw [live, paid, ← lamps]
    obtain ⟨asks, lamps', _⟩ := settle_placed (s := { a with lamps := { a.lamps with offOwed := false } }) running other false false
    exact ⟨lamps' rfl, asks⟩
  · rw [← lamps] at owed
    have free : lampFailed channel on false a = a := payOff_free owed
    rw [live, free, ← lamps]
    exact ⟨settle_lamps_still (.inl running) (Link.loosens_of_empty slotA), fun other set =>
      (settle_asks_lamp (.inl running) other set).trans (Link.asks_lamp_none idle slotA other set)⟩

end Sys2Proof.Machine
end

section
/-! SUPPORT. A check that an event's reactions start, and RECHECK (O28). -/

namespace Sys2Proof.Machine

open Sys2Proof

/-! ### A check started by the reactions -/

/-- Every LAMP record is inactive. -/
def Faults.lampsIdle (f : Faults) : Prop := ∀ r ∈ f.records, r.origin = .lamp → r.active = false

theorem startPass_lampsIdle {s : State} (h : s.faults.lampsIdle) : (startPass s).faults.lampsIdle := by
  have begun : s.faults.beginPass.lampsIdle := by
    intro r mem lamp
    obtain ⟨r', mem', e⟩ := List.mem_map.mp mem
    subst e
    split at lamp
    · next own => rw [own.1] at lamp; cases lamp
    · next other => rw [if_neg other]; exact h r' mem' lamp
  unfold startPass raiseFaultNext
  split
  · split <;> exact begun
  · exact h

theorem Faults.inactivateLamps_lampsIdle (f : Faults) : f.inactivateLamps.lampsIdle := by
  intro r mem lamp
  obtain ⟨r', mem', e⟩ := List.mem_map.mp mem
  subst e
  split at lamp
  · next own => rw [if_pos own]
  · next other => exact absurd lamp other

/-- Where the first round of reactions leaves no check to start, the event ends with the lamps, the edges and the LAMP records of that
round. -/
theorem settle_started {s : State} (h : (startCheck (startPass s)).checkBlocked) :
    (∃ loose, (settle s).lamps = { (startCheck (startPass s)).lamps with loose := loose }) ∧
    (∀ src : Source, src.isCondition = false →
      (settle s).notices.get src = (startCheck (startPass s)).notices.get src) ∧
    ((startCheck (startPass s)).faults.lampsIdle → (settle s).faults.lampsIdle) := by
  have first : Reacted (startCheck (startPass s)) (react s) := by
    rw [react_eq]
    exact ((((Reacted.refl _).readPeers).deriveLatest).evalHeat).clearanceTests
  have same : (react s).lamps = (startCheck (startPass s)).lamps ∧ (react s).notices = (startCheck (startPass s)).notices ∧
      (react s).faults = (startCheck (startPass s)).faults := by
    rw [react_eq]
    simp
  generalize startCheck (startPass s) = c at *
  obtain ⟨lamps, notices, faults⟩ := same
  have blocked : (react s).checkBlocked := h.reacted first (by rw [lamps]) (by rw [lamps])
  obtain ⟨_, lamps2, faults2, _, _, notices2⟩ := react_of_checkBlocked blocked
  refine ⟨?_, fun src edge => ?_, fun idle => ?_⟩
  · rw [settle_lamps, arbitrate_loosens]
    have last (b : State) : (startPass b).lamps = b.lamps := by simp
    rw [last, lamps2, lamps]
    exact ⟨_, rfl⟩
  · have last (b : State) : (arbitrate (startPass b)).notices = b.notices := by simp
    rw [settle_eq, driveHead_notices, giveConditions_edges edge, last, notices2, notices]
  · rw [settle_faults]
    refine startPass_lampsIdle ?_
    rw [faults2]
    exact startPass_lampsIdle (by rw [faults]; exact idle)

/-! ### How a check starts -/

/-- The state of a check's start before its first step (R64). -/
def State.checkBegun (s : State) (program : List LampStep) : State :=
  clearMarks { s with
    faults := s.faults.inactivateLamps,
    lamps := { s.lamps with running := true, step := some 1, program := program,
                            sheet := { state := .running, entries := entriesOf program } } }

theorem startCheck_allowed {s : State} {program : List LampStep} (allowed : s.checkAllowed = true)
    (works : s.figures.map (·.program) = some program) :
    startCheck s = if program.isEmpty then completeCheck (s.checkBegun program) else beginStep (s.checkBegun program) := by
  unfold startCheck
  rw [if_pos allowed, works]
  rfl

/-- The step's beginning keeps the check it belongs to (R67). -/
theorem startStep_keeps_check {s : State} (up : s.link.state = .up) :
    (startStep s).lamps.running = s.lamps.running ∧ (startStep s).lamps.step = s.lamps.step ∧
    (startStep s).lamps.program = s.lamps.program ∧ (startStep s).lamps.sheet = s.lamps.sheet ∧
    (startStep s).faults = s.faults := by
  by_cases short : s.lamps.shortTaken = true
  · have e : startStep s = enterSwitchOff s := if_pos short
    rw [e]
    cases work : s.lamps.current with
    | none => unfold enterSwitchOff; rw [work]; exact ⟨rfl, rfl, rfl, rfl, rfl⟩
    | some p => rw [enterSwitchOff_up up work]; exact ⟨rfl, rfl, rfl, rfl, rfl⟩
  · rw [Bool.not_eq_true] at short
    cases loose : s.lamps.loose with
    | some c => rw [startStep_loose up short loose]; exact ⟨rfl, rfl, rfl, rfl, rfl⟩
    | none =>
      cases work : s.lamps.current with
      | some p => rw [startStep_fresh up work short loose]; exact ⟨rfl, rfl, rfl, rfl, rfl⟩
      | none =>
        have e : startStep s = { s with lamps := { s.lamps with measured := none } } := by
          unfold startStep
          rw [if_neg (by simp [short])]
          dsimp only
          split
          · next e => rw [loose] at e; cases e
          · have idle : Lamps.current { s.lamps with measured := none } = none := work
            unfold enterFeedOn
            split
            · next e => rw [idle] at e; cases e
            · rfl
        rw [e]
        exact ⟨rfl, rfl, rfl, rfl, rfl⟩

/-! ### RECHECK -/

/-- A sheet just emptied, as the lamp checker and clearance find it (R65). -/
def State.emptied (s : State) (t : Nat) : State := leaveReady (emptySheet (s.heard t))

theorem State.emptied_reacted (s : State) (t : Nat) : Reacted (s.heard t) (s.emptied t) := ((Reacted.refl _).withLamps _).leaveReady

theorem State.emptied_lamps (s : State) (t : Nat) :
    (s.emptied t).lamps = { s.lamps with sheet := { state := .empty, entries := [] } } := by
  simp [State.emptied, emptySheet]

theorem State.emptied_early {s : State} {t : Nat} (h : s.dep.state.early = true) : (s.emptied t).dep.state.early = true := by
  have dep := leaveReady_dep (emptySheet (s.heard t))
  unfold State.emptied
  rw [dep]
  split
  · rw [Departure.move_state]; rfl
  · exact h

/-- READY without a lamp waiver leaves for ASSIGNED when its sheet is emptied (R65, R150). -/
theorem State.emptied_claims {s : State} {t : Nat} (on : s.configured = true) (ready : s.dep.state = .ready)
    (unwaived : s.dep.waiveLamp = false) : (s.emptied t).dep.state = .assigned ∧ (s.emptied t).line.departSlot = true := by
  refine leaveReady_claims (s := emptySheet (s.heard t)) ready ?_ on
  rw [← Bool.not_eq_true, State.coachConditions_iff]
  rintro ⟨_, _, _, _, _, lamps, _⟩
  rcases lamps with ⟨complete, _⟩ | waived
  · cases complete
  · exact absurd waived (by simp [emptySheet, unwaived])

/-- The check that starts at once after a RECHECK (R63, R65). -/
theorem State.emptied_starts {s : State} {t : Nat} {id : Identity} {program : List LampStep} (opened : s.bay.session = .opened id)
    (early : s.dep.state.early = true) (idle : s.lamps.running = false) (connected : s.bay.occupancy = .connected)
    (clear : s.supply.sag = false) (works : s.figures.map (·.program) = some program) :
    startCheck (startPass (s.emptied t)) =
      if program.isEmpty then completeCheck ((startPass (s.emptied t)).checkBegun program)
      else beginStep ((startPass (s.emptied t)).checkBegun program) := by
  have reached : Reacted (s.heard t) (startPass (s.emptied t)) := (s.emptied_reacted t).startPass
  have lamps : (startPass (s.emptied t)).lamps = { s.lamps with sheet := { state := .empty, entries := [] } } := by
    rw [← s.emptied_lamps t]; simp
  have dep : (startPass (s.emptied t)).dep = (s.emptied t).dep := by simp
  refine startCheck_allowed ?_ (by rw [reached.figures]; exact works)
  have open_ : (startPass (s.emptied t)).sessionOpen = true := by
    have held : s.sessionOpen = true := by simp [State.sessionOpen, State.identity, opened]
    exact reached.sessionOpen.trans held
  have connected' : (startPass (s.emptied t)).bay.occupancy = .connected := reached.occupancy.trans connected
  have clear' : (startPass (s.emptied t)).supply.sag = false := by rw [reached.supply]; exact clear
  have early' := State.emptied_early (t := t) early
  rw [← dep] at early'
  generalize startPass (s.emptied t) = a at *
  simp [State.checkAllowed, lamps, idle, connected', open_, early', clear']

/-- It ends in ASSIGNED, unless a check of no steps completed in the same event. -/
theorem State.emptied_unfinished {s : State} {t : Nat} (ready : s.dep.state = .ready) (unwaived : s.dep.waiveLamp = false)
    (unfinished : (settle (s.emptied t)).lamps.sheet.state ≠ .complete) : (settle (s.emptied t)).dep.state = .assigned := by
  have reached : Reacted (s.heard t) (settle (s.emptied t)) := (s.emptied_reacted t).settle
  have lost : ¬(settle (s.emptied t)).coachConditions = true := by
    rw [State.coachConditions_iff]
    rintro ⟨_, _, _, _, _, lamps, _⟩
    rcases lamps with ⟨complete, _⟩ | waived
    · exact unfinished complete
    · rw [reached.dep] at waived
      exact absurd waived (by simp [unwaived])
  have lane : (s.heard t).dep.state.moves = true := by rw [show (s.heard t).dep.state = _ from ready]; rfl
  rcases laneBound (reached.moves lane) with e | e | e
  · exact e
  · exact absurd ((settle_laneTaken (s.emptied t)).2 e).1 lost
  · exact absurd (settle_laneSafe (s.emptied t) e).1 lost

/-- Settles O28: the emptied sheet first, then the check that its reactions start. -/
theorem recheckEmptiesTheSheetAndOwesAPass : Obligations.RecheckEmptiesTheSheetAndOwesAPass := by
  intro t s on
  refine ⟨fun id opened early => ⟨fun idle => ?_, ?_⟩, fun barred => ⟨?_, ?_⟩, fun running => ?_⟩
  · have held : s.sessionOpen = true := by simp [State.sessionOpen, State.identity, opened]
    have effect : exec (.recheckLamps t) s = .next (settle (s.emptied t)) :=
      congrArg Host.Outcome.next ((receive_configured on).trans (if_pos (by
        have held' : (s.heard t).sessionOpen = true := held
        simp [held', early, idle])))
    refine ⟨_, effect, (s.emptied_reacted t).settle, fun barred => ?_, fun ready unwaived => ⟨?_, fun unfinished => ?_⟩,
      fun connected clear works => ?_, fun program connected clear up works some_ => ?_⟩
    · have reached := s.emptied_reacted t
      have blocked : (s.emptied t).checkBlocked := by
        rcases barred with h | h
        · exact .inr (.inr (.inl (by rw [reached.occupancy]; exact h)))
        · exact .inr (.inr (.inr (.inr (.inl (by rw [reached.supply]; exact h)))))
      have lamps := settle_lamps_blocked blocked
      rw [s.emptied_lamps t] at lamps
      rw [lamps]
    · exact settle_departSlot (State.emptied_claims on ready unwaived).2
    · exact State.emptied_unfinished ready unwaived unfinished
    · have begun := State.emptied_starts (t := t) opened early idle connected clear works
      rw [if_pos (by rfl)] at begun
      have blocked : (startCheck (startPass (s.emptied t))).checkBlocked := .inr (.inl (by rw [begun, completeCheck_lamps]))
      obtain ⟨⟨loose, lamps⟩, edges, _⟩ := settle_started blocked
      have told := completeCheck_tells ((startPass (s.emptied t)).checkBegun [])
      rw [begun, completeCheck_lamps] at lamps
      rw [completeCheck_lamps, ← begun] at told
      refine ⟨by rw [lamps], by rw [lamps]; rfl, ?_⟩
      unfold Notices.tells at told ⊢
      rw [edges .lampSheetDone rfl]
      exact told
    · have begun := State.emptied_starts (t := t) opened early idle connected clear works
      rw [if_neg (by simpa using some_)] at begun
      have reached : Reacted (s.heard t) (startPass (s.emptied t)) := (s.emptied_reacted t).startPass
      have up' : ((startPass (s.emptied t)).checkBegun program).link.state = .up := reached.linkState.trans up
      have clear' : ((startPass (s.emptied t)).checkBegun program).supply.sag = false := by
        have kept : (startPass (s.emptied t)).supply.sag = false := by rw [reached.supply]; exact clear
        exact kept
      rw [beginStep_clear clear'] at begun
      obtain ⟨running', step', program', sheet', faults'⟩ := startStep_keeps_check up'
      rw [← begun] at running' step' program' sheet' faults'
      obtain ⟨⟨loose, lamps⟩, _, idle'⟩ := settle_started (s := s.emptied t) (.inl running')
      refine ⟨by rw [lamps]; exact running', by rw [lamps]; exact step', by rw [lamps]; exact program',
        by rw [lamps]; exact sheet', idle' ?_⟩
      rw [faults']
      exact Faults.inactivateLamps_lampsIdle _
  · have held : s.sessionOpen = true := by simp [State.sessionOpen, State.identity, opened]
    have effect : exec (.recheckFaults t) s = .next (settle { s.heard t with link := { s.link with passOwed := true } }) :=
      congrArg Host.Outcome.next ((receive_configured on).trans (if_pos (by
        have held' : (s.heard t).sessionOpen = true := held
        simp [held', early])))
    exact ⟨_, effect, (settle_reacted _).rebase, settle_passOwed (s := { s.heard t with link := { s.link with passOwed := true } }) rfl⟩
  · refine congrArg Host.Outcome.next ((receive_configured on).trans (if_neg ?_))
    have shut : ¬((s.heard t).sessionOpen && (s.heard t).dep.state.early) = true := by
      rcases barred with h | h
      · rw [show (s.heard t).sessionOpen = false from h]; simp
      · rw [show (s.heard t).dep.state.early = false from h]; simp
    simp only [Bool.and_eq_true] at shut ⊢
    exact fun k => shut k.1
  · refine congrArg Host.Outcome.next ((receive_configured on).trans (if_neg ?_))
    rcases barred with h | h
    · rw [show (s.heard t).sessionOpen = false from h]; simp
    · rw [show (s.heard t).dep.state.early = false from h]; simp
  · exact congrArg Host.Outcome.next ((receive_configured on).trans (if_neg (by simp [running])))

end Sys2Proof.Machine
end

section
/-! SUPPORT. The peer table entry by entry: what a claim heard, a purge and an expiry leave for each station (O44, O45). -/

namespace Sys2Proof.Machine

open Sys2Proof

/-! ### Entries of a table in station order -/

/-- The entry of a station once entries are changed in place and those left empty removed. -/
theorem find_filter_map {l : List PeerEntry} (h : l.Pairwise fun a b => a.station < b.station) {f : PeerEntry → PeerEntry}
    (hf : ∀ e, (f e).station = e.station) (m : Nat) :
    ((l.map f).filter (·.holdsPart)).find? (fun e => decide (e.station = m)) =
      ((l.find? fun e => decide (e.station = m)).map f).filter (·.holdsPart) := by
  induction l with
  | nil => rfl
  | cons a rest ih =>
    obtain ⟨later, sorted⟩ := List.pairwise_cons.mp h
    by_cases at_a : a.station = m
    · have alone : rest.find? (fun e => decide (e.station = m)) = none := by
        rw [List.find?_eq_none]
        intro e he
        have := later e he
        simp; omega
      by_cases holds : (f a).holdsPart = true
      · simp [holds, hf, at_a, Option.filter]
      · simp only [List.map_cons, List.filter_cons_of_neg holds, ih sorted, alone]
        simp [at_a, Option.filter, holds]
    · by_cases holds : (f a).holdsPart = true
      · simp [holds, hf, at_a, ih sorted]
      · simp [holds, at_a, ih sorted]

theorem Peers.entry_purge {p : Peers} (h : p.entries.Pairwise fun a b => a.station < b.station) (now m : Nat) :
    (p.purge now).entry m = ((p.entry m).map (·.purge now)).filter (·.holdsPart) :=
  find_filter_map h (f := (·.purge now)) (fun _ => rfl) m

theorem find_changeEntry {n : Nat} {f : PeerEntry → PeerEntry} {l : List PeerEntry}
    (h : l.Pairwise fun a b => a.station < b.station) (hf : ∀ e, (f e).station = e.station) (m : Nat) :
    (changeEntry n f l).find? (fun e => decide (e.station = m)) =
      if m = n then some (f ((l.find? fun e => decide (e.station = n)).getD (PeerEntry.blank n)))
      else l.find? fun e => decide (e.station = m) := by
  have blank : (f (PeerEntry.blank n)).station = n := hf _
  induction l with
  | nil =>
    by_cases same : m = n
    · simp [changeEntry, blank, same]
    · simp [changeEntry, blank, same, Ne.symm same]
  | cons a rest ih =>
    obtain ⟨later, sorted⟩ := List.pairwise_cons.mp h
    unfold changeEntry
    by_cases here : a.station = n
    · by_cases same : m = n
      · simp [here, same, hf]
      · simp [here, same, Ne.symm same, hf]
    · by_cases before : n < a.station
      · have none : (a :: rest).find? (fun e => decide (e.station = n)) = none := by
          rw [List.find?_eq_none]
          intro e he
          rcases List.mem_cons.mp he with rfl | he
          · simpa using here
          · have := later e he
            simp; omega
        rw [none, if_neg here, if_pos before]
        by_cases same : m = n
        · simp [same, blank]
        · simp [same, Ne.symm same, blank]
      · rw [if_neg here, if_neg before]
        by_cases at_a : a.station = m
        · have other : m ≠ n := fun e => here (at_a.trans e)
          simp [at_a, other]
        · simp [at_a, here, ih sorted]

theorem setPeer_entry {s : State} (h : s.tableRight) {n : Nat} {f : PeerEntry → PeerEntry}
    (hf : ∀ e, (f e).station = e.station) (m : Nat) : (setPeer n f s).peers.entry m =
      if m = n then some (f ((s.peers.entry n).getD (PeerEntry.blank n))) else s.peers.entry m :=
  find_changeEntry h.1 hf m

/-! ### Parts -/

theorem PeerEntry.holdsPart_of_heard {k : PartKind} {e : PeerEntry} {h : Nat} (has : e.heard k = some h) :
    e.holdsPart = true := by
  cases k
  · cases p : e.heat <;> simp_all [PeerEntry.heard, PeerEntry.holdsPart]
  · cases p : e.depart <;> simp_all [PeerEntry.heard, PeerEntry.holdsPart]
  · cases p : e.air <;> simp_all [PeerEntry.heard, PeerEntry.holdsPart]

/-- Removing an empty entry loses no part of it. -/
theorem bind_filter_holdsPart {α : Type} {g : PeerEntry → Option α} (part : ∀ e, e.holdsPart = false → g e = none)
    (o : Option PeerEntry) : (o.filter (·.holdsPart)).bind g = o.bind g := by
  cases o with
  | none => rfl
  | some e => cases holds : e.holdsPart <;> simp [Option.filter, holds, part]

theorem PeerEntry.heat_of_empty (e : PeerEntry) (h : e.holdsPart = false) : e.heat = none := by
  cases p : e.heat <;> simp_all [PeerEntry.holdsPart]

theorem PeerEntry.depart_of_empty (e : PeerEntry) (h : e.holdsPart = false) : e.depart = none := by
  cases p : e.depart <;> simp_all [PeerEntry.holdsPart]

theorem PeerEntry.air_of_empty (e : PeerEntry) (h : e.holdsPart = false) : e.air = none := by
  cases p : e.air <;> simp_all [PeerEntry.holdsPart]

theorem PeerEntry.heard_purge {k : PartKind} {now h : Nat} {e : PeerEntry} :
    (e.purge now).heard k = some h ↔ e.heard k = some h ∧ now ≤ h + 7000 := by
  cases k <;> simp only [PeerEntry.heard, PeerEntry.purge, Option.map_eq_some_iff, Option.filter_eq_some_iff, partOld,
    Config.partLife] <;> grind

/-! ### A claim heard -/

/-- Operations that read the table at most, settled: the table they began with, without the parts that are too old. -/
theorem settle_entries {a b : State} (h : PeersRead a b) : (settle b).peers.entries = (a.peers.purge a.now).entries := by
  rw [settle_peers]
  rcases (h.trans (c := { b with peers := b.peers.purge b.now }) ⟨rfl, .inr rfl⟩).2 with same | purged
  · have old : (b.peers.purge b.now).entries = a.peers.entries := same
    have twice := Peers.purge_purge b.now b.peers
    simp only [Peers.purge] at old twice ⊢
    rw [old] at twice ⊢
    rw [← h.1, twice]
  · exact purged

theorem settle_lowestGiven (s : State) : (settle s).peers.lowestGiven = lowestAir (settle s).peers.entries := by
  rw [settle_peers]

/-- A claim heard and settled, for every station (R98, R104). -/
theorem settle_claim {s b : State} (h : s.tableRight) {n : Nat} {f : PeerEntry → PeerEntry}
    (hf : ∀ e, (f e).station = e.station) (r : PeersRead (setPeer n f s) b) :
    (settle b).peers.entry n =
      (some ((f ((s.peers.entry n).getD (PeerEntry.blank n))).purge s.now)).filter (·.holdsPart) ∧
    ∀ m, m ≠ n → (settle b).peers.entry m = (s.peers.purge s.now).entry m := by
  have entry (m : Nat) : (settle b).peers.entry m =
      (((setPeer n f s).peers.entry m).map (·.purge s.now)).filter (·.holdsPart) := by
    have sorted : (setPeer n f s).peers.entries.Pairwise fun a b => a.station < b.station := pairwise_changeEntry h.1 hf
    rw [← Peers.entry_purge sorted, Peers.entry, settle_entries r]
    rfl
  refine ⟨?_, fun m ne => ?_⟩
  · rw [entry, setPeer_entry h hf, if_pos rfl]
    rfl
  · rw [entry, setPeer_entry h hf, if_neg ne, Peers.entry_purge h.1]

/-- The parts of a station's entry that a purge of the table leaves. -/
theorem bind_entry_purge {s : State} (h : s.tableRight) {α : Type} {g : PeerEntry → Option α}
    (part : ∀ e, e.holdsPart = false → g e = none) (n : Nat) :
    ((s.peers.purge s.now).entry n).bind g = g (((s.peers.entry n).getD (PeerEntry.blank n)).purge s.now) := by
  rw [Peers.entry_purge h.1, bind_filter_holdsPart part]
  cases s.peers.entry n with
  | none => exact (part _ rfl).symm
  | some e => rfl

theorem hearDepart_read (n : Nat) (part : DepartPart) (s : State) :
    PeersRead (setPeer n (fun e => { e with depart := some part }) s) (hearDepart n part s) := by
  unfold hearDepart
  split
  · exact .of_eq (by simp) (by simp)
  · exact .of_eq rfl rfl

theorem Reacted.giveLowestAir {a s : State} (h : Reacted a s) : Reacted a (Machine.giveLowestAir s) := by
  unfold Machine.giveLowestAir
  split
  · exact h
  · exact (h.withPeers _).recomputeLead

theorem partOld_self (now : Nat) : partOld now now = false :=
  decide_eq_false (by unfold Config.partLife; omega)

/-- A HOLDING part read with the table keeps the bay out of SETTLING (R151, R153). -/
theorem settle_holding_heard {s : State} {n : Nat} {part : DepartPart} (heard : ((settle s).peers.entry n).bind (·.depart) = some part)
    (holding : part.state = .holding) : (settle s).dep.state ≠ .settling := by
  intro settling
  obtain ⟨_, _, _, fresh⟩ := settle_laneSafe s settling
  obtain ⟨e, found, has⟩ := Option.bind_eq_some_iff.mp heard
  rw [Peers.entry] at found
  have mem := List.mem_of_find?_eq_some found
  have := (Peers.freshHolding_iff _).mpr ⟨e, mem, part, has, holding⟩
  rw [fresh] at this
  cases this

/-- Settles O44: a claim changes the entry of its station; the read of the settled table removes what is too old. -/
theorem peerClaimsReplaceTheirPart : Obligations.PeerClaimsReplaceTheirPart := by
  intro t n s on table
  have right : (s.heard t).tableRight := table
  refine ⟨fun low high other => ?_, fun stranger => ?_⟩
  · have peer : (s.heard t).isPeer n = true := State.isPeer_iff.mpr ⟨low, high, other⟩
    refine ⟨fun state wanted intended drawn power latest form => ?_, fun state countdown => ?_, fun temp => ?_⟩
    · obtain ⟨part, here⟩ : ∃ p : HeatPart, p = { state, wanted, power, latest, heard := max s.now t } := ⟨_, rfl⟩
      have entry := setPeer_entry right (n := n) (f := fun e => { e with heat := some part }) (fun _ => rfl)
      have effect : exec (.heatClaimReceived t n state wanted intended drawn power latest) s =
          .next (setPeer n (fun e => { e with heat := some part }) (s.heard t)) :=
        congrArg Host.Outcome.next ((receive_configured on).trans ((if_pos (by rw [peer, form]; rfl)).trans (by rw [here]; rfl)))
      rw [← here]
      refine ⟨_, effect, rfl, rfl, ?_, ?_, ?_, fun m ne => (entry m).trans (if_neg ne)⟩
      · rw [entry n, if_pos rfl]
        rfl
      all_goals
        rw [entry n, if_pos rfl, show (s.heard t).peers.entry n = s.peers.entry n from rfl]
        cases s.peers.entry n <;> rfl
    · have effect := execDepartClaimReceived_peer (t := t) (state := state) (countdown := countdown) on peer
      obtain ⟨part, here⟩ : ∃ p : DepartPart, p = { state, countdown, heard := max s.now t } := ⟨_, rfl⟩
      rw [← here] at effect ⊢
      obtain ⟨mine, others⟩ := settle_claim right (f := fun e => { e with depart := some part }) (fun _ => rfl)
        (hearDepart_read n part (s.heard t))
      have heard : ((settle (hearDepart n part (s.heard t))).peers.entry n).bind (·.depart) = some part := by
        rw [mine, bind_filter_holdsPart PeerEntry.depart_of_empty]
        exact (Option.filter_eq_some_iff (p := fun p : DepartPart => !partOld (max s.now t) p.heard)).mpr
          ⟨rfl, by rw [here]; exact congrArg not (partOld_self _)⟩
      refine ⟨_, effect, ((Reacted.refl _).hearDepart n part).trans (settle_reacted _), heard, ?_, ?_,
        fun holding => settle_holding_heard heard (by rw [here]; exact holding), others⟩
      · rw [mine, bind_filter_holdsPart PeerEntry.heat_of_empty]
        exact (bind_entry_purge right PeerEntry.heat_of_empty n).symm
      · rw [mine, bind_filter_holdsPart PeerEntry.air_of_empty]
        exact (bind_entry_purge right PeerEntry.air_of_empty n).symm
    · obtain ⟨part, here⟩ : ∃ p : AirPart, p = { temp := clampInt (-80) 120 temp, heard := max s.now t } := ⟨_, rfl⟩
      obtain ⟨mine, others⟩ := settle_claim right (f := fun e => { e with air := some part }) (fun _ => rfl)
        (giveLowestAir_read (setPeer n (fun e => { e with air := some part }) (s.heard t)))
      have effect : exec (.airTempReceived t n temp) s =
          .next (settle (giveLowestAir (setPeer n (fun e => { e with air := some part }) (s.heard t)))) :=
        congrArg Host.Outcome.next ((receive_configured on).trans ((if_pos peer).trans (by rw [here]; rfl)))
      rw [← here]
      refine ⟨_, effect, ((Reacted.refl _).setPeer n _).giveLowestAir.trans (settle_reacted _), ?_, ?_, ?_,
        settle_lowestGiven _, others⟩
      · rw [mine, bind_filter_holdsPart PeerEntry.air_of_empty]
        exact (Option.filter_eq_some_iff (p := fun p : AirPart => !partOld (max s.now t) p.heard)).mpr
          ⟨rfl, by rw [here]; exact congrArg not (partOld_self _)⟩
      · rw [mine, bind_filter_holdsPart PeerEntry.heat_of_empty]
        exact (bind_entry_purge right PeerEntry.heat_of_empty n).symm
      · rw [mine, bind_filter_holdsPart PeerEntry.depart_of_empty]
        exact (bind_entry_purge right PeerEntry.depart_of_empty n).symm
  · have none : (s.heard t).isPeer n = false := by
      rw [← Bool.not_eq_true, State.isPeer_iff]
      rintro ⟨low, high, other⟩
      rcases stranger with h | h | h
      · omega
      · omega
      · exact other h
    exact ⟨fun _ _ _ _ _ _ => congrArg Host.Outcome.next ((receive_configured on).trans (if_neg (by rw [none]; nofun))),
      fun _ _ => congrArg Host.Outcome.next ((receive_configured on).trans (if_neg (by rw [none]; nofun))),
      fun _ => congrArg Host.Outcome.next ((receive_configured on).trans (if_neg (by rw [none]; nofun)))⟩

/-! ### A part's expiry -/

theorem PeerEntry.heard_dropPart (k part : PartKind) (e : PeerEntry) :
    (e.dropPart part).heard k = if k = part then none else e.heard k := by
  cases k <;> cases part <;> rfl

/-- An entry as the expiry of a station's part leaves it (R103). -/
def PeerEntry.expire (now n : Nat) (part : PartKind) (e : PeerEntry) : PeerEntry :=
  if e.station = n ∧ fallenDue ((e.heard part).map (· + Config.partLife)) now = true then e.dropPart part else e

theorem PeerEntry.expire_station (now n : Nat) (part : PartKind) (e : PeerEntry) : (e.expire now n part).station = e.station := by
  unfold PeerEntry.expire
  split
  · exact PeerEntry.dropPart_station part e
  · rfl

theorem Peers.expirePart_eq (now n : Nat) (part : PartKind) (p : Peers) :
    p.expirePart now n part = { p with entries := (p.entries.map (·.expire now n part)).filter (·.holdsPart) } := rfl

/-- An expiry leaves a part that is younger, and every part but its own. -/
theorem PeerEntry.heard_expire {now n h : Nat} {part k : PartKind} {e : PeerEntry} :
    (e.expire now n part).heard k = some h ↔ e.heard k = some h ∧ (e.station = n → k = part → now < h + 7000) := by
  unfold PeerEntry.expire
  split
  · next due =>
    obtain ⟨here, due⟩ := due
    rw [PeerEntry.heard_dropPart]
    split
    · next same =>
      subst same
      refine ⟨nofun, fun ⟨has, young⟩ => ?_⟩
      rw [has] at due
      have late : h + 7000 ≤ now := of_decide_eq_true due
      have := young here rfl
      omega
    · next other => exact ⟨fun has => ⟨has, fun _ same => absurd same other⟩, And.left⟩
  · next stays =>
    refine ⟨fun has => ⟨has, fun here same => ?_⟩, And.left⟩
    subst same
    rw [has] at stays
    by_contra late
    exact stays ⟨here, decide_eq_true (by simpa [Config.partLife] using Nat.le_of_not_lt late)⟩

/-- Settles O45: the expiry removes its part where it is due, and the read of the settled table every part older than 7 s. -/
theorem partsExpireAfterSevenSeconds : Obligations.PartsExpireAfterSevenSeconds := by
  intro t n part s table
  have sorted : s.peers.entries.Pairwise fun a b => a.station < b.station := table.1
  have sorted' := pairwise_station_filter_map sorted (·.expire (max s.now t) n part) (PeerEntry.expire_station _ n part)
  have effect : exec (.peerPartExpiry t n part) s = .next (settle (giveLowestAir
      { s.advance t with peers := s.peers.expirePart (max s.now t) n part })) := rfl
  have reacted := ((Reacted.refl (s.advance t)).withPeers (s.peers.expirePart (max s.now t) n part)).giveLowestAir.trans
    (settle_reacted _)
  have entries : _ = ((s.peers.expirePart (max s.now t) n part).purge (max s.now t)).entries :=
    settle_entries (giveLowestAir_read { s.advance t with peers := s.peers.expirePart (max s.now t) n part })
  have lowest := settle_lowestGiven (giveLowestAir { s.advance t with peers := s.peers.expirePart (max s.now t) n part })
  generalize settle (giveLowestAir _) = u at effect reacted entries lowest
  have entry (m : Nat) : u.peers.entry m = ((((s.peers.entry m).map (·.expire (max s.now t) n part)).filter (·.holdsPart)).map
      (·.purge (max s.now t))).filter (·.holdsPart) := by
    have once := find_filter_map sorted (PeerEntry.expire_station (max s.now t) n part) m
    have twice := Peers.entry_purge (p := s.peers.expirePart (max s.now t) n part) sorted' (max s.now t) m
    rw [Peers.entry, entries]
    exact twice.trans (congrArg (fun o => (Option.map _ o).filter _) once)
  refine ⟨u, effect, reacted, fun e he => ?_, fun m k h has young => ?_, fun m none => ?_, lowest⟩
  · rw [entries] at he
    obtain ⟨holds, a, ha, rfl⟩ := PeerEntry.holdsPart_of_mem_purge he
    obtain ⟨b, hb, rfl⟩ := List.mem_map.mp (List.mem_of_mem_filter ha)
    refine ⟨holds, fun k h has => ?_⟩
    obtain ⟨has, young⟩ := PeerEntry.heard_purge.mp has
    obtain ⟨_, younger⟩ := PeerEntry.heard_expire.mp has
    exact ⟨young, fun here => younger ((PeerEntry.expire_station (max s.now t) n part b).symm.trans here)⟩
  · obtain ⟨e, found, has⟩ := Option.bind_eq_some_iff.mp has
    have expired : (e.expire (max s.now t) n part).heard k = some h := PeerEntry.heard_expire.mpr ⟨has, fun _ _ => young⟩
    have purged : ((e.expire (max s.now t) n part).purge (max s.now t)).heard k = some h :=
      PeerEntry.heard_purge.mpr ⟨expired, young.le⟩
    rw [entry, found]
    simp [Option.filter, PeerEntry.holdsPart_of_heard expired, PeerEntry.holdsPart_of_heard purged, purged]
  · rw [entry, none]
    rfl

end Sys2Proof.Machine
end

section
/-! SUPPORT. The allocation round taken at a claim period, through the reactions that end its event (O33). -/

namespace Sys2Proof.Machine

open Sys2Proof

/-! ### The heat record where the station contends -/

/-- The wanted stages of a station that contends (R126). -/
def State.wantedStages (s : State) : Nat :=
  if s.heat.atTarget then (if s.heat.keepWarm then 1 else 0) else s.start.image.stages

theorem drawsNothing_of_contends {h : HeatState} (contends : HeatState.contends h = true) : HeatState.drawsNothing h = false := by
  cases h <;> first | rfl | cases contends

/-- No condition keeps the station from contending: the first tests of R123. -/
def State.mayHeat (s : State) : Prop :=
  s.offCondition = false ∧ s.heat.heaterFault = false ∧ s.heat.called = true ∧ s.supply.sag = false

theorem State.mayHeat_of_contends {s : State} (h : HeatState.contends s.heatTest = true) : s.mayHeat := by
  unfold State.heatTest at h
  cases off : s.offCondition
  · cases fault : s.heat.heaterFault
    · cases called : s.heat.called
      · simp [off, fault, called, HeatState.contends] at h
      · cases sag : s.supply.sag
        · exact ⟨off, fault, called, sag⟩
        · simp [off, fault, called, sag, HeatState.contends] at h
    · simp [off, fault, HeatState.contends] at h
  · simp [off, HeatState.contends] at h

/-- A station that may contend follows at target and its grant. -/
theorem State.heatTest_of_mayHeat {s : State} (h : s.mayHeat) :
    s.heatTest = if s.heat.atTarget then .maintain else if 0 < s.heat.grant then .heating else .starved := by
  obtain ⟨off, fault, called, sag⟩ := h
  simp [State.heatTest, off, fault, called, sag]

theorem State.contends_of_mayHeat {s : State} (h : s.mayHeat) : HeatState.contends s.heatTest = true := by
  rw [State.heatTest_of_mayHeat h]
  split
  · rfl
  · split <;> rfl

/-- A contending state entered from a contending one changes nothing but the marks of STARVED. -/
theorem enterHeatState_contends {new : HeatState} {s : State} (h : HeatState.contends new = true)
    (contends : HeatState.contends s.heat.state = true) : (enterHeatState new s).heat = { s.heat with
      state := new,
      starvedRound := if s.heat.state = new then s.heat.starvedRound
        else if s.heat.state = .starved then false else s.heat.starvedRound } := by
  unfold enterHeatState
  by_cases same : new = s.heat.state
  · simp [same]
  · have on : s.heat.state ≠ .off := fun e => by rw [e] at contends; cases contends
    cases new <;> simp [Ne.symm same, same, on] at h ⊢ <;> cases h

/-- The state given afresh from a contending one to a contending one. -/
theorem evalHeat_contends {s : State} (h : s.mayHeat) (contends : HeatState.contends s.heat.state = true) :
    (evalHeat s).heat = { s.heat with
      state := s.heatTest,
      starvedRound := if s.heat.state = s.heatTest then s.heat.starvedRound
        else if s.heat.state = .starved then false else s.heat.starvedRound,
      wanted := s.wantedStages,
      drawn := min s.wantedStages s.heat.drawn } := by
  have entered := enterHeatState_contends (State.contends_of_mayHeat h) contends
  have wanted : (enterHeatState s.heatTest s).wantedNow = s.wantedStages := by
    unfold State.wantedNow State.wantedStages
    rw [entered, ((Reacted.refl s).enterHeatState s.heatTest).start, State.heatTest_of_mayHeat h]
    by_cases target : s.heat.atTarget = true
    · simp [target]
    · by_cases granted : 0 < s.heat.grant <;> simp [target, granted]
  obtain ⟨_, _, called, _⟩ := h
  unfold evalHeat
  dsimp only
  rw [updateCalled_of_called called, updateWanted_heat, wanted, entered]

/-- A state given afresh that contends stands with the stages it wants, and drew no more. -/
theorem evalHeat_stands {s : State} (h : HeatState.contends (evalHeat s).heat.state = true) :
    (evalHeat s).mayHeat ∧ (evalHeat s).heat.wanted = (evalHeat s).wantedStages ∧
      (evalHeat s).heat.drawn ≤ (evalHeat s).heat.wanted ∧ (evalHeat s).heat.announced = s.heat.announced := by
  have test := evalHeat_state s
  have free := State.mayHeat_of_contends (test ▸ h)
  obtain ⟨wanted, drawn⟩ := evalHeat_wanted s
  refine ⟨free, wanted.trans ?_, drawn, ?_⟩
  · unfold State.wantedNow State.wantedStages
    rw [test, State.heatTest_of_mayHeat free]
    by_cases target : (evalHeat s).heat.atTarget = true
    · simp [target]
    · by_cases granted : 0 < (evalHeat s).heat.grant <;> simp [target, granted]
  · have announced : (updateCalled s).heat.announced = s.heat.announced := by simp
    unfold evalHeat at h ⊢
    rw [updateWanted_heat] at h ⊢
    generalize updateCalled s = a at *
    dsimp only at h ⊢
    rcases enterHeatState_drawing a.heatTest a with ⟨_, _, _, kept, _⟩ | ⟨_, _, _, _, nothing⟩
    · exact kept.trans announced
    · rw [(enterHeatState_heat a.heatTest a).1] at h
      rw [drawsNothing_of_contends h] at nothing
      cases nothing

/-! ### The round -/

theorem Heat.announcement_overrule (h : Heat) (grant level : Nat) :
    (h.overrule grant).announcement level = if level ≤ grant then h.announcement level else none := by
  match level with
  | 0 => simp [Heat.announcement]
  | 1 => exact rfl
  | 2 => exact rfl
  | 3 => exact rfl
  | 4 => exact rfl
  | n + 5 => simp [Heat.announcement]

/-- The heat record as a round's grant leaves it (R131). -/
def Heat.granted (h : Heat) (grant : Nat) : Heat :=
  { Heat.overrule { h with
      drawn := min h.drawn grant, starvedRound := if h.state = .starved then true else h.starvedRound } grant with
    grant := grant, intended := grant }

theorem Heat.granted_keeps (h : Heat) (grant : Nat) : (h.granted grant).state = h.state ∧
    (h.granted grant).called = h.called ∧ (h.granted grant).atTarget = h.atTarget ∧ (h.granted grant).keepWarm = h.keepWarm ∧
    (h.granted grant).heaterFault = h.heaterFault := ⟨rfl, rfl, rfl, rfl, rfl⟩

theorem Heat.granted_values (h : Heat) (grant : Nat) : (h.granted grant).grant = grant ∧ (h.granted grant).intended = grant ∧
    (h.granted grant).drawn = min h.drawn grant ∧
    (h.granted grant).starvedRound = (if h.state = .starved then true else h.starvedRound) ∧
    ∀ level, (h.granted grant).announcement level = if level ≤ grant then h.announcement level else none :=
  ⟨rfl, rfl, rfl, rfl, Heat.announcement_overrule _ grant⟩

theorem roundDrawn_heat (s : State) : (roundDrawn s).heat = (roundRead s).heat.granted (roundRead s).ownGrant := by
  unfold roundDrawn Heat.granted
  rw [updateDrawing_heat_eq, markStarvedRound_heat]

theorem claimPeriodEffect_heat (s : State) : (claimPeriodEffect s).heat =
    { (takeRound s).heat with claimTimer := some (s.now + 2000) } := by
  simp [claimPeriodEffect, Config.claimPeriod]

theorem settle_heat_evalHeat (s : State) :
    (settle s).heat = (evalHeat (firstRead s)).heat ∧ (firstRead s).heat = s.heat := by
  refine ⟨?_, by simp [firstRead]⟩
  rw [settle_heat_react, react_firstRead, clearanceTests_heat]

theorem ownGrant_of_contends {s : State} (h : HeatState.contends s.heat.state = false) : s.ownGrant = 0 := by
  have no : s.ownCandidate = none := by
    unfold State.ownCandidate
    cases state : s.heat.state <;> rw [state] at h <;> first | rfl | cases h
  unfold State.ownGrant
  rw [no]

/-- Nothing granted, drawn or announced. -/
def Heat.idle (h : Heat) : Prop :=
  h.grant = 0 ∧ h.intended = 0 ∧ h.drawn = 0 ∧ ∀ level, h.announcement level = none

theorem Heat.announcement_less {a b : Heat} (h : a.AnnouncesLess b) {level : Nat} (none : a.announcement level = none) :
    b.announcement level = Option.none := by
  cases e : b.announcement level with
  | none => rfl
  | some v => rw [h level v e] at none; cases none

theorem Heat.idle.evalHeat {s : State} (h : s.heat.idle) : (evalHeat s).heat.idle := by
  obtain ⟨grant, intended, drawn, announced⟩ := h
  obtain ⟨less, announces, kept | dropped⟩ := evalHeat_drawing s
  · obtain ⟨grant', intended', _⟩ := kept
    exact ⟨grant'.trans grant, intended'.trans intended, by omega, fun level => Heat.announcement_less announces (announced level)⟩
  · obtain ⟨grant', intended', drawn'⟩ := dropped
    exact ⟨grant', intended', drawn', fun level => Heat.announcement_less announces (announced level)⟩

/-- A round that grants nothing leaves nothing drawn or announced. -/
theorem round_idle {s : State} (none : (roundRead s).ownGrant = 0) : (settle (claimPeriodEffect s)).heat.idle := by
  have drawn : (roundDrawn s).heat.idle := by
    rw [roundDrawn_heat, none]
    obtain ⟨grant, intended, drawn, _, announced⟩ := (roundRead s).heat.granted_values 0
    refine ⟨grant, intended, drawn.trans (Nat.min_zero _), fun level => (announced level).trans ?_⟩
    split
    · next low => rw [Nat.le_zero.mp low]; rfl
    · rfl
  have evaluated := drawn.evalHeat
  have taken : (takeRound s).heat = (evalHeat (roundDrawn s)).heat := by
    rw [takeRound_eq]
    rcases raiseDrawn_cases (evalHeat (roundDrawn s)) with e | ⟨_, lt, _⟩
    · rw [e]
    · rw [evaluated.2.1] at lt
      exact absurd lt (Nat.not_lt_zero _)
  obtain ⟨heat, same⟩ := settle_heat_evalHeat (claimPeriodEffect s)
  rw [heat]
  refine Heat.idle.evalHeat ?_
  rw [same, claimPeriodEffect_heat, taken]
  generalize (evalHeat (roundDrawn s)).heat = h at evaluated
  exact evaluated

/-- What lets a round raise drawn (R133). -/
def State.rises (r : State) : Prop :=
  r.heat.drawn < r.ownGrant ∧ r.heat.drawn < r.heat.wanted ∧
    ∃ a, r.heat.announcement (r.heat.drawn + 1) = some a ∧ a + 4000 ≤ r.now

theorem raiseDrawn_heat {s : State} (draws : s.heat.state = .heating ∨ s.heat.state = .maintain) :
    (s.heat.drawn < s.heat.intended ∧ s.heat.drawn < s.heat.wanted ∧
        (∃ a, s.heat.announcement (s.heat.drawn + 1) = some a ∧ a + 4000 ≤ s.now) →
      (raiseDrawn s).heat = { s.heat with drawn := s.heat.drawn + 1 }) ∧
    (¬(s.heat.drawn < s.heat.intended ∧ s.heat.drawn < s.heat.wanted ∧
        ∃ a, s.heat.announcement (s.heat.drawn + 1) = some a ∧ a + 4000 ≤ s.now) → (raiseDrawn s).heat = s.heat) := by
  refine ⟨fun ⟨low, wants, a, announced, due⟩ => ?_, fun no => ?_⟩
  · unfold raiseDrawn
    rw [if_pos ⟨draws, low, wants⟩, announced]
    exact (congrArg State.heat (if_pos due)).trans (setDrawn_heat _ _)
  · rcases raiseDrawn_cases s with e | ⟨_, low, wants, a, announced, due, _⟩
    · rw [e]
    · exact absurd ⟨low, wants, a, announced, due⟩ no

theorem State.offCondition_congr {a b : State} (start : b.start = a.start := by simp) (bay : b.bay = a.bay := by simp)
    (dep : b.dep = a.dep := by simp) (status : b.line.status = a.line.status := by simp)
    (conflict : b.line.conflict = a.line.conflict := by simp) : b.offCondition = a.offCondition := by
  unfold State.offCondition State.pluggedForHeat State.sessionOpen State.identity State.configured State.lineFault
  rw [start, bay, dep, status, conflict]

/-- Where nothing but drawing changes, the station may go on contending. -/
theorem State.mayHeat.congr {a b : State} (h : a.mayHeat) (off : b.offCondition = a.offCondition) (supply : b.supply = a.supply)
    (fault : b.heat.heaterFault = a.heat.heaterFault) (called : b.heat.called = a.heat.called) : b.mayHeat := by
  unfold State.mayHeat
  rw [off, supply, fault, called]
  exact h

theorem roundDrawn_keeps (s : State) : (roundDrawn s).start = (roundRead s).start ∧
    (roundDrawn s).offCondition = (roundRead s).offCondition ∧ (roundDrawn s).supply = (roundRead s).supply ∧
    (roundDrawn s).now = (roundRead s).now := by
  unfold roundDrawn
  exact ⟨by simp, State.offCondition_congr, by simp, by simp⟩

theorem claimPeriodEffect_from_drawn (s : State) : (claimPeriodEffect s).start = (roundDrawn s).start ∧
    (claimPeriodEffect s).offCondition = (roundDrawn s).offCondition ∧ (claimPeriodEffect s).supply = (roundDrawn s).supply := by
  have reads : Reacted s (roundRead s) := ((Reacted.refl s).readPeers).evalHeat
  obtain ⟨start, off, supply, _⟩ := roundDrawn_keeps s
  exact ⟨by simp [start, reads.start], by rw [off, reads.offCondition]; exact State.offCondition_congr, by simp [supply, reads.supply]⟩

/-- What a station that contends has before drawn may rise: the round's grant, drawn within it, and the announcements it leaves. -/
theorem roundEvaluated {s : State} (h : HeatState.contends (roundRead s).heat.state = true) :
    (evalHeat (roundDrawn s)).mayHeat ∧ (evalHeat (roundDrawn s)).heat = { (roundDrawn s).heat with
      state := (roundDrawn s).heatTest,
      starvedRound := if (roundRead s).heat.state = (roundDrawn s).heatTest then (roundDrawn s).heat.starvedRound
        else if (roundRead s).heat.state = .starved then false else (roundDrawn s).heat.starvedRound,
      wanted := (roundRead s).heat.wanted } := by
  obtain ⟨free, wants, draws, _⟩ := evalHeat_stands (s := readPeers s) h
  obtain ⟨start, off, supply, _⟩ := roundDrawn_keeps s
  obtain ⟨state, called, target, warm, fault⟩ := (roundRead s).heat.granted_keeps (roundRead s).ownGrant
  obtain ⟨_, _, drawn, _⟩ := (roundRead s).heat.granted_values (roundRead s).ownGrant
  rw [← roundDrawn_heat] at state called target warm fault drawn
  have drawnFree : (roundDrawn s).mayHeat := free.congr off supply fault called
  have wanted : (roundDrawn s).wantedStages = (roundRead s).heat.wanted := by
    rw [show (roundRead s).heat.wanted = (roundRead s).wantedStages from wants]
    unfold State.wantedStages
    rw [target, warm, start]
  have evaluated := evalHeat_contends drawnFree (by rw [state]; exact h)
  have within : (roundDrawn s).heat.drawn ≤ (roundRead s).heat.wanted := by
    rw [drawn]
    exact (Nat.min_le_left _ _).trans draws
  refine ⟨?_, ?_⟩
  · have reads : Reacted (roundDrawn s) (evalHeat (roundDrawn s)) := (Reacted.refl _).evalHeat
    exact drawnFree.congr reads.offCondition reads.supply reads.heaterFault (by rw [evaluated])
  · rw [evaluated, wanted, state, Nat.min_eq_right within]

/-- Drawn at the end of a contending station's round (R133). -/
theorem takeRound_contends {s : State} (h : HeatState.contends (roundRead s).heat.state = true) :
    ∃ drawn, (takeRound s).heat = { (evalHeat (roundDrawn s)).heat with drawn := drawn } ∧
      drawn ≤ (roundRead s).heat.wanted ∧ ((roundRead s).rises → drawn = (roundRead s).heat.drawn + 1) ∧
      (¬(roundRead s).rises → drawn = min (roundRead s).heat.drawn (roundRead s).ownGrant) := by
  obtain ⟨free, evaluated⟩ := roundEvaluated h
  obtain ⟨_, _, draws, _⟩ := evalHeat_stands (s := readPeers s) h
  obtain ⟨granted, intended, drawn, _, announced⟩ := (roundRead s).heat.granted_values (roundRead s).ownGrant
  rw [← roundDrawn_heat] at granted intended drawn announced
  have now : (evalHeat (roundDrawn s)).now = (roundRead s).now := by
    rw [((Reacted.refl (roundDrawn s)).evalHeat).now, (roundDrawn_keeps s).2.2.2]
  have test := State.heatTest_of_mayHeat free
  have state := evalHeat_state (roundDrawn s)
  rw [takeRound_eq]
  generalize roundDrawn s = d at *
  have intended' : (evalHeat d).heat.intended = (roundRead s).ownGrant := by rw [evaluated]; exact intended
  have granted' : (evalHeat d).heat.grant = (roundRead s).ownGrant := by rw [evaluated]; exact granted
  have drawn' : (evalHeat d).heat.drawn = min (roundRead s).heat.drawn (roundRead s).ownGrant := by
    rw [evaluated]; exact drawn
  have wanted' : (evalHeat d).heat.wanted = (roundRead s).heat.wanted := by rw [evaluated]
  have announced' (level : Nat) : (evalHeat d).heat.announcement level =
      if level ≤ (roundRead s).ownGrant then (roundRead s).heat.announcement level else none := by
    rw [evaluated]; exact announced level
  generalize evalHeat d = e at *
  have draws' : (roundRead s).heat.drawn ≤ (roundRead s).heat.wanted := draws
  generalize roundRead s = r at *
  by_cases rises : r.rises
  · obtain ⟨low, wants, a, announcement, due⟩ := rises
    have stays : e.heat.drawn = r.heat.drawn := drawn'.trans (Nat.min_eq_left low.le)
    have active : e.heat.state = .heating ∨ e.heat.state = .maintain := by
      rw [state, test, granted']
      split
      · exact .inr rfl
      · rw [if_pos (Nat.zero_lt_of_lt low)]; exact .inl rfl
    refine ⟨r.heat.drawn + 1, ?_, wants, fun _ => rfl, fun no => absurd ⟨low, wants, a, announcement, due⟩ no⟩
    rw [← stays]
    refine (raiseDrawn_heat active).1 ⟨by omega, by omega, a, ?_, by rw [now]; exact due⟩
    rw [announced', stays, if_pos (Nat.succ_le_of_lt low)]
    exact announcement
  · refine ⟨e.heat.drawn, ?_, by omega, fun yes => absurd yes rises, fun _ => drawn'⟩
    rcases raiseDrawn_cases e with same | ⟨_, low, wants, a, announcement, due, _⟩
    · rw [same]
    · have less : r.heat.drawn < r.ownGrant := by omega
      have stays : e.heat.drawn = r.heat.drawn := drawn'.trans (Nat.min_eq_left less.le)
      rw [announced', stays, if_pos (Nat.succ_le_of_lt less)] at announcement
      exact absurd ⟨less, by omega, a, announcement, by rw [← now]; exact due⟩ rises

/-- A round of a station that contends, through the reactions. -/
theorem round_contends {s : State} (h : HeatState.contends (roundRead s).heat.state = true) :
    ∃ drawn, (settle (claimPeriodEffect s)).heat =
        { (evalHeat (roundDrawn s)).heat with drawn := drawn, claimTimer := some (s.now + 2000) } ∧
      ((roundRead s).rises → drawn = (roundRead s).heat.drawn + 1) ∧
      (¬(roundRead s).rises → drawn = min (roundRead s).heat.drawn (roundRead s).ownGrant) := by
  obtain ⟨⟨_, _, called, _⟩, evaluated⟩ := roundEvaluated h
  obtain ⟨drawn, taken, within, values⟩ := takeRound_contends h
  have effect := claimPeriodEffect_heat s
  rw [taken] at effect
  obtain ⟨settled, same⟩ := settle_heat_evalHeat (claimPeriodEffect s)
  have reads := firstRead_reacted (claimPeriodEffect s)
  have test : (firstRead (claimPeriodEffect s)).heatTest = (evalHeat (roundDrawn s)).heatTest :=
    (reads.heatTest same).trans (claimPeriodEffect_heatTest taken)
  have state := evalHeat_state (roundDrawn s)
  have start : (firstRead (claimPeriodEffect s)).start = (evalHeat (roundDrawn s)).start := by
    rw [reads.start, (claimPeriodEffect_from_drawn s).1, ((Reacted.refl (roundDrawn s)).evalHeat).start]
  have wanted : (evalHeat (roundDrawn s)).wantedNow = (roundRead s).heat.wanted := by
    rw [← (evalHeat_wanted (roundDrawn s)).1, evaluated]
  refine ⟨drawn, ?_, values⟩
  rw [settled]
  generalize firstRead (claimPeriodEffect s) = c at *
  generalize evalHeat (roundDrawn s) = e at *
  rw [effect] at same
  have wanted' : c.wantedNow = (roundRead s).heat.wanted := by
    rw [← wanted]
    unfold State.wantedNow
    rw [same, start]
  have standing := evalHeat_of_standing (s := c) (by rw [same]; exact called) (by rw [same, test]; exact state)
  have wants : e.heat.wanted = (roundRead s).heat.wanted := by rw [evaluated]
  rw [standing, wanted', same, ← wants]
  dsimp only
  rw [Nat.min_eq_right (by rw [wants]; exact within)]

/-- What a claim period leaves beside the heat record (R128, R161). -/
theorem claimPeriod_settled {s : State} (on : s.configured = true) :
    (settle (claimPeriodEffect s)).pending = s.pending ∧ (settle (claimPeriodEffect s)).now = s.now ∧
      (settle (claimPeriodEffect s)).bay.session = s.bay.session ∧ (settle (claimPeriodEffect s)).supply = s.supply ∧
      (settle (claimPeriodEffect s)).heat.claimTimer = some (s.now + 2000) ∧
      (settle (claimPeriodEffect s)).line.departSlot = true ∧ (settle (claimPeriodEffect s)).line.heatSlot = true := by
  have r := settle_reacted (claimPeriodEffect s)
  obtain ⟨timed, same⟩ : ∃ a, a = { takeRound s with heat := { (takeRound s).heat with
      claimTimer := some (s.now + Config.claimPeriod) } } := ⟨_, rfl⟩
  have on' : timed.configured = true := by
    rw [same]
    unfold State.configured at on ⊢
    simpa using on
  have effect : claimPeriodEffect s = makeDepartDue (makeHeatDue timed) := by rw [same]; rfl
  have heatDue : (makeHeatDue timed).line.heatSlot = true := by unfold makeHeatDue; rw [if_pos on']
  have departDue : (makeDepartDue (makeHeatDue timed)).line.departSlot = true :=
    makeDepartDue_departSlot (by unfold State.configured at on' ⊢; simpa using on')
  have due := settle_due (claimPeriodEffect s)
  refine ⟨?_, ?_, ?_, ?_, ?_, due.depart (effect ▸ departDue), due.heat ?_⟩
  · rw [r.pending]; simp
  · rw [r.now]; simp
  · rw [r.session]; simp
  · rw [r.supply]; simp
  · rw [r.claimTimer, claimPeriodEffect_heat]
  · rw [effect]
    exact (makeDepartDue_due _).heat heatDue

/-- Settles O33: a station that contends stands through the reactions with what its round gives it, and any other is given nothing. -/
theorem claimPeriodTakesTheRound : Obligations.ClaimPeriodTakesTheRound := by
  intro t d s timer due on
  have effect : exec (.claimPeriodExpiry t) s = .next (settle (claimPeriodEffect (s.advance t))) :=
    congrArg Host.Outcome.next (onDue_at (s := s) (t := t) timer due)
  obtain ⟨pending, now, session, supply, claims, depart, heat⟩ := claimPeriod_settled (s := s.advance t) on
  refine ⟨_, effect, pending, now, session, supply, claims, depart, heat, fun r read => ?_⟩
  have read : r = roundRead (s.advance t) := read
  cases contends : HeatState.contends r.heat.state
  · have nothing : (roundRead (s.advance t)).ownGrant = 0 := by rw [← read]; exact ownGrant_of_contends contends
    obtain ⟨granted, intended, drawn, announced⟩ := round_idle nothing
    rw [read, nothing, granted, intended, drawn]
    refine ⟨rfl, rfl, Nat.le_refl _, fun level => ?_, fun rises iff => ⟨fun yes => ?_, fun _ => (Nat.min_zero _).symm⟩, fun starved => ?_⟩
    · rw [announced]
      split
      · next low => rw [Nat.le_zero.mp low]; rfl
      · rfl
    · exact absurd (iff.mp yes).2.1 (Nat.not_lt_zero _)
    · rw [read, starved] at contends
      cases contends
  · rw [read] at contends
    obtain ⟨drawn, heat, raised, kept⟩ := round_contends contends
    obtain ⟨_, evaluated⟩ := roundEvaluated contends
    obtain ⟨_, _, _, same⟩ := evalHeat_stands (s := readPeers (s.advance t)) contends
    have same : (roundRead (s.advance t)).heat.announced = s.heat.announced := same.trans (by simp)
    have now : (roundRead (s.advance t)).now = max s.now t := ((Reacted.refl (s.advance t)).readPeers.evalHeat).now
    obtain ⟨granted, intended, _, starved, announced⟩ :=
      (roundRead (s.advance t)).heat.granted_values (roundRead (s.advance t)).ownGrant
    rw [← roundDrawn_heat] at granted intended starved announced
    rw [read, heat, evaluated]
    generalize roundDrawn (s.advance t) = b at *
    generalize roundRead (s.advance t) = r at *
    have active : r.heat.state = .starved ∨ r.heat.state = .heating ∨ r.heat.state = .maintain := by
      cases state : r.heat.state <;> rw [state] at contends <;> simp [HeatState.contends] at contends ⊢
    refine ⟨granted, intended, ?_, fun level => ?_, fun rises iff => ⟨fun yes => raised ?_, fun no => kept ?_⟩, fun began ends => ?_⟩
    · by_cases rises : r.rises
      · exact (raised rises).le.trans rises.1
      · exact (kept rises).le.trans (Nat.min_le_right ..)
    · exact (announced level).trans (by rw [Heat.announcement_congr same])
    · obtain ⟨_, low, wants, a, announcement, late⟩ := iff.mp yes
      exact ⟨low, wants, a, by rw [Heat.announcement_congr same]; exact announcement, by rw [now]; exact late⟩
    · rintro ⟨low, wants, a, announcement, late⟩
      rw [Heat.announcement_congr same] at announcement
      exact no (iff.mpr ⟨active, low, wants, a, announcement, by rw [← now]; exact late⟩)
    · dsimp only at ends ⊢
      rw [if_pos (began.trans ends.symm), starved, if_pos began]

end Sys2Proof.Machine
end

section
/-! SUPPORT. The probe and the meter: a window's verdict through the reactions that end its event (O36). -/

namespace Sys2Proof.Machine

open Sys2Proof

/-! ### The probe -/

/-- A sample is taken with an AIR_TEMP due, and the lead recomputed (R111). -/
theorem sampleProbe_reacted {s : State} (on : s.configured = true) (sample : Int) :
    Reacted { s with
      lead := { s.lead with probe := some (clampInt (-80) 120 sample), probeTimer := some (s.now + 10000) },
      line := { s.line with airSlot := true } } (sampleProbe sample s) := by
  have r := (Reacted.refl { s with
    lead := { s.lead with probe := some (clampInt (-80) 120 sample), probeTimer := some (s.now + 10000) } }).recomputeLead
  have taken : sampleProbe sample s = makeAirDue (recomputeLead { s with
    lead := { s.lead with probe := some (clampInt (-80) 120 sample), probeTimer := some (s.now + 10000) } }) := rfl
  rw [taken]
  generalize recomputeLead _ = y at r
  have on' : y.configured = true := r.configured.trans on
  unfold makeAirDue
  rw [if_pos on']
  obtain ⟨line, content⟩ := And.intro r.line r.inFlight
  refine { r with line := ?_, inFlight := ?_ }
  · dsimp only at line ⊢
    rw [line]
  · rw [← content, Option.map_map]
    refine Option.map_congr fun f _ => ?_
    dsimp only [Function.comp]
    split <;> rfl

/-! ### The window through the heat state -/

/-- A metering window that has just begun (R137). -/
def State.metersAnew (s : State) : Prop := s.meter.count = 0 ∧ s.meter.window = some (s.now + 60000)

theorem State.metersAnew.setDrawn {s : State} (h : s.metersAnew) (n : Nat) : (setDrawn n s).metersAnew := by
  unfold Machine.setDrawn
  split
  · exact h
  · exact ⟨rfl, by rw [Meter.restart, h.2]; rfl⟩

theorem State.metersAnew.congr {a b : State} (h : a.metersAnew) (meter : b.meter = a.meter := by simp)
    (now : b.now = a.now := by simp) : b.metersAnew := by
  unfold State.metersAnew
  rw [meter, now]
  exact h

theorem State.metersAnew.dropAll {s : State} (h : s.metersAnew) : (dropAll s).metersAnew :=
  (h.setDrawn 0).congr rfl rfl

theorem State.metersAnew.withHeat {s : State} (h : s.metersAnew) (x : Heat) : State.metersAnew { s with heat := x } := h

theorem State.metersAnew.entersOff {s : State} (h : s.metersAnew) (x : Heat) :
    (stopPoll (clearAtTarget { s with heat := x })).metersAnew := h

theorem State.metersAnew.claims {s : State} (h : s.metersAnew) (polls : Prop) [Decidable polls] :
    (makeHeatDue (if polls then startPoll s else s)).metersAnew := by
  split
  · exact h.congr (by simp [startPoll]) (by simp [startPoll])
  · exact h.congr

theorem State.metersAnew.enterHeatState {s : State} (h : s.metersAnew) (new : HeatState) :
    (enterHeatState new s).metersAnew := by
  unfold Machine.enterHeatState
  split
  · exact h
  · refine State.metersAnew.claims ?_ _
    cases new
    case off => exact (State.metersAnew.dropAll (h.withHeat _)).entersOff _
    case shed => exact (h.withHeat _).dropAll
    case fault => exact (h.withHeat _).dropAll
    all_goals exact h.withHeat _

theorem State.metersAnew.evalHeat {s : State} (h : s.metersAnew) : (evalHeat s).metersAnew := by
  have called : (updateCalled s).metersAnew := h.congr
  have entered := called.enterHeatState (updateCalled s).heatTest
  unfold Machine.evalHeat updateWanted
  dsimp only
  split
  · exact (entered.withHeat _).setDrawn _
  · exact entered.withHeat _

theorem State.metersAnew.settle {s : State} (h : s.metersAnew) : (settle s).metersAnew := by
  have evaluated := (h.congr (b := firstRead s) (by simp [firstRead]) (by simp [firstRead])).evalHeat
  refine evaluated.congr ?_ ?_
  · rw [settle_again, react_firstRead]
    simp
  · rw [(settle_reacted s).now, ((Reacted.refl (firstRead s)).evalHeat).now, (firstRead_reacted s).now]

/-! ### The station's records through the reactions -/

/-- The records of the station's own causes. -/
def Faults.stations (f : Faults) : List FaultRecord := f.records.filter fun r => decide (r.origin = .station)

theorem filter_station_map {l : List FaultRecord} {g : FaultRecord → FaultRecord} (origin : ∀ r, (g r).origin = r.origin)
    (own : ∀ r, r.origin = .station → g r = r) :
    (l.map g).filter (fun r => decide (r.origin = .station)) = l.filter fun r => decide (r.origin = .station) := by
  induction l with
  | nil => rfl
  | cons r rest ih =>
    by_cases mine : r.origin = .station
    · simp [mine, own r mine, ih]
    · simp [mine, origin, ih]

theorem startPass_stations (s : State) : (startPass s).faults.stations = s.faults.stations := by
  have begun : s.faults.beginPass.stations = s.faults.stations :=
    filter_station_map (fun r => by split <;> rfl) fun r own => if_neg fun k => by rw [own] at k; cases k.1
  unfold startPass raiseFaultNext
  split
  · split <;> exact begun
  · rfl

theorem Faults.inactivateLamps_stations (f : Faults) : f.inactivateLamps.stations = f.stations :=
  filter_station_map (fun r => by split <;> rfl) fun r own => if_neg fun k => by rw [own] at k; cases k

/-- The link is UP wherever the bay is CONNECTED. -/
def State.connectedUp (s : State) : Prop := s.bay.occupancy = .connected → s.link.state = .up

/-- A check's start makes the LAMP records inactive, and offers nothing while the link is UP (R64). -/
theorem startCheck_faults {s : State} (up : s.connectedUp) :
    (startCheck s).faults = s.faults ∨ (startCheck s).faults = s.faults.inactivateLamps := by
  by_cases allowed : s.checkAllowed = true
  · right
    obtain ⟨program, works⟩ : ∃ program, program = (s.figures.map (·.program)).getD [] := ⟨_, rfl⟩
    have link : s.link.state = .up := up (by
      simp only [State.checkAllowed, Bool.and_eq_true, decide_eq_true_eq] at allowed
      exact allowed.1.1.1.1.2)
    have same : startCheck s = if program.isEmpty then completeCheck (s.checkBegun program) else beginStep (s.checkBegun program) := by
      unfold startCheck
      rw [if_pos allowed, works]
      rfl
    rw [same]
    split
    · rfl
    · unfold beginStep
      split
      · rfl
      · exact (startStep_keeps_check (s := s.checkBegun program) link).2.2.2.2
  · left
    unfold startCheck
    rw [if_neg allowed]

theorem startCheck_stations {s : State} (up : s.connectedUp) : (startCheck s).faults.stations = s.faults.stations := by
  rcases startCheck_faults up with e | e <;> rw [e]
  exact Faults.inactivateLamps_stations _

theorem react_stations {s : State} (up : s.connectedUp) : (react s).faults.stations = s.faults.stations := by
  have same : (react s).faults = (startCheck (startPass s)).faults := by
    rw [react_eq]
    simp
  have r : Reacted s (startPass s) := (Reacted.refl s).startPass
  rw [same, startCheck_stations fun on => r.linkState.trans (up (r.occupancy.symm.trans on)), startPass_stations]

theorem settle_stations {s : State} (up : s.connectedUp) : (settle s).faults.stations = s.faults.stations := by
  have r : Reacted s (react s) := (Reacted.refl s).react
  rw [settle_faults, startPass_stations, react_stations fun on => r.linkState.trans (up (r.occupancy.symm.trans on)),
    react_stations up]

theorem Faults.reports_iff {f : Faults} {cause : Nat} :
    f.reports cause ↔ ∃ r ∈ f.stations, r.module = cause ∧ r.active = true := by
  unfold Faults.reports Faults.stations
  simp [and_assoc]

/-- A cause offered in an open session into a list with room is reported at the end of the event. -/
theorem settle_reports {s : State} (up : s.connectedUp) {cause : Nat} (h : s.faults.reports cause) :
    (settle s).faults.reports cause := by
  rw [Faults.reports_iff] at h ⊢
  rwa [settle_stations up]

theorem offerStation_reports {s : State} (on : s.sessionOpen = true) (room : s.faults.records.length < 24) (cause : Nat) :
    (offerStation cause s).faults.reports cause := by
  obtain ⟨r, mem, origin, module, _, active⟩ := offerFault_reports on room
    { origin := .station, module := cause, code := 0, severity := .advisory, count := 1 }
  exact ⟨r, mem, origin, module, active⟩

/-- A cause offered and the event's reactions (R43). -/
theorem offerStation_settled {s : State} (up : s.connectedUp) (cause : Nat) (on : s.sessionOpen = true)
    (room : s.faults.records.length < 24) : (settle (offerStation cause s)).faults.reports cause := by
  have link : (offerStation cause s).link = s.link := by simp [offerStation]
  have bay : (offerStation cause s).bay = s.bay := by simp [offerStation]
  exact settle_reports (fun c => link ▸ up (bay ▸ c)) (offerStation_reports on room cause)

/-! ### The window's verdict -/

/-- A full window's state, its count taken and the next window begun (R137). -/
def State.windowed (s : State) (t : Nat) : State :=
  { s.advance t with meter := { s.meter with count := 0, window := some (max s.now t + 60000) } }

theorem State.metersAnew.applyVerdict {s : State} (h : s.metersAnew) (v : MeterVerdict) (metered : Nat) :
    (applyVerdict v metered s).metersAnew := by
  have again (run : Nat) : State.metersAnew { s with meter := { s.meter with overdrawRun := run } } := h
  unfold Machine.applyVerdict
  split
  · split
    · exact again 1
    · have evaluated := ((again 0).withHeat { s.heat with heaterFault := true }).evalHeat
      unfold heaterOverdrawn
      exact evaluated.congr (by simp [offerStation]) (by simp [offerStation])
  · dsimp only
    split
    · exact again 0
    · exact State.metersAnew.congr (again 0) (by simp [offerStation]) (by simp [offerStation])
  · exact State.metersAnew.congr (again 0) (by simp [offerStation]) (by simp [offerStation])
  · exact again 0
  · exact again 0

/-- What a verdict leaves to the end of the event: the bay, the link's state, the supply and the next window. -/
theorem applyVerdict_settled {s : State} (t : Nat) (v : MeterVerdict) (metered : Nat) :
    (settle (applyVerdict v metered (s.windowed t))).pending = s.pending ∧
      (settle (applyVerdict v metered (s.windowed t))).bay.session = s.bay.session ∧
      (settle (applyVerdict v metered (s.windowed t))).supply = s.supply ∧
      (settle (applyVerdict v metered (s.windowed t))).meter.count = 0 ∧
      (settle (applyVerdict v metered (s.windowed t))).meter.window = some (max s.now t + 60000) := by
  have r := settle_reacted (applyVerdict v metered (s.windowed t))
  have anew : (s.windowed t).metersAnew := ⟨rfl, rfl⟩
  obtain ⟨count, window⟩ := (anew.applyVerdict v metered).settle
  refine ⟨?_, ?_, ?_, count, window.trans ?_⟩
  · rw [r.pending]; simp [State.windowed]
  · rw [r.session]; simp [State.windowed]
  · rw [r.supply]; simp [State.windowed]
  · rw [r.now]; simp [State.windowed, State.advance]

/-- A station with a heater fault draws nothing. -/
theorem evalHeat_fault {s : State} (fault : s.heat.heaterFault = true) : (evalHeat s).heat.drawn = 0 := by
  have kept : (evalHeat s).heat.heaterFault = true := ((Reacted.refl s).evalHeat.heaterFault).trans fault
  have state := evalHeat_state s
  obtain ⟨wanted, drawn⟩ := evalHeat_wanted s
  have nothing : (evalHeat s).wantedNow = 0 := by
    unfold State.wantedNow
    rw [state]
    cases off : (evalHeat s).offCondition <;> simp [State.heatTest, off, kept]
  omega

/-- A second overdraw in a row (R138). -/
theorem heaterOverdrawn_settled {s : State} (metered : Nat) (up : s.connectedUp) :
    (settle (heaterOverdrawn metered s)).meter.overdrawRun = 0 ∧ (settle (heaterOverdrawn metered s)).heat.heaterFault = true ∧
      (settle (heaterOverdrawn metered s)).heat.drawn = 0 ∧
      (settle (heaterOverdrawn metered s)).notices.tells .heaterOverdraw (min metered 65535) = true ∧
      (s.sessionOpen = true → s.faults.records.length < 24 → (settle (heaterOverdrawn metered s)).faults.reports 2) := by
  obtain ⟨faulted, made⟩ : ∃ a, a = ({ s with
    heat := { s.heat with heaterFault := true }, meter := { s.meter with overdrawRun := 0 } } : State) := ⟨_, rfl⟩
  have fault : faulted.heat.heaterFault = true := by rw [made]
  have evaluated : Reacted faulted (evalHeat faulted) := (Reacted.refl _).evalHeat
  have effect : heaterOverdrawn metered s = raiseEdge .heaterOverdraw (min metered 65535) (offerStation 2 (evalHeat faulted)) := by
    rw [made]; rfl
  have r := settle_reacted (heaterOverdrawn metered s)
  have link : (heaterOverdrawn metered s).link.state = s.link.state := by simp
  have bay : (heaterOverdrawn metered s).bay = s.bay := by simp
  refine ⟨?_, ?_, ?_, ?_, fun on room => settle_reports (fun c => link.trans (up (bay ▸ c))) ?_⟩
  · rw [r.overdrawRun]; simp
  · rw [r.heaterFault, effect]
    simpa [offerStation] using evaluated.heaterFault.trans fault
  · have none : (heaterOverdrawn metered s).heat.drawn = 0 := by
      rw [effect]
      simpa [offerStation] using evalHeat_fault fault
    exact Nat.le_zero.mp (none ▸ r.drawn)
  · rw [settle_tells (src := .heaterOverdraw) rfl nofun nofun, effect]
    exact raiseEdge_tells ..
  · have faults : (evalHeat faulted).faults = s.faults := by simp [made]
    rw [effect, show (raiseEdge .heaterOverdraw (min metered 65535) (offerStation 2 (evalHeat faulted))).faults =
      (offerStation 2 (evalHeat faulted)).faults from by simp]
    refine offerStation_reports (evaluated.sessionOpen.trans ?_) (by rw [faults]; exact room) 2
    rw [made]
    exact on

/-- Settles O36: the verdict's own effect, and the reactions that leave the window, the marks and the station's records. -/
theorem probeAndMeterTakeTheirTimes : Obligations.ProbeAndMeterTakeTheirTimes := by
  refine ⟨fun t d sample s timer due on => ?_, fun t s => ?_, fun t d metered expected s window due up hm he => ?_⟩
  · have effect : exec (.probeTimerExpiry t sample) s = .next (settle (sampleProbe sample (s.advance t))) :=
      congrArg Host.Outcome.next (onDue_at (s := s) (t := t) timer due)
    exact ⟨_, effect, (sampleProbe_reacted (s := s.advance t) on sample).trans (settle_reacted _)⟩
  · refine congrArg Host.Outcome.next ?_
    cases window : s.meter.window <;> simp [State.advance, window]
  · have effect : exec (.meterWindowExpiry t) s = .next (settle
        (applyVerdict (meterVerdict s.heat.drawn metered expected s.meter.count) metered (s.windowed t))) := by
      rw [hm, he]
      exact congrArg Host.Outcome.next (onDue_at (s := s) (t := t) window due)
    have up' : (s.windowed t).connectedUp := up
    generalize verdict : meterVerdict s.heat.drawn metered expected s.meter.count = v at effect
    obtain ⟨pending, session, supply, count, next⟩ := applyVerdict_settled (s := s) t v metered
    have r := settle_reacted (applyVerdict v metered (s.windowed t))
    refine ⟨_, effect, pending, session, supply, count, next, fun draws above none => ?_, fun draws above again => ?_,
      fun draws within low => ?_, fun idle pulses => ?_, fun well => ?_⟩
    · have hv : v = .overdraw := by rw [← verdict]; simp [meterVerdict, draws, above]
      have first : applyVerdict v metered (s.windowed t) =
          { s.windowed t with meter := { (s.windowed t).meter with overdrawRun := 1 } } := by
        rw [hv]; exact if_pos none
      rw [r.overdrawRun, r.heaterFault, r.weakFound, first]
      exact ⟨rfl, rfl, rfl⟩
    · have hv : v = .overdraw := by rw [← verdict]; simp [meterVerdict, draws, above]
      have second : applyVerdict v metered (s.windowed t) = heaterOverdrawn metered (s.windowed t) := by
        rw [hv]; exact if_neg again
      rw [second]
      exact heaterOverdrawn_settled metered up'
    · have hv : v = .weak := by rw [← verdict]; simp [meterVerdict, draws, Nat.not_lt.mpr within, low]
      obtain ⟨b, made⟩ : ∃ b, b = ({ s.windowed t with meter := { (s.windowed t).meter with overdrawRun := 0 } } : State) := ⟨_, rfl⟩
      cases found : s.heat.weakFound
      · have new : applyVerdict v metered (s.windowed t) = offerStation 3 { b with heat := { b.heat with weakFound := true } } := by
          rw [hv, made]; exact if_neg (by rw [show (s.windowed t).heat.weakFound = _ from found]; nofun)
        rw [r.overdrawRun, r.heaterFault, r.weakFound, new]
        refine ⟨by simp [offerStation, made], by simp [offerStation, made, State.windowed], by simp [offerStation],
          fun _ on room => offerStation_settled (by rw [made]; exact up') 3 (by rw [made]; exact on) (by rw [made]; exact room),
          nofun⟩
      · have known : applyVerdict v metered (s.windowed t) = b := by
          rw [hv, made]; exact if_pos found
        rw [r.overdrawRun, r.heaterFault, r.weakFound, known]
        refine ⟨by simp [made], by simp [made, State.windowed], by rw [made]; exact found, nofun, fun _ => ?_⟩
        refine (settle_stations (s := b) (by rw [made]; exact up')).trans ?_
        rw [made]
        rfl
    · have hv : v = .stray := by rw [← verdict]; simp [meterVerdict, idle, pulses]
      obtain ⟨b, made⟩ : ∃ b, b = ({ s.windowed t with meter := { (s.windowed t).meter with overdrawRun := 0 } } : State) := ⟨_, rfl⟩
      have strays : applyVerdict v metered (s.windowed t) = offerStation 4 b := by rw [hv, made]; rfl
      rw [r.overdrawRun, r.heaterFault, strays]
      exact ⟨by simp [offerStation, made], by simp [offerStation, made, State.windowed],
        fun on room => offerStation_settled (by rw [made]; exact up') 4 (by rw [made]; exact on) (by rw [made]; exact room)⟩
    · have hv : v = .inRange ∨ v = .quiet := by
        rw [← verdict]
        rcases well with ⟨draws, within, enough⟩ | ⟨idle, few⟩
        · exact .inl (by simp [meterVerdict, draws, Nat.not_lt.mpr within, Nat.not_lt.mpr enough])
        · exact .inr (by simp [meterVerdict, idle, few])
      have clears : applyVerdict v metered (s.windowed t) =
          { s.windowed t with meter := { (s.windowed t).meter with overdrawRun := 0 } } := by
        rcases hv with hv | hv <;> rw [hv] <;> rfl
      rw [r.overdrawRun, r.heaterFault, r.weakFound, clears]
      exact ⟨rfl, rfl, rfl⟩

end Sys2Proof.Machine
end

section
/-! SUPPORT. The link unplugged (O13) and lost (O18): what leaves it, and what the reactions find then. -/

namespace Sys2Proof.Machine

open Sys2Proof

/-! ### A pass abandoned, a cache gone stale -/

theorem abandonPass_passOwed (owes : Bool) (s : State) :
    (abandonPass owes s).link.passOwed = (s.link.passOwed || (s.link.pass.isSome && owes)) := by
  unfold abandonPass
  split
  · next none => simp [none]
  · next p has => simp [has]

theorem abandonPass_busy_none {s : State} (idle : s.link.busy = none) (owes : Bool) : (abandonPass owes s).link.busy = none := by
  unfold abandonPass
  split
  · exact idle
  · rw [idle]; rfl

theorem staleCache_link (s : State) : (staleCache s).link = { s.link with cache := { s.link.cache with
    fresh := false, staleTimer := if s.link.cache.fresh then none else s.link.cache.staleTimer } } := by
  unfold staleCache
  split
  · next fresh => simp [cacheWentStale]
  · next stale =>
    rw [Bool.not_eq_true] at stale
    rw [← stale]

/-! ### The link without a plug -/

theorem Link.choice_none {l : Link} (h : l.identifyReq = false) (lamp : l.lampReq = none) (temp : l.tempReq = false)
    (entry : l.faultReq = none) : l.choice = none := by
  simp [Link.choice, h, lamp, temp, entry]

/-- Nothing begins on an UNPLUGGED link: the tag, the pass and what is owed stay (R22, R29). -/
theorem settle_unplugged {s : State} (out : s.link.state = .unplugged) (kept : s.linkKept) :
    (settle s).link.tag = s.link.tag ∧ (settle s).link.pass = s.link.pass ∧ (settle s).link.passOwed = s.link.passOwed := by
  have r : Reacted s (startPass (react (react s))) := (Reacted.refl s).react.react.startPass
  have k : (startPass (react (react s))).linkKept := kept.react.react.startPass
  have out' : (startPass (react (react s))).link.state = .unplugged := r.linkState.trans out
  have pass := settle_pass_blocked (s := s) (.inr (.inr (.inl (by rw [out]; nofun))))
  refine ⟨?_, pass⟩
  obtain ⟨_, _, down, gone, _⟩ := k
  obtain ⟨lamp, temp, entry, _⟩ := down (by rw [out']; nofun)
  have none := Link.choice_none (gone out').1 lamp temp entry
  have still : arbitrate (startPass (react (react s))) = startPass (react (react s)) := by
    unfold arbitrate
    rw [(gone out').2, none]
  have tag (a : State) : (react a).link.tag = a.link.tag := by rw [react_eq]; simp
  rw [settle_link, still]
  simp [tag]

/-- The poll stays stopped where heating is OFF (R32). -/
theorem settle_pollTimer {s : State} (off : s.offCondition = true) (stopped : s.link.pollTimer = none) :
    (settle s).link.pollTimer = none := by
  have same : (settle s).link.pollTimer = (evalHeat (firstRead s)).link.pollTimer := by
    rw [settle_again, react_firstRead]
    simp
  have reads : Reacted s (updateCalled (firstRead s)) := (firstRead_reacted s).updateCalled
  have test : (updateCalled (firstRead s)).heatTest = .off := if_pos (reads.offCondition.trans off)
  have timer : (updateCalled (firstRead s)).link.pollTimer = none := by simpa [firstRead] using stopped
  rw [same]
  unfold evalHeat
  dsimp only
  generalize updateCalled (firstRead s) = a at *
  rw [test]
  have entered : (enterHeatState .off a).link.pollTimer = none := by
    unfold enterHeatState
    split
    · exact timer
    · next left => simp [Ne.symm left, stopPoll]
  simpa using entered

/-- What the link controller takes of a plug's leaving (R29, R34, R37, R80). -/
theorem linkPlugOut_leaves {s : State} (plugged : s.link.state ≠ .unplugged) :
    (linkPlugOut s).link.failureRun = 0 ∧
      (linkPlugOut s).link.passOwed = (s.link.passOwed || s.link.pass.isSome) ∧
      (linkPlugOut s).link.pass = none ∧
      (linkPlugOut s).link.cache.fresh = false ∧ (linkPlugOut s).link.cache.content = s.link.cache.content ∧
      (linkPlugOut s).link.pollTimer = none ∧ (linkPlugOut s).lamps = { s.lamps.abandoned with offOwed := false } := by
  unfold linkPlugOut
  rw [if_neg plugged]
  simp only [staleCache_link]
  refine ⟨by simp, ?_, by simp, trivial, by simp, trivial, ?_⟩
  · rw [abandonPass_passOwed]
    simp [idleLink]
  · simp [abandonCheck_lamps_eq, idleLink]

theorem linkKept_settle_out {s : State} (out : s.link.state = .unplugged) (kept : s.linkKept) :
    (settle s).link.state = .unplugged ∧ (settle s).link.busy = none ∧ (settle s).link.identifyReq = false ∧
      (settle s).link.lampReq = none ∧ (settle s).link.tempReq = false ∧ (settle s).link.faultReq = none ∧
      (settle s).link.pass = none := by
  have out' := (settle_reacted s).linkState.trans out
  obtain ⟨_, _, down, gone, _⟩ := kept.settle
  obtain ⟨lamp, temp, entry, pass, _⟩ := down (by rw [out']; nofun)
  obtain ⟨id, busy⟩ := gone out'
  exact ⟨out', busy, id, lamp, temp, entry, pass⟩

/-- The bay as a plug's leaving puts it with the loop occupied, or in the start interval (R2, R6). -/
def Bay.plugLeft (b : Bay) : Bay :=
  { b with
    plug := { b.plug with level := false, since := none },
    occupancy := if b.startInterval.isSome then b.occupancy else .present,
    reidentify := if b.startInterval.isSome then b.reidentify else none }

/-- What the link controller finds of a plug's leaving. -/
def State.plugLeft (s : State) (t : Nat) : State :=
  { s.advance t with
    bay := s.bay.plugLeft, link := { s.link with identifyReq := s.link.identifyReq && s.bay.startInterval.isSome } }

theorem State.plugLeft_effect {s : State} {t : Nat} (level : s.bay.plug.level = true) (ripe : s.bay.plug.ripe 20 (max s.now t))
    (why : s.bay.startInterval.isSome = true ∨ (s.bay.implied = false ∧
      (s.bay.occupancy = .linking ∨ s.bay.occupancy = .connected ∨ s.bay.occupancy = .unlinked))) :
    exec (.plugAcceptedOut t) s = .next (settle (linkPlugOut (s.plugLeft t))) := by
  refine (congrArg Host.Outcome.next (if_pos (Filter.mayAccept_of_ripe (by simp [level]) ripe))).trans ?_
  refine congrArg (fun b => Host.Outcome.next (settle (linkPlugOut b))) ?_
  cases starting : s.bay.startInterval with
  | some _ => simp [State.plugLeft, Bay.plugLeft, Filter.accept, starting]
  | none =>
    rw [starting] at why
    obtain ⟨explicit, occupied⟩ := why.resolve_left nofun
    rcases occupied with e | e | e <;>
      simp [bayPlugOut, setOccupancy, e, explicit, starting, Filter.accept, State.plugLeft, Bay.plugLeft]

theorem State.plugLeft_kept {s : State} (t : Nat) (kept : s.link.wellKept) : (s.plugLeft t).linkKept := by
  obtain ⟨run, tag, down, out, entry, asks⟩ := kept
  exact ⟨run, tag, down, fun unplugged => ⟨by rw [State.plugLeft]; simp [(out unplugged).1], (out unplugged).2⟩, entry, asks⟩

/-- Settles O13: the bay, the link and the lamp checker take the plug's leaving, and no reaction begins anything on the link that is left. -/
theorem plugOutUnplugsTheLink : Obligations.PlugOutUnplugsTheLink := by
  intro t s level ripe plugged kept why
  have effect := State.plugLeft_effect level ripe why
  have kept' := (State.plugLeft_kept t kept).linkPlugOut
  obtain ⟨run, owed, pass, fresh, content, timer, lamps⟩ := linkPlugOut_leaves (s := s.plugLeft t) plugged
  have lamps : (linkPlugOut (s.plugLeft t)).lamps = { s.lamps.abandoned with offOwed := false } := lamps
  have out : (linkPlugOut (s.plugLeft t)).link.state = .unplugged := by simp
  have bay : (linkPlugOut (s.plugLeft t)).bay = s.bay.plugLeft := by simp [State.plugLeft]
  have pending : (linkPlugOut (s.plugLeft t)).pending = s.pending := by simp [State.plugLeft]
  have now : (linkPlugOut (s.plugLeft t)).now = max s.now t := by simp [State.plugLeft, State.advance]
  have supply : (linkPlugOut (s.plugLeft t)).supply = s.supply := by simp [State.plugLeft]
  have records : (linkPlugOut (s.plugLeft t)).faults.records = s.faults.records := by simp [State.plugLeft]
  have passTimer : (linkPlugOut (s.plugLeft t)).link.passTimer = s.link.passTimer := by simp [State.plugLeft]
  have tag : (linkPlugOut (s.plugLeft t)).link.tag = s.link.tag := by simp [State.plugLeft]
  generalize linkPlugOut (s.plugLeft t) = a at *
  have r := settle_reacted a
  obtain ⟨tag', pass', owed'⟩ := settle_unplugged out kept'
  obtain ⟨gone, busy, id, lamp, temp, entry, nopass⟩ := linkKept_settle_out out kept'
  refine ⟨_, effect, r.pending.trans pending, r.now.trans now, ?_, gone, busy, r.failureRun.trans run, id, lamp, temp, entry, nopass,
    owed'.trans owed, r.passTimer.trans passTimer, tag'.trans tag, by rw [r.cache]; exact fresh, by rw [r.cache]; exact content,
    r.supply.trans supply, fun started => ?_⟩
  · have aspect : (settle a).bay.aspect = aspectOf (settle a).dep.state := settle_headRight a
    rw [r.bay, aspect, bay]
    rfl
  · have occupancy : a.bay.occupancy = .present := by rw [bay]; simp [Bay.plugLeft, started]
    have off : a.offCondition = true := State.offCondition_iff.mpr (.inr (.inl (by rw [occupancy]; exact ⟨nofun, nofun⟩)))
    have check : a.checkBlocked := .inr (.inr (.inl (by rw [occupancy]; nofun)))
    have nopass : a.passBlocked := .inr (.inr (.inl (by rw [out]; nofun)))
    have still : (settle a).lamps = a.lamps :=
      settle_lamps_still check (Link.loosens_of_empty (kept'.2.2.1 (by rw [out]; nofun)).1)
    refine ⟨settle_pollTimer off timer, (settle_off off).1, (settle_off off).2, ?_, ?_⟩
    · rw [settle_faults_blocked check nopass]
      exact records
    · rw [still, lamps]
      unfold Lamps.abandoned
      cases running : s.lamps.running
      · exact ⟨running, rfl, rfl, nofun⟩
      · exact ⟨rfl, rfl, rfl, fun _ => ⟨rfl, rfl⟩⟩

end Sys2Proof.Machine
end

section
/-! SUPPORT. A transaction's failure: it is counted, reaches its requester, and the third in a row loses the link (O18). -/

namespace Sys2Proof.Machine

open Sys2Proof

/-! ### READ_TEMP while the link is not UP -/

theorem enterHeatState_tempReq {s : State} (down : s.link.state ≠ .up) (none : s.link.tempReq = false) (new : HeatState) :
    (enterHeatState new s).link.tempReq = false := by
  have polled {a : State} (state : a.link.state = s.link.state) (temp : a.link.tempReq = false) (polls : Prop) [Decidable polls] :
      (makeHeatDue (if polls then startPoll a else a)).link.tempReq = false := by
    split
    · simp [startPoll, raiseTemp, state, down, temp]
    · simpa using temp
  unfold enterHeatState
  split
  · exact none
  · refine polled ?_ ?_ _ <;> cases new <;> simp [stopPoll, none]

theorem settle_tempReq {s : State} (down : s.link.state ≠ .up) (none : s.link.tempReq = false) :
    (settle s).link.tempReq = false := by
  have evaluated : (evalHeat (firstRead s)).link.tempReq = false := by
    have reads := (firstRead_reacted s).updateCalled
    have entered := enterHeatState_tempReq (s := updateCalled (firstRead s)) (by rw [reads.linkState]; exact down)
      (by simpa [firstRead] using none) (updateCalled (firstRead s)).heatTest
    simpa [evalHeat] using entered
  have waits (a : State) (h : a.link.tempReq = false) : (arbitrate a).link.tempReq = false := by
    unfold arbitrate
    split
    · exact h
    · split
      · exact h
      · next r live _ =>
        have slot : (a.link.beginTransaction r live a.now).tempReq = false := by
          unfold Link.beginTransaction Link.emptySlot
          cases r <;> first | exact h | rfl
        dsimp only
        split <;> exact slot
  have same : (startPass (clearanceTests (startCheck (startPass (react s))))).link.tempReq = false := by
    rw [react_firstRead]
    simpa using evaluated
  rw [settle_again]
  simpa using waits _ same

/-! ### The link lost -/

theorem bayLinkLost_bay (s : State) :
    ((bayLinkLost s).bay.occupancy ≠ .connected) ∧
      ((s.bay.occupancy = .linking ∨ s.bay.occupancy = .connected) →
        (bayLinkLost s).bay.occupancy = .unlinked ∧ (bayLinkLost s).bay.reidentify = some (s.now + 10000)) ∧
      (s.bay.occupancy = .unlinked → (bayLinkLost s).bay = s.bay) := by
  unfold bayLinkLost
  cases e : s.bay.occupancy <;> simp [e, Config.reidentify]

/-- The link declared lost: its slots, its pass and its cache (R27). -/
theorem declareLost_link (s : State) :
    (declareLost s).link.lampReq = none ∧ (declareLost s).link.tempReq = false ∧
      (declareLost s).link.passOwed = (s.link.passOwed || s.link.pass.isSome) ∧
      (declareLost s).link.cache.fresh = false ∧ (declareLost s).link.cache.content = s.link.cache.content := by
  have check (a : State) (slot : a.link.lampReq = none) : (endCheckIncomplete a).link.lampReq = none := by
    cases running : a.lamps.running
    · rw [endCheckIncomplete_idle running]; exact slot
    · exact endCheckIncomplete_lampReq running
  unfold declareLost
  refine ⟨check _ (by simp), by simp, ?_, ?_, ?_⟩
  · have owed := abandonPass_passOwed true { s with link := { s.link with
        state := .lost, failureRun := 0, lampReq := none, tempReq := false } }
    simpa using owed
  · simp [staleCache_link]
  · simp [staleCache_link]

/-- The link declared lost: the bay (R9). -/
theorem declareLost_bay (s : State) :
    ((declareLost s).bay.occupancy ≠ .connected) ∧
      ((s.bay.occupancy = .linking ∨ s.bay.occupancy = .connected) →
        (declareLost s).bay.occupancy = .unlinked ∧ (declareLost s).bay.reidentify = some (s.now + 10000)) ∧
      (s.bay.occupancy = .unlinked → (declareLost s).bay = s.bay) := by
  have lost := bayLinkLost_bay (staleCache (abandonPass true { s with link := { s.link with
    state := .lost, failureRun := 0, lampReq := none, tempReq := false } }))
  have bay : (declareLost s).bay = (bayLinkLost (staleCache (abandonPass true { s with link := { s.link with
    state := .lost, failureRun := 0, lampReq := none, tempReq := false } }))).bay := by simp [declareLost]
  rw [bay]
  simpa using lost

/-- The link declared lost: a running check ends (R79). -/
theorem declareLost_lamps (s : State) : (declareLost s).lamps =
    if s.lamps.running then s.lamps.stopped { s.lamps.sheet.writeIncomplete (s.lamps.program.length + 1 - s.lamps.step.getD 1)
      (s.lamps.step.getD 1) with state := .complete } else s.lamps := by
  have before : (bayLinkLost (staleCache (abandonPass true { s with link := { s.link with
      state := .lost, failureRun := 0, lampReq := none, tempReq := false } }))).lamps = s.lamps := by simp
  unfold declareLost
  dsimp only
  generalize bayLinkLost _ = a at *
  cases running : s.lamps.running
  · rw [endCheckIncomplete_idle (by rw [before]; exact running), before]; rfl
  · rw [endCheckIncomplete_lamps (by rw [before]; exact running), before]; rfl

/-! ### The requester -/

/-- A failure that reaches the lamp checker with no check running and the link not UP only ends the off it owes. -/
theorem lampFailed_down {s : State} (idle : s.lamps.running = false) (down : s.link.state ≠ .up) (channel : Nat) (on live : Bool) :
    lampFailed channel on live s = { s with lamps := { s.lamps with offOwed := false } } := by
  have pays : lampFailed channel on live s = payOff s := if_neg (by simp [idle])
  rw [pays]
  unfold payOff
  split
  · unfold raiseLooseOff
    split
    · exact if_neg down
    · rfl
  · next none =>
    rw [Bool.not_eq_true] at none
    rw [← none]

theorem handFailure_down {s : State} (idle : s.lamps.running = false) (down : s.link.state ≠ .up) (x : Transaction) :
    (∃ owed, (handFailure x s).lamps = { s.lamps with offOwed := owed }) ∧
      (s.link.lampReq = none → (handFailure x s).link.lampReq = none) := by
  unfold handFailure
  split
  · refine ⟨⟨s.lamps.offOwed, by simp⟩, fun slot => ?_⟩
    unfold identifyFailed raiseIdentify
    split
    · split <;> exact slot
    · exact slot
    · exact slot
  · rw [lampFailed_down idle down]
    exact ⟨⟨_, rfl⟩, id⟩
  · exact ⟨⟨_, rfl⟩, id⟩
  · split
    · unfold raiseFaultNext
      rw [if_neg down, ite_self]
      exact ⟨⟨_, rfl⟩, id⟩
    · exact ⟨⟨_, rfl⟩, id⟩

theorem handFailure_reidentify {x : Transaction} {s : State} (request : x.request = .identify)
    (unlinked : s.bay.occupancy = .unlinked) : (handFailure x s).bay.reidentify = some (s.now + 10000) := by
  unfold handFailure identifyFailed
  rw [request]
  dsimp only
  rw [unlinked]
  rfl

theorem handFailure_restarts (x : Transaction) (s : State) :
    (handFailure x s).bay.reidentify = s.bay.reidentify ∨ (handFailure x s).bay.reidentify = some (s.now + 10000) := by
  by_cases request : x.request = .identify
  · by_cases unlinked : s.bay.occupancy = .unlinked
    · exact .inr (handFailure_reidentify request unlinked)
    · left
      unfold handFailure identifyFailed
      rw [request]
      dsimp only
      split
      · simp
      · next e => exact absurd e unlinked
      · rfl
  · left
    unfold handFailure
    split
    · next e => exact absurd e request
    · simp
    · rfl
    · split
      · split <;> simp
      · rfl

theorem handFailure_identify {x : Transaction} {s : State} (request : x.request = .identify) (linking : s.bay.occupancy = .linking)
    (plugged : s.link.state ≠ .unplugged) : (handFailure x s).link.asks .identify = true := by
  have e : handFailure x s = raiseIdentify s := by
    unfold handFailure identifyFailed
    rw [request]
    dsimp only
    rw [linking]
  rw [e]
  exact raiseIdentify_asks plugged

theorem handFailure_entry {x : Transaction} {s : State} {n : Nat} {p : Pass} (request : x.request = .faultNext n)
    (live : x.live = true) (pass : s.link.pass = some p) (up : s.link.state = .up) :
    (handFailure x s).link.asks (.faultNext p.cursor) = true := by
  have e : handFailure x s = raiseFaultNext p.cursor s := by
    unfold handFailure
    rw [request]
    dsimp only
    rw [pass]
    exact if_pos live
  rw [e, raiseFaultNext, if_pos up]
  simp [Link.asks]

/-! ### The failure -/

/-- A timeout, a malformed answer, or a LAMP_SET answered for another channel or setting (R26, R31). -/
theorem exec_fails_any {c : Instr} {x : Transaction} {s : State} (busy : s.link.busy = some x)
    (how : (∃ t, c = .linkTimeout t ∧ x.timer ≤ max s.now t) ∨
      (∃ t, c = .linkResponseMalformed t x.tag ∧ max s.now t ≤ x.timer) ∨
      (∃ t channel on, c = .lampSetResponse t x.tag channel on ∧ max s.now t ≤ x.timer ∧ x.request ≠ .lampSet channel on)) :
    exec c s = .next (settle (transactionFails x (s.advance (Instr.moment c)))) := by
  rcases how with timeout | malformed | ⟨t, channel, on, rfl, time, other⟩
  · exact exec_fails busy (.inl timeout)
  · exact exec_fails busy (.inr malformed)
  · refine congrArg Host.Outcome.next ?_
    unfold takeReply
    dsimp only
    rw [judgeReply_fails (s := s.advance t) busy rfl time (by simp [other])]
    rfl

/-- A response past the 250 ms (R24). -/
theorem exec_late {c : Instr} {x : Transaction} {s : State} (busy : s.link.busy = some x) (tag : Instr.replyTag c = some x.tag)
    (late : x.timer < max s.now (Instr.moment c)) :
    exec c s = .next ((settle (transactionFails x (s.advance x.timer))).advance (Instr.moment c)) := by
  have taken {t : Nat} {fits : Request → Bool} {onSuccess : Transaction → State → State} (late : x.timer < max s.now t) :
      takeReply t x.tag fits onSuccess s = (settle (transactionFails x (s.advance x.timer))).advance t := by
    unfold takeReply
    dsimp only
    rw [judgeReply_late (s := s.advance t) busy rfl late]
  cases c <;> simp only [Instr.replyTag, Option.some.injEq, reduceCtorEq] at tag
  all_goals
    subst tag
    exact congrArg Host.Outcome.next (taken late)

/-- What a failure counts (R26 to R28). -/
theorem countFailure_cases (s : State) :
    (s.link.failureRun + 1 < 3 → countFailure s = { s with link := { s.link with failureRun := s.link.failureRun + 1 } }) ∧
    (¬s.link.failureRun + 1 < 3 → s.link.state = .lost → countFailure s = { s with link := { s.link with failureRun := 0 } }) ∧
    (¬s.link.failureRun + 1 < 3 → s.link.state ≠ .lost → countFailure s = declareLost s) := by
  refine ⟨fun few => if_pos few, fun third lost => (if_neg third).trans (if_pos lost),
    fun third known => (if_neg third).trans (if_neg known)⟩

theorem countFailure_unlinked {s : State} (unlinked : s.bay.occupancy = .unlinked) : (countFailure s).bay = s.bay := by
  obtain ⟨few, lost, third⟩ := countFailure_cases s
  by_cases h : s.link.failureRun + 1 < 3
  · rw [few h]
  · by_cases k : s.link.state = .lost
    · rw [lost h k]
    · rw [third h k]
      exact (declareLost_bay s).2.2 unlinked

/-- Settles O18: the run counted, the requester told, and the settled event keeps what either left of the link, the bay and the check. -/
theorem failuresCountAndTheThirdLosesTheLink : Obligations.FailuresCountAndTheThirdLosesTheLink := by
  intro c x s busy
  refine ⟨fun tag late => ⟨_, execLinkTimeout_due busy (Nat.le_max_right ..), exec_late busy tag late⟩, fun how => ?_⟩
  have effect := exec_fails_any busy how
  obtain ⟨b, hb⟩ : ∃ b, b = idleLink (s.advance (Instr.moment c)) := ⟨_, rfl⟩
  have idle : b.link = { s.link with busy := none } := by rw [hb]; rfl
  have bay : b.bay = s.bay := by rw [hb]; rfl
  have now : b.now = max s.now (Instr.moment c) := by rw [hb]; rfl
  have fails : transactionFails x (s.advance (Instr.moment c)) = handFailure x (countFailure b) := by rw [hb]; rfl
  rw [fails] at effect
  have r := settle_reacted (handFailure x (countFailure b))
  have whole : (handFailure x (countFailure b)).pending = s.pending ∧ (handFailure x (countFailure b)).now = b.now ∧
      (handFailure x (countFailure b)).supply = s.supply ∧ (countFailure b).now = b.now := by
    simp [hb, idleLink]
  obtain ⟨pending, now', supply, nowC⟩ := whole
  refine ⟨_, effect, r.pending.trans pending, r.now.trans (now'.trans now), ?_, ?_, r.supply.trans supply, fun few => ?_,
    fun request unlinked => ?_, fun two lost => ?_, fun two known => ?_⟩
  · rw [r.session]; simp [bay]
  · rw [r.passTimer]; simp [idle]
  · have counted := (countFailure_cases b).1 (by rw [idle]; exact few)
    have link : (countFailure b).link = { s.link with busy := none, failureRun := s.link.failureRun + 1 } := by
      rw [counted, idle]
    have same : (countFailure b).bay = s.bay := by rw [counted]; exact bay
    generalize countFailure b = a at *
    refine ⟨by rw [r.failureRun]; simp [link], by rw [r.linkState]; simp [link], by rw [r.occupancy]; simp [same],
      by rw [r.cache]; simp [link], fun request linking plugged => ?_, fun n p request live pass up => ?_⟩
    · rw [settle_asks_identify]
      exact handFailure_identify request (by rw [same]; exact linking) (by rw [link]; exact plugged)
    · have held : (handFailure x a).link.pass = some p := by simp [link, pass]
      have blocked : (handFailure x a).passBlocked := .inr (.inl (by rw [held]; rfl))
      refine ⟨(settle_pass_blocked blocked).1.trans held, ?_⟩
      rw [settle_asks_entry blocked]
      exact handFailure_entry request live (by rw [link]; exact pass) (by rw [link]; exact up)
  · have same := countFailure_unlinked (s := b) (by rw [bay]; exact unlinked)
    rw [r.bay]
    dsimp only
    rw [handFailure_reidentify request (by rw [same, bay]; exact unlinked), nowC, now]
  · have counted := (countFailure_cases b).2.1 (by rw [idle]; show ¬s.link.failureRun + 1 < 3; omega) (by rw [idle]; exact lost)
    rw [r.failureRun, r.linkState, counted]
    simp [idle, lost]
  · have counted := (countFailure_cases b).2.2 (by rw [idle]; show ¬s.link.failureRun + 1 < 3; omega) (by rw [idle]; exact known)
    have lost : (declareLost b).link.state = .lost ∧ (declareLost b).link.failureRun = 0 ∧ (declareLost b).link.pass = none ∧
        (declareLost b).now = b.now := by simp
    obtain ⟨slot, temp, owed, fresh, content⟩ := declareLost_link b
    obtain ⟨apart, unlinks, _⟩ := declareLost_bay b
    have lamps := declareLost_lamps b
    have lampsB : b.lamps = s.lamps := by rw [hb]; rfl
    rw [lampsB] at lamps
    rw [idle] at owed content
    rw [bay] at unlinks
    rw [counted] at r ⊢
    generalize declareLost b = a at *
    obtain ⟨state, run, pass, now''⟩ := lost
    have still : a.lamps.running = false := by
      rw [lamps]
      cases running : s.lamps.running
      · exact running
      · rfl
    have down : a.link.state ≠ .up := by rw [state]; nofun
    obtain ⟨⟨offOwed, handed⟩, slot'⟩ := handFailure_down still down x
    have kept : (handFailure x a).link.state = a.link.state ∧ (handFailure x a).link.failureRun = a.link.failureRun ∧
        (handFailure x a).link.cache = a.link.cache ∧ (handFailure x a).link.tempReq = a.link.tempReq ∧
        (handFailure x a).link.pass = a.link.pass ∧ (handFailure x a).link.passOwed = a.link.passOwed ∧
        (handFailure x a).bay.occupancy = a.bay.occupancy := by simp
    obtain ⟨state', run', cache', temp', pass', owed', occupancy'⟩ := kept
    have check : (handFailure x a).checkBlocked := .inr (.inr (.inl (by rw [occupancy']; exact apart)))
    have down' : (handFailure x a).link.state ≠ .up := by rw [state']; exact down
    have passes := settle_pass_blocked (s := handFailure x a) (.inr (.inr (.inl down')))
    refine ⟨?_, ?_, settle_lampReq_none check (slot' slot), settle_tempReq down' (temp'.trans temp), ?_, ?_, ?_, ?_, fun arriving => ?_,
      fun running => ?_⟩
    · rw [r.failureRun, run', run]
    · rw [r.linkState, state', state]
    · rw [passes.1, pass', pass]
    · rw [passes.2, owed', owed]
    · rw [r.cache, cache', fresh]
    · rw [r.cache, cache', content]
    · obtain ⟨occupancy, again⟩ := unlinks arriving
      refine ⟨?_, ?_⟩
      · rw [r.occupancy, occupancy', occupancy]
      · rw [r.bay]
        dsimp only
        rcases handFailure_restarts x a with same | anew
        · rw [same, again, now]
        · rw [anew, now'', now]
    · rw [settle_lamps_still check (Link.loosens_of_empty (slot' slot)), handed, lamps, if_pos running]
      refine ⟨rfl, rfl, rfl, rfl, fun e mem low high => ?_⟩
      rw [Sheet.writeIncomplete_eq] at mem
      obtain ⟨e₀, _, rfl⟩ := List.mem_map.mp mem
      have step : ∀ p : Prop, [Decidable p] → (if p then { e₀ with result := some (.incomplete, 0) } else e₀).step = e₀.step := by
        intro p _
        split <;> rfl
      rw [step] at low high
      exact congrArg SheetEntry.result (if_pos ⟨low, by omega⟩)

end Sys2Proof.Machine
end

section
/-! SUPPORT. The end of a session, block by block (R15, R149, R159), and entry to EMPTY (O11). -/

namespace Sys2Proof.Machine

open Sys2Proof

/-! ### What a session end leaves -/

/-- What clearance finds of a session end (R15). -/
def State.closing (s : State) : State :=
  lampSessionEnd (emptyCache { s with bay := { s.bay with session := .none }, faults := s.faults.endSession, link := s.link.discardPass })

theorem endSession_eq (cause : EndCause) (coach : Nat) (s : State) : endSession cause coach s =
    giveConditions (raiseEdge .sessionEnded coach (heatSessionEnd (clearanceSessionEnd cause coach s.closing))) := rfl

theorem State.closing_keeps (s : State) : s.closing.dep = s.dep ∧ s.closing.notices = s.notices ∧ s.closing.now = s.now ∧
    s.closing.start = s.start ∧ s.closing.link.lampReq = none ∧ s.closing.link.cache.content = .none ∧
    s.closing.link.cache.fresh = false := by
  have cache : ∀ a : State, (emptyCache a).link.cache.content = .none ∧ (emptyCache a).link.cache.fresh = false := fun a => by
    unfold emptyCache
    dsimp only
    split <;> simp [cacheWentStale]
  refine ⟨by simp [State.closing], by simp [State.closing], by simp [State.closing], by simp [State.closing],
    by simp [State.closing, lampSessionEnd, disownLampSets], ?_, ?_⟩
  · simpa [State.closing] using (cache _).1
  · simpa [State.closing] using (cache _).2

/-- The blocks after a session end: the slot of a LAMP_SET, the cache and the heat controller's marks (R34, R76, R141). -/
theorem endSession_blocks (cause : EndCause) (coach : Nat) (s : State) :
    (endSession cause coach s).link.lampReq = none ∧ (endSession cause coach s).link.cache.content = .none ∧
      (endSession cause coach s).link.cache.fresh = false ∧ (endSession cause coach s).heat.heaterFault = false ∧
      (endSession cause coach s).heat.weakFound = false := by
  obtain ⟨_, _, _, _, slot, content, fresh⟩ := s.closing_keeps
  have heat (a : State) : (heatSessionEnd a).heat.heaterFault = false ∧ (heatSessionEnd a).heat.weakFound = false := by
    obtain ⟨b, released⟩ : ∃ b, b = ({ a with
      heat := { a.heat with heaterFault := false, weakFound := false }, meter := { a.meter with overdrawRun := 0 } } : State) := ⟨_, rfl⟩
    have r : Reacted b (evalHeat (recomputeLead b)) := (Reacted.refl b).recomputeLead.evalHeat
    have same : heatSessionEnd a = evalHeat (recomputeLead b) := by rw [released]; rfl
    rw [same, r.heaterFault, r.weakFound, released]
    exact ⟨rfl, rfl⟩
  rw [endSession_eq]
  generalize s.closing = a at *
  refine ⟨by simp [clearanceSessionEnd, slot], by simp [clearanceSessionEnd, content], by simp [clearanceSessionEnd, fresh], ?_, ?_⟩
  · simpa using (heat (clearanceSessionEnd cause coach a)).1
  · simpa using (heat (clearanceSessionEnd cause coach a)).2

/-- The other edges are those clearance raises (R159). -/
theorem endSession_get {src : Source} (edge : src.isCondition = false) (other : Source.sessionEnded ≠ src) (cause : EndCause)
    (coach : Nat) (s : State) :
    (endSession cause coach s).notices.get src = (departureAtSessionEnd cause coach s.closing).notices.get src := by
  rw [endSession_eq, giveConditions_edges edge, raiseEdge_get_other coach _ other]
  simp [clearanceSessionEnd]

/-- A coach leaves before the green where its departure was not yet let go (R159). -/
def State.exits (s : State) (coach : Nat) : Prop :=
  s.dep.state = .ready ∨ s.dep.state = .settling ∨ (s.dep.state = .assigned ∧ s.admits coach = true)

theorem departureAtSessionEnd_exits {s : State} {cause : EndCause} {coach : Nat} (exits : s.exits coach)
    (cut : cause = .bayEmptied ∨ cause = .identityReplaced) :
    (departureAtSessionEnd cause coach s).notices.tells .unclearedExit coach = true := by
  unfold departureAtSessionEnd
  rcases exits with e | e | ⟨e, admits⟩ <;> rcases cut with c | c <;> rw [e, c] <;> dsimp only
  case inr.inr.inl => rw [if_pos admits]; exact raiseEdge_tells ..
  case inr.inr.inr => rw [if_pos admits]; exact raiseEdge_tells ..
  all_goals exact raiseEdge_tells ..

theorem State.closing_exits {s : State} {coach : Nat} (exits : s.exits coach) : s.closing.exits coach := by
  obtain ⟨dep, _⟩ := s.closing_keeps
  unfold State.exits State.admits at *
  rwa [dep]

theorem endSession_exits {s : State} {cause : EndCause} {coach : Nat} (exits : s.exits coach)
    (cut : cause = .bayEmptied ∨ cause = .identityReplaced) :
    (endSession cause coach s).notices.tells .unclearedExit coach = true := by
  unfold Notices.tells
  rw [endSession_get (src := .unclearedExit) rfl nofun]
  exact departureAtSessionEnd_exits (State.closing_exits exits) cut

/-- The departure of an exit with the bay emptied: NONE, with neither assignment nor countdown (R159). -/
theorem Departure.afterSession_exits {s : State} {coach : Nat} (exits : s.exits coach) (now transit : Nat) :
    s.dep.afterSession .bayEmptied coach now transit = s.dep.cancelled := by
  unfold Departure.afterSession
  rcases exits with e | e | ⟨e, admits⟩
  · rw [e]
  · rw [e]
  · rw [e]
    exact if_pos ((State.admits_iff s coach).mp admits)

/-- A departure that no session end moves (R159). -/
theorem Departure.afterSession_rests {x : Departure} (h : x.state = .gone ∨ x.state = .lapsed ∨ x.state = .none)
    (cause : EndCause) (coach now transit : Nat) : x.afterSession cause coach now transit = x := by
  unfold Departure.afterSession
  rcases h with e | e | e <;> rw [e]

theorem Lamps.sessionEnded_values (l : Lamps) : l.sessionEnded.running = false ∧ l.sessionEnded.loose = none ∧
    l.sessionEnded.sheet = { state := .empty, entries := [] } ∧ l.sessionEnded.feed = (l.feed && !l.running) ∧
    l.sessionEnded.offOwed = false := by
  unfold Lamps.sessionEnded Lamps.abandoned
  cases running : l.running <;> simp [Lamps.stopped, running]

/-! ### A plug-out after it -/

/-- A plug-out that finds no check, no pass and a stale cache moves but the link's own record (R29). -/
theorem linkPlugOut_of_ended {s : State} (running : s.lamps.running = false) (pass : s.link.pass = none)
    (stale : s.link.cache.fresh = false) (owed : s.lamps.offOwed = false) :
    (linkPlugOut s).lamps = s.lamps ∧ (linkPlugOut s).faults = s.faults ∧ (linkPlugOut s).heat = s.heat ∧
      (linkPlugOut s).lead = s.lead ∧ (linkPlugOut s).peers = s.peers ∧ (linkPlugOut s).link.cache = s.link.cache ∧
      (linkPlugOut s).link.pass = none ∧ (linkPlugOut s).link.passOwed = s.link.passOwed ∧
      (s.link.lampReq = none → (linkPlugOut s).link.lampReq = none) := by
  by_cases out : s.link.state = .unplugged
  · rw [linkPlugOut, if_pos out]
    exact ⟨rfl, rfl, rfl, rfl, rfl, rfl, pass, rfl, id⟩
  · have same : linkPlugOut s = { s with
        link := { s.link with state := .unplugged, busy := none, failureRun := 0, identifyReq := false, lampReq := none,
                              tempReq := false, pollTimer := none } } := by
      have held (a : State) (none : a.link.pass = none) : abandonPass true a = a := by
        unfold abandonPass; rw [none]
      have rests (a : State) (still : a.link.cache.fresh = false) : staleCache a = a := by
        unfold staleCache; rw [if_neg (by simp [still])]
      obtain ⟨b, hb⟩ : ∃ b, b = ({ idleLink s with link := { (idleLink s).link with
        state := .unplugged, failureRun := 0, identifyReq := false, lampReq := none, tempReq := false } } : State) := ⟨_, rfl⟩
      have unfolded : linkPlugOut s = { staleCache (abandonPass true b) with
          link := { (staleCache (abandonPass true b)).link with pollTimer := none },
          lamps := { (staleCache (abandonPass true b)).lamps with offOwed := false } } := by
        unfold linkPlugOut
        rw [if_neg out, abandonCheck_idle (s := idleLink s) running, hb]
      rw [unfolded, held b (by rw [hb]; exact pass), rests b (by rw [hb]; exact stale), hb]
      simp [idleLink, ← owed]
    rw [same]
    exact ⟨rfl, rfl, rfl, rfl, rfl, rfl, pass, rfl, fun _ => rfl⟩

/-- A session ended by the bay emptied, with the plug-out that may follow it. -/
theorem endSession_then_plugOut {a x : State} {coach : Nat}
    (after : x = endSession .bayEmptied coach a ∨ x = linkPlugOut (endSession .bayEmptied coach a)) :
    x.lamps = a.lamps.sessionEnded ∧ x.faults = a.faults.endSession ∧ x.link.cache.content = .none ∧ x.link.cache.fresh = false ∧
      x.link.pass = none ∧ x.link.passOwed = false ∧ x.link.lampReq = none ∧ x.link.passTimer = none ∧
      x.heat.heaterFault = false ∧ x.heat.weakFound = false ∧ x.meter.overdrawRun = 0 ∧
      x.dep = a.dep.sessionEnded .bayEmptied coach a.now a.start.image.transit ∧
      x.notices.tells .sessionEnded coach = true ∧ (a.exits coach → x.notices.tells .unclearedExit coach = true) := by
  obtain ⟨slot, content, fresh, fault, weak⟩ := endSession_blocks .bayEmptied coach a
  obtain ⟨idle, _, _, _, owedOff⟩ := a.lamps.sessionEnded_values
  have lamps : (endSession .bayEmptied coach a).lamps = a.lamps.sessionEnded := by simp
  have faults : (endSession .bayEmptied coach a).faults = a.faults.endSession := by simp
  have pass : (endSession .bayEmptied coach a).link.pass = none := by simp
  have owed : (endSession .bayEmptied coach a).link.passOwed = false := by simp
  have timer : (endSession .bayEmptied coach a).link.passTimer = none := by simp
  have run : (endSession .bayEmptied coach a).meter.overdrawRun = 0 := by simp
  have dep := endSession_dep .bayEmptied coach a
  have told := endSession_tells .bayEmptied coach a
  have exits (leaves : a.exits coach) := endSession_exits (cause := .bayEmptied) leaves (.inl rfl)
  generalize endSession .bayEmptied coach a = e at *
  rcases after with rfl | rfl
  · exact ⟨lamps, faults, content, fresh, pass, owed, slot, timer, fault, weak, run, dep, told, exits⟩
  · obtain ⟨lamps', faults', heat', _, _, cache', pass', owed', slot'⟩ :=
      linkPlugOut_of_ended (s := e) (by rw [lamps]; exact idle) pass fresh (by rw [lamps]; exact owedOff)
    have notices : (linkPlugOut e).notices = e.notices := by simp
    refine ⟨lamps'.trans lamps, faults'.trans faults, by rw [cache', content], by rw [cache', fresh], pass', owed'.trans owed,
      slot' slot, by simp [timer], by rw [heat', fault], by rw [heat', weak], by simp [run], by simp [dep], ?_, fun leaves => ?_⟩
    · rw [notices]; exact told
    · rw [notices]; exact exits leaves

/-! ### Entry to EMPTY -/

/-- How a bay comes to be EMPTY: the state its entry begins from, and a plug-out that follows it (R4, R6). -/
theorem exec_enters_empty {c : Instr} {t : Nat} {s : State} (started : s.bay.startInterval = none)
    (how : (c = .presenceAcceptedClear t ∧ s.bay.occupancy = .present ∧ s.bay.presence.level = true ∧
        s.bay.presence.ripe 200 (max s.now t)) ∨
      (c = .plugAcceptedOut t ∧ (s.bay.occupancy = .linking ∨ s.bay.occupancy = .connected ∨ s.bay.occupancy = .unlinked) ∧
        s.bay.implied = true ∧ s.bay.plug.level = true ∧ s.bay.plug.ripe 20 (max s.now t))) :
    ∃ (b : Bay) (l : Link), b.session = s.bay.session ∧
      (exec c s = .next (settle (enterEmpty { s.advance t with bay := b, link := l })) ∨
        exec c s = .next (settle (linkPlugOut (enterEmpty { s.advance t with bay := b, link := l })))) := by
  rcases how with ⟨rfl, present, level, ripe⟩ | ⟨rfl, plugged, implied, level, ripe⟩
  · refine ⟨{ s.bay with presence := s.bay.presence.accept false }, s.link, rfl, .inl ?_⟩
    refine (congrArg Host.Outcome.next (if_pos (Filter.mayAccept_of_ripe (by simp [level]) ripe))).trans ?_
    refine congrArg Host.Outcome.next ?_
    simp [acceptPresence, loopClear, started, present, State.advance]
  · refine ⟨{ s.bay with plug := s.bay.plug.accept false, reidentify := none }, { s.link with identifyReq := false }, rfl, .inr ?_⟩
    refine (congrArg Host.Outcome.next (if_pos (Filter.mayAccept_of_ripe (by simp [level]) ripe))).trans ?_
    refine congrArg (fun a => Host.Outcome.next (settle (linkPlugOut a))) ?_
    rcases plugged with e | e | e <;> simp [bayPlugOut, e, implied, started, State.advance]

/-- What a plug-out leaves as the entry to EMPTY put it. -/
theorem emptied_then_plugOut {e x : State} (after : x = e ∨ x = linkPlugOut e) :
    x.bay = e.bay ∧ x.dep = e.dep ∧ x.notices = e.notices ∧ (∀ m : Prop, e.governed m → x.governed m) ∧
      x.link.passTimer = e.link.passTimer ∧ x.heat.heaterFault = e.heat.heaterFault ∧ x.heat.weakFound = e.heat.weakFound ∧
      x.meter = e.meter ∧ x.start = e.start := by
  rcases after with rfl | rfl
  · exact ⟨rfl, rfl, rfl, fun _ => id, rfl, rfl, rfl, rfl, rfl⟩
  · have heat : (linkPlugOut e).heat.heaterFault = e.heat.heaterFault ∧ (linkPlugOut e).heat.weakFound = e.heat.weakFound := by
      unfold linkPlugOut
      split
      · exact ⟨rfl, rfl⟩
      · simp
    exact ⟨by simp, by simp, by simp, fun _ => State.governed.linkPlugOut, by simp, heat.1, heat.2, by simp, by simp⟩

/-- The coach leaves in HOLDING: its session departs, and with no identity given the lead is that of no coach (R7, R112, R157). -/
theorem enterEmpty_departs {s : State} {id : Identity} (holding : s.dep.state = .holding) (opened : s.bay.session = .opened id) :
    (enterEmpty s).bay.session = .departing id ∧ (enterEmpty s).notices.tells .released id.coach = true ∧
      (enterEmpty s).dep = s.dep.gone s.now s.start.image.transit ∧
      (s.configured = true → (enterEmpty s).leadTaken) := by
  obtain ⟨b, hb⟩ : ∃ b, b = ({ s with bay := { s.bay with occupancy := .empty, implied := false } } : State) := ⟨_, rfl⟩
  have entered : enterEmpty s = enterGone id.coach (departSession id b) := by
    rw [hb]
    unfold enterEmpty
    dsimp only
    rw [holding, opened]
  rw [entered]
  refine ⟨by simp, ?_, ?_, fun on => ?_⟩
  · exact raiseEdge_tells ..
  · simp [hb, Departure.gone]
  · have departed : (departSession id b).governed False :=
      State.governable.recomputeLead ⟨fun off => absurd on (by rw [hb] at off; simpa [State.configured] using off), False.elim⟩
    exact (State.governed.of_eq (b := enterGone id.coach (departSession id b)) departed).1

/-- A coach not let go leaves: its session ends (R7, R15). -/
theorem enterEmpty_ends {s : State} {id : Identity} (other : s.dep.state ≠ .holding) (opened : s.bay.session = .opened id) :
    enterEmpty s = endSession .bayEmptied id.coach { s with bay := { s.bay with occupancy := .empty, implied := false } } := by
  unfold enterEmpty
  dsimp only
  rw [opened]
  cases state : s.dep.state
  case holding => exact absurd state other
  all_goals rfl

/-- A coach that has departed leaves the bay as its departure put it (R13, R157). -/
theorem enterEmpty_stays {s : State} {id : Identity} (gone : s.dep.state = .gone) (departing : s.bay.session = .departing id) :
    enterEmpty s = { s with bay := { s.bay with occupancy := .empty, implied := false } } := by
  unfold enterEmpty
  dsimp only
  rw [gone, departing]

/-- Settles O11: what entry to EMPTY does by the state and the session it finds, through the plug-out and the reactions that follow. -/
theorem entryToEmptySettlesTheSession : Obligations.EntryToEmptySettlesTheSession := by
  intro c t s started how
  obtain ⟨b, l, session, how⟩ := exec_enters_empty started how
  obtain ⟨a, ha⟩ : ∃ a, a = ({ s.advance t with bay := b, link := l } : State) := ⟨_, rfl⟩
  rw [← ha] at how
  obtain ⟨x, after, effect⟩ : ∃ x, (x = enterEmpty a ∨ x = linkPlugOut (enterEmpty a)) ∧ exec c s = .next (settle x) := by
    rcases how with e | e
    · exact ⟨_, .inl rfl, e⟩
    · exact ⟨_, .inr rfl, e⟩
  obtain ⟨bay, dep, notices, governed, passTimer, fault, weak, meter, start⟩ := emptied_then_plugOut after
  have r := settle_reacted x
  have entry : (enterEmpty a).bay = { a.bay with occupancy := .empty, implied := false, session := emptiedSession a } := by simp
  have empty : x.bay.occupancy = .empty := by rw [bay, entry]
  have off : x.offCondition = true := State.offCondition_iff.mpr (.inr (.inl (by rw [empty]; exact ⟨nofun, nofun⟩)))
  have check : x.checkBlocked := .inr (.inr (.inl (by rw [empty]; nofun)))
  have pass : x.passBlocked := .inr (.inr (.inr (.inl (by rw [empty]; nofun))))
  have depA : a.dep = s.dep := by rw [ha]; rfl
  have sessionA : a.bay.session = s.bay.session := by rw [ha]; exact session
  refine ⟨_, effect, r.occupancy.trans empty, ?_, (settle_off off).1, (settle_off off).2, settle_headRight x,
    fun id holding opened => ?_, fun id gone departing => ?_, fun id other opened => ?_⟩
  · rw [r.bay]
    dsimp only
    rw [bay, entry]
  · obtain ⟨departed, told, record, lead⟩ := enterEmpty_departs (s := a) (by rw [depA]; exact holding) (by rw [sessionA]; exact opened)
    have record : x.dep = s.dep.gone (max s.now t) s.start.image.transit := by
      rw [dep, record, depA, ha]; rfl
    have rests := (settle_of_rests (s := x) (by rw [record]; simp [Departure.gone, DepState.moves])).1
    refine ⟨r.session.trans (by rw [bay]; exact departed), ?_, fun on => ?_, ?_⟩
    · rw [settle_tells (src := .released) rfl nofun nofun, notices]
      exact told
    · have taken := (settle_governed (m := False) (governed False ⟨lead (by rw [ha]; exact on), False.elim⟩).1 False.elim).1.1
      have none : (settle x).figures = Option.none := by
        rw [r.figures]
        unfold State.figures State.identity
        rw [bay, departed]
        rfl
      have gives : (settle x).leadOf = (0, .none, Option.none) := by
        unfold State.leadOf
        rw [none]
        split
        · next e => cases e
        · rfl
      unfold State.leadTaken at taken
      rw [gives] at taken
      simpa using taken
    · rw [rests, record]
      simp [Departure.gone, Departure.move, holding]
  · have stays := enterEmpty_stays (s := a) (by rw [depA]; exact gone) (by rw [sessionA]; exact departing)
    have record : x.dep = s.dep := by rw [dep, stays]; exact depA
    refine ⟨r.session.trans ?_, (settle_of_rests (s := x) (by rw [record, gone]; rfl)).1.trans record⟩
    rw [bay, stays]
    exact sessionA.trans departing
  · have ends := enterEmpty_ends (s := a) (by rw [depA]; exact other) (by rw [sessionA]; exact opened)
    rw [ends] at after
    obtain ⟨lamps, faults, content, fresh, held, owed, slot, timer, heater, weakly, run, record, told, exits⟩ :=
      endSession_then_plugOut after
    have lampsA : a.lamps = s.lamps := by rw [ha]; rfl
    have faultsA : a.faults = s.faults := by rw [ha]; rfl
    have sheet := s.lamps.sessionEnded_values
    dsimp only at lamps faults record
    rw [lampsA] at lamps
    rw [faultsA] at faults
    rw [depA] at record
    obtain ⟨_, loose, emptied, feed, _⟩ := sheet
    have still := settle_lamps_still check (Link.loosens_of_empty slot)
    have list := settle_faults_blocked check pass
    have passes := settle_pass_blocked pass
    have waivers : x.dep.waiveLamp = false ∧ x.dep.waiveFault = false ∧ x.dep.waiveHeat = false := by
      rw [record]; exact ⟨rfl, rfl, rfl⟩
    refine ⟨?_, ?_, ?_, ?_, ?_, ?_, ?_, ?_, ?_, ?_, ?_, passes.1.trans held, passes.2.trans owed, r.passTimer.trans timer, ?_, ?_, ?_,
      r.heaterFault.trans heater, r.weakFound.trans weakly, r.overdrawRun.trans run, fun leaves => ?_, fun rests => ?_⟩
    · rw [r.session, bay, ends]; simp
    · rw [settle_tells (src := .sessionEnded) rfl nofun nofun]; exact told
    · rw [list, faults]; rfl
    · rw [list, faults]; rfl
    · rw [list, faults]; rfl
    · rw [list, faults]; rfl
    · rw [still, lamps, emptied]
    · rw [still, lamps, feed]
    · rw [still, lamps, loose]
    · rw [r.cache, content]
    · rw [r.cache, fresh]
    · rw [r.dep]; exact waivers.1
    · rw [r.dep]; exact waivers.2.1
    · rw [r.dep]; exact waivers.2.2
    · have exit : s.exits id.coach := leaves
      have cancelled : x.dep.state = .none ∧ x.dep.assignment = none ∧ x.dep.countdown = none := by
        rw [record, Departure.sessionEnded, Departure.afterSession_exits exit]
        exact ⟨by simp [Departure.cancelled], rfl, rfl⟩
      have stays := (settle_of_rests (s := x) (by rw [cancelled.1]; rfl)).1
      rw [stays]
      refine ⟨cancelled.1, cancelled.2.1, cancelled.2.2, ?_⟩
      rw [settle_tells (src := .unclearedExit) rfl nofun nofun]
      exact exits (by unfold State.exits State.admits at exit ⊢; dsimp only; rwa [depA])
    · have same : x.dep.state = s.dep.state ∧ x.dep.assignment = s.dep.assignment := by
        rw [record, Departure.sessionEnded, Departure.afterSession_rests rests]
        exact ⟨rfl, rfl⟩
      have stays := (settle_of_rests (s := x) (by rw [same.1]; rcases rests with e | e | e <;> rw [e] <;> rfl)).1
      rw [stays]
      exact same

end Sys2Proof.Machine
end

section
/-! SUPPORT. An identification: the session it opens, continues or replaces, and its records through the reactions (O14). -/

namespace Sys2Proof.Machine

open Sys2Proof

/-! ### Records of the station through the reactions -/

/-- Every record is of a cause of the station's own. -/
def Faults.stationOnly (f : Faults) : Prop := ∀ r ∈ f.records, r.origin = .station

theorem Faults.stationOnly.stations {f : Faults} (h : f.stationOnly) : f.stations = f.records :=
  List.filter_eq_self.mpr fun r mem => decide_eq_true (h r mem)

theorem map_stationOnly {f : Faults} (h : f.stationOnly) {g : FaultRecord → FaultRecord} (own : ∀ r, r.origin = .station → g r = r) :
    f.records.map g = f.records := by
  conv_rhs => rw [← List.map_id f.records]
  exact List.map_congr_left fun r mem => own r (h r mem)

theorem startPass_stationOnly {s : State} (h : s.faults.stationOnly) : (startPass s).faults.records = s.faults.records := by
  have begun : s.faults.beginPass.records = s.faults.records :=
    map_stationOnly h fun r own => if_neg fun k => by rw [own] at k; cases k.1
  unfold startPass raiseFaultNext
  split
  · split <;> exact begun
  · rfl

theorem startCheck_stationOnly {s : State} (up : s.connectedUp) (h : s.faults.stationOnly) :
    (startCheck s).faults.records = s.faults.records := by
  have begun : s.faults.inactivateLamps.records = s.faults.records :=
    map_stationOnly h fun r own => if_neg fun k => by rw [own] at k; cases k
  rcases startCheck_faults up with e | e <;> rw [e]
  exact begun

theorem settle_stationOnly {s : State} (up : s.connectedUp) (h : s.faults.stationOnly) :
    (settle s).faults.records = s.faults.records := by
  have round {a : State} (up : a.connectedUp) (h : a.faults.stationOnly) : (react a).faults.records = a.faults.records := by
    have same : (react a).faults = (startCheck (startPass a)).faults := by
      rw [react_eq]
      simp
    have r : Reacted a (startPass a) := (Reacted.refl a).startPass
    have passed := startPass_stationOnly h
    rw [same, startCheck_stationOnly (fun on => r.linkState.trans (up (r.occupancy.symm.trans on))) (by
      unfold Faults.stationOnly
      rwa [passed]), passed]
  have only {a b : State} (same : b.faults.records = a.faults.records) (h : a.faults.stationOnly) : b.faults.stationOnly := by
    unfold Faults.stationOnly
    rwa [same]
  have r : Reacted s (react s) := (Reacted.refl s).react
  have up1 : (react s).connectedUp := fun on => r.linkState.trans (up (r.occupancy.symm.trans on))
  have first := round up h
  have second := round up1 (only first h)
  rw [settle_faults, startPass_stationOnly (only (second.trans first) h), second, first]

/-! ### A session opened -/

/-- The record of a coach the loop has not seen (R11). -/
def presenceRecord (now : Nat) : FaultRecord :=
  { origin := .station, module := 1, code := 0, severity := .advisory, count := 1, active := true,
    firstSeen := now / 1000, lastSeen := now / 1000, stamp := none }

theorem openSession_fresh {s : State} (empty : s.faults.records = []) (id : Identity) :
    (openSession id s).faults.records = (if s.bay.implied then [presenceRecord s.now] else []) ∧
      (openSession id s).notices.tells .coachIdentified id.coach = true ∧
      ∀ src, Source.coachIdentified ≠ src → (openSession id s).notices.get src = s.notices.get src := by
  obtain ⟨b, hb⟩ : ∃ b, b = recomputeLead { s with
    bay := { s.bay with session := .opened id },
    link := { s.link with passOwed := true, passTimer := some (s.now + Config.passPeriod) } } := ⟨_, rfl⟩
  have opened : openSession id s = raiseEdge .coachIdentified id.coach (if b.bay.implied then offerStation 1 b else b) := by
    rw [hb]; rfl
  have keeps : b.bay.implied = s.bay.implied ∧ b.faults = s.faults ∧ b.notices = s.notices ∧ b.now = s.now ∧
      b.sessionOpen = true := by
    rw [hb]
    simp [State.sessionOpen, State.identity]
  obtain ⟨implied, faults, notices, now, on⟩ := keeps
  have none : b.faults.records = [] := by rw [faults]; exact empty
  have taken : offerStation 1 b = { b with faults := { b.faults with records := [presenceRecord s.now] } } := by
    have room := (Faults.take_newcomer (f := b.faults)
      (o := { origin := .station, module := 1, code := 0, severity := .advisory, count := 1 }) (by rw [none]; nofun) b.uptime).1
      (by rw [none]; decide)
    refine ((offerFault_of_open on _).1 _ room).trans ?_
    rw [none, State.uptime, now]
    rfl
  rw [opened]
  refine ⟨?_, raiseEdge_tells .., fun src other => ?_⟩
  · rw [show (raiseEdge .coachIdentified id.coach (if b.bay.implied then offerStation 1 b else b)).faults =
      (if b.bay.implied then offerStation 1 b else b).faults from by simp, implied]
    split
    · rw [taken]
    · exact none
  · rw [raiseEdge_get_other id.coach _ other]
    split
    · rw [taken]
      exact congrArg (fun n => Notices.get n src) notices
    · rw [notices]

/-! ### The identity put to the session -/

/-- The departure after a replaced coach that was not let go (R159; log 22). -/
theorem Departure.afterSession_replaced {s : State} {coach : Nat} (exits : s.exits coach) (now transit : Nat) :
    s.dep.afterSession .identityReplaced coach now transit =
      if s.dep.assignment = some 0 then s.dep.move .assigned else s.dep.cancelled := by
  unfold Departure.afterSession
  rcases exits with e | e | ⟨e, admits⟩
  · rw [e]
  · rw [e]
  · have admitted := (State.admits_iff s coach).mp admits
    rw [e]
    dsimp only
    split
    · exact (Departure.move_self e).symm
    · next other => exact if_pos (admitted.resolve_left other)

theorem endSession_stays {s : State} {coach : Nat} (stays : s.dep.state = .assigned ∧ s.admits coach = false) :
    s.dep.afterSession .identityReplaced coach s.now s.start.image.transit = s.dep ∧
      (endSession .identityReplaced coach s).notices.get .unclearedExit = s.notices.get .unclearedExit := by
  obtain ⟨state, no⟩ := stays
  have apart : ¬(s.dep.assignment = some 0 ∨ s.dep.assignment = some coach) := fun h => by
    rw [(State.admits_iff s coach).mpr h] at no
    cases no
  obtain ⟨dep, notices, _⟩ := s.closing_keeps
  refine ⟨?_, ?_⟩
  · unfold Departure.afterSession
    rw [state]
    dsimp only
    rw [if_neg fun h => apart (.inl h), if_neg fun h => apart (.inr h)]
  · have admits : s.closing.admits coach = false := by unfold State.admits at no ⊢; rwa [dep]
    rw [endSession_get (src := .unclearedExit) rfl nofun]
    unfold departureAtSessionEnd
    rw [dep, state]
    dsimp only
    rw [admits, if_neg (by nofun), notices]

theorem endSession_released {s : State} {coach : Nat} (holding : s.dep.state = .holding) :
    (endSession .identityReplaced coach s).notices.tells .released coach = true := by
  unfold Notices.tells
  rw [endSession_get (src := .released) rfl nofun]
  unfold departureAtSessionEnd
  rw [s.closing_keeps.1, holding]
  exact raiseEdge_tells ..

/-- What another identity than the held one brings (R10, R11, R12). -/
theorem putIdentity_opens {s : State} {id : Identity} (other : s.bay.session ≠ .opened id)
    (fresh : s.bay.session = .none → s.faults.records = []) :
    (putIdentity id s).notices.tells .coachIdentified id.coach = true ∧
      (putIdentity id s).link.passTimer = some (s.now + 600000) ∧
      (putIdentity id s).faults.records = (if s.bay.implied then [presenceRecord s.now] else []) ∧
      ∀ held, s.bay.session = .opened held ∨ s.bay.session = .departing held →
        (∀ src, Source.coachIdentified ≠ src →
          (putIdentity id s).notices.get src = (endSession .identityReplaced held.coach s).notices.get src) ∧
        (putIdentity id s).dep = s.dep.sessionEnded .identityReplaced held.coach s.now s.start.image.transit := by
  rcases putIdentity_cases id s with ⟨same, _⟩ | ⟨none, e⟩ | ⟨held, before, e⟩
  · exact absurd same other
  · obtain ⟨records, told, _⟩ := openSession_fresh (fresh none) id
    rw [e]
    refine ⟨told, by simp, records, fun held h => ?_⟩
    rcases h with h | h <;> rw [none] at h <;> cases h
  · obtain ⟨records, told, others⟩ := openSession_fresh (s := endSession .identityReplaced held.coach s)
      (by simp [Faults.endSession]) id
    have same : ∀ h, s.bay.session = .opened h ∨ s.bay.session = .departing h → h = held := by
      intro h k
      rcases before with ⟨b, _⟩ | b <;> rcases k with k | k <;> rw [b] at k <;> cases k <;> rfl
    rw [e]
    refine ⟨told, by simp, ?_, fun h k => ?_⟩
    · rw [records]
      simp
    · rw [same h k]
      exact ⟨others, by simp⟩

/-- A replaced coach's departure at the end of the event, by R159's column for an identity replaced. -/
theorem replaced_settled {c x : State} {coach : Nat}
    (told : ∀ src, Source.coachIdentified ≠ src →
      x.notices.get src = (endSession .identityReplaced coach c).notices.get src)
    (record : x.dep = c.dep.sessionEnded .identityReplaced coach c.now c.start.image.transit) :
    (settle x).notices.tells .sessionEnded coach = true ∧
      (c.exits coach → (settle x).notices.tells .unclearedExit coach = true ∧
        (c.dep.assignment = some 0 → (settle x).dep.state.moves = true ∧ (settle x).dep.assignment = some 0) ∧
        (c.dep.assignment ≠ some 0 →
          (settle x).dep.state = .none ∧ (settle x).dep.assignment = none ∧ (settle x).dep.countdown = none)) ∧
      (c.dep.state = .assigned → c.admits coach = false → (settle x).dep.state.moves = true ∧
        (settle x).dep.assignment = c.dep.assignment ∧
        (settle x).notices.get .unclearedExit = c.notices.get .unclearedExit) ∧
      (c.dep.state = .holding → (settle x).dep.state = .gone ∧ (settle x).dep.assignment = c.dep.assignment ∧
        (settle x).notices.tells .released coach = true ∧
        (settle x).dep.transitTimer = some (c.now + 1000 * c.start.image.transit)) ∧
      ((c.dep.state = .gone ∨ c.dep.state = .lapsed ∨ c.dep.state = .none) →
        (settle x).dep.state = c.dep.state ∧ (settle x).dep.assignment = c.dep.assignment) ∧
      (settle x).dep.waiveLamp = false ∧ (settle x).dep.waiveFault = false ∧ (settle x).dep.waiveHeat = false := by
  have r := settle_reacted x
  have tells {src : Source} {arg : Nat} (edge : src.isCondition = false) (sheet : src ≠ .lampSheetDone)
      (lost : src ≠ .blockingLost) (other : Source.coachIdentified ≠ src)
      (ended : (endSession .identityReplaced coach c).notices.tells src arg = true) : (settle x).notices.tells src arg = true := by
    rw [settle_tells edge sheet lost]
    unfold Notices.tells at ended ⊢
    rwa [told src other]
  have waivers : x.dep.waiveLamp = false ∧ x.dep.waiveFault = false ∧ x.dep.waiveHeat = false := by
    rw [record]; exact ⟨rfl, rfl, rfl⟩
  have assigned : (settle x).dep.assignment = x.dep.assignment := by rw [r.dep]
  refine ⟨tells rfl nofun nofun nofun (endSession_tells ..), fun leaves => ?_, fun state no => ?_, fun holding => ?_, fun rests => ?_,
    by rw [r.dep]; exact waivers.1, by rw [r.dep]; exact waivers.2.1, by rw [r.dep]; exact waivers.2.2⟩
  · refine ⟨tells rfl nofun nofun nofun (endSession_exits leaves (.inr rfl)), fun any => ?_, fun one => ?_⟩
    · rw [Departure.sessionEnded, Departure.afterSession_replaced leaves, if_pos any] at record
      refine ⟨r.moves ?_, assigned.trans ?_⟩
      · rw [record]; simp [DepState.moves]
      · rw [record]; simpa using any
    · rw [Departure.sessionEnded, Departure.afterSession_replaced leaves, if_neg one] at record
      have none : x.dep.state = .none ∧ x.dep.assignment = none ∧ x.dep.countdown = none := by
        rw [record]; exact ⟨by simp [Departure.cancelled], rfl, rfl⟩
      rw [(settle_of_rests (s := x) (by rw [none.1]; rfl)).1]
      exact none
  · obtain ⟨same, quiet⟩ := endSession_stays ⟨state, no⟩
    rw [Departure.sessionEnded, same] at record
    refine ⟨r.moves (by rw [record]; dsimp only; rw [state]; rfl), assigned.trans (by rw [record]), ?_⟩
    rw [settle_get (src := .unclearedExit) rfl nofun nofun, told .unclearedExit nofun]
    exact quiet
  · have gone : c.dep.afterSession .identityReplaced coach c.now c.start.image.transit = c.dep.gone c.now c.start.image.transit := by
      unfold Departure.afterSession
      rw [holding]
    rw [Departure.sessionEnded, gone] at record
    have values : x.dep.state = .gone ∧ x.dep.assignment = c.dep.assignment ∧
        x.dep.transitTimer = some (c.now + 1000 * c.start.image.transit) := by
      rw [record]; exact ⟨by simp [Departure.gone], by simp [Departure.gone], rfl⟩
    rw [(settle_of_rests (s := x) (by rw [values.1]; rfl)).1]
    exact ⟨values.1, values.2.1, tells rfl nofun nofun nofun (endSession_released holding), values.2.2⟩
  · rw [Departure.sessionEnded, Departure.afterSession_rests rests] at record
    rw [(settle_of_rests (s := x) (by rw [record]; dsimp only; rcases rests with e | e | e <;> rw [e] <;> rfl)).1, record]
    exact ⟨rfl, rfl⟩

/-! ### The answer -/

/-- The bay's state when an IDENTIFY answered reaches it: the link's busy slot and run cleared, and the link UP (R25). -/
def State.reached (s : State) (t : Nat) : State :=
  linkComesUp { s.advance t with link := { s.link with busy := none, failureRun := 0 } }

theorem linkComesUp_state (s : State) :
    (linkComesUp s).link.state = if s.link.state = .opening ∨ s.link.state = .lost then .up else s.link.state := by
  unfold linkComesUp raiseTemp
  split
  · dsimp only; split <;> simp
  · rfl

theorem State.reached_keeps (s : State) (t : Nat) : (s.reached t).bay = s.bay ∧ (s.reached t).dep = s.dep ∧
    (s.reached t).now = max s.now t ∧ (s.reached t).start = s.start ∧ (s.reached t).faults = s.faults ∧
    (s.reached t).notices = s.notices ∧ (s.reached t).link.failureRun = 0 ∧ (s.reached t).link.passTimer = s.link.passTimer ∧
    (s.reached t).link.state = (if s.link.state = .opening ∨ s.link.state = .lost then .up else s.link.state) := by
  refine ⟨?_, ?_, ?_, ?_, ?_, ?_, ?_, ?_, linkComesUp_state _⟩ <;> simp [State.reached, State.advance]

theorem execIdentifyResponse_answered {t tag coach cls hint : Nat} {x : Transaction} {s : State} (busy : s.link.busy = some x)
    (request : x.request = .identify) (same : x.tag = tag) (time : max s.now t ≤ x.timer) (hc : coach ≤ 65535) (hl : cls ≤ 3)
    (hh : hint ≤ 255) : exec (.identifyResponse t tag coach cls hint) s =
      .next (settle (takeHint hint (identifySucceeded { coach := coach, cls := cls } (s.reached t)))) :=
  congrArg Host.Outcome.next (takeReply_succeeds busy same time (by simp [request, hc, hl, hh]))

theorem State.exits_congr {a b : State} {coach : Nat} (dep : b.dep = a.dep) (h : a.exits coach) : b.exits coach := by
  unfold State.exits State.admits at *
  rwa [dep]

/-- Settles O14: what the identity brings to the session, and the hint, through reactions that leave both. -/
theorem identifyAnswerOpensTheSession : Obligations.IdentifyAnswerOpensTheSession := by
  intro t tag coach cls hint x s busy request same time hc hl hh
  have effect := execIdentifyResponse_answered busy request same time hc hl hh
  obtain ⟨bay, dep, now, start, faults, notices, run, timer, state⟩ := s.reached_keeps t
  generalize s.reached t = b at *
  obtain ⟨id, hid⟩ : ∃ id : Identity, id = { coach := coach, cls := cls } := ⟨_, rfl⟩
  rw [← hid] at effect ⊢
  have named : coach = id.coach := by rw [hid]
  have r := settle_reacted (takeHint hint (identifySucceeded id b))
  have link : (takeHint hint (identifySucceeded id b)).link.failureRun = 0 ∧
      (takeHint hint (identifySucceeded id b)).link.state = b.link.state := by simp [run]
  refine ⟨_, effect, r.failureRun.trans link.1, r.linkState.trans (link.2.trans state), fun arriving => ?_, fun elsewhere => ?_⟩
  · obtain ⟨c, hcb⟩ : ∃ c, c = ({ b with bay := { b.bay with occupancy := .connected, reidentify := none } } : State) := ⟨_, rfl⟩
    have put : identifySucceeded id b = putIdentity id c := by
      unfold identifySucceeded
      rw [bay, hcb]
      rcases arriving with e | e <;> rw [e] <;> dsimp only <;> rw [bay]
    rw [put] at r link ⊢
    have opened : (putIdentity id c).bay = { c.bay with session := .opened id } := by simp
    have held : (putIdentity id c).sessionOpen = true := by simp [State.sessionOpen, State.identity]
    have hinted : takeHint hint (putIdentity id c) =
        { putIdentity id c with faults := { (putIdentity id c).faults with figure := some hint } } := if_pos held
    have bayX : (takeHint hint (putIdentity id c)).bay = { c.bay with session := .opened id } := by rw [hinted]; exact opened
    have bayC : c.bay = { s.bay with occupancy := .connected, reidentify := none } := by rw [hcb, bay]
    rw [bayC] at bayX
    have figure : (settle (takeHint hint (putIdentity id c))).faults.figure = some hint := by rw [r.figure, hinted]
    have depC : c.dep = s.dep := by rw [hcb]; exact dep
    have nowC : c.now = max s.now t := by rw [hcb]; exact now
    have startC : c.start = s.start := by rw [hcb]; exact start
    have faultsC : c.faults = s.faults := by rw [hcb]; exact faults
    have noticesC : c.notices = s.notices := by rw [hcb]; exact notices
    have timerC : c.link.passTimer = s.link.passTimer := by rw [hcb]; exact timer
    refine ⟨?_, ?_, ?_, ?_, figure, fun plugged other fresh => ?_, fun again => ?_⟩
    · rw [r.occupancy, bayX]
    · rw [r.bay]; dsimp only; rw [bayX]
    · rw [r.bay]; dsimp only; rw [bayX]
    · rw [r.session, bayX]
    · obtain ⟨told, passes, records, replaced⟩ := putIdentity_opens (s := c) (id := id) (by rw [bayC]; exact other)
        (by rw [bayC, faultsC]; exact fresh)
      have up : (takeHint hint (putIdentity id c)).connectedUp := fun _ => by
        rw [link.2, state]
        cases lk : s.link.state <;> first | rfl | exact absurd lk plugged
      have recordsX : (takeHint hint (putIdentity id c)).faults.records =
          if s.bay.implied then [presenceRecord (max s.now t)] else [] := by
        rw [hinted]
        refine records.trans ?_
        rw [bayC, nowC]
      have stations : (takeHint hint (putIdentity id c)).faults.stationOnly := by
        intro f mem
        rw [recordsX] at mem
        split at mem
        · rw [List.mem_singleton.mp mem]; rfl
        · cases mem
      have noticesX : (takeHint hint (putIdentity id c)).notices = (putIdentity id c).notices := by rw [hinted]
      have depX : (takeHint hint (putIdentity id c)).dep = (putIdentity id c).dep := by rw [hinted]
      have timerX : (takeHint hint (putIdentity id c)).link.passTimer = (putIdentity id c).link.passTimer := by rw [hinted]
      refine ⟨?_, r.passTimer.trans (timerX.trans (passes.trans (by rw [nowC]))), ?_, fun held before => ?_⟩
      · rw [settle_tells (src := .coachIdentified) rfl nofun nofun, noticesX, named]
        exact told
      · rw [settle_stationOnly up stations]
        exact recordsX
      · obtain ⟨others, record⟩ := replaced held (by rw [bayC]; exact before)
        have replacement := replaced_settled (c := c) (x := takeHint hint (putIdentity id c)) (coach := held.coach)
          (fun src other => by rw [noticesX]; exact others src other) (depX.trans record)
        unfold State.exits State.admits at replacement
        rw [depC, nowC, startC, noticesC] at replacement
        exact replacement
    · have same : putIdentity id c = c := by
        unfold putIdentity
        rw [bayC, again]
        exact if_pos rfl
      have depX : (takeHint hint (putIdentity id c)).dep = s.dep := by rw [hinted, same]; exact depC
      have timerX : (takeHint hint (putIdentity id c)).link.passTimer = s.link.passTimer := by rw [hinted, same]; exact timerC
      rw [r.passTimer, r.dep, depX]
      exact ⟨timerX, rfl, rfl, rfl, rfl⟩
  · have ignored : identifySucceeded id b = b := by
      unfold identifySucceeded
      rw [bay]
      rcases elsewhere with e | e | e <;> rw [e]
    rw [ignored] at r ⊢
    have open_ : b.sessionOpen = s.sessionOpen := by unfold State.sessionOpen State.identity; rw [bay]
    have bayX : (takeHint hint b).bay = s.bay := by simp [bay]
    refine ⟨?_, ?_⟩
    · have aspect : (settle (takeHint hint b)).bay.aspect = _ := settle_headRight _
      rw [r.bay, aspect, bayX]
    · rw [r.figure, ← open_, ← faults]
      unfold takeHint
      split <;> rfl

end Sys2Proof.Machine
end

section
/-! SUPPORT. A cabin temperature answered: the cache, the cabin used and the marks of the heat controller (O15). -/

namespace Sys2Proof.Machine

open Sys2Proof

/-! ### The marks through the reactions -/

/-- A called mark set afresh leaves at target and the keep-warm call where at target is set (R124, R125). -/
theorem updateCalled_at_target {s : State} (target : s.heat.atTarget = true) :
    (updateCalled s).heat.atTarget = true ∧ (updateCalled s).heat.keepWarm = s.heat.keepWarm := by
  unfold updateCalled
  split
  · dsimp only
    split
    · simp [target]
    · exact ⟨target, rfl⟩
  · exact ⟨target, rfl⟩

theorem evalHeat_at_target {s : State} (target : s.heat.atTarget = true) (on : (evalHeat s).heat.state ≠ .off) :
    (evalHeat s).heat.atTarget = true ∧ (evalHeat s).heat.keepWarm = s.heat.keepWarm := by
  obtain ⟨kept, warm⟩ := updateCalled_at_target target
  have heat : (evalHeat s).heat = _ := updateWanted_heat (enterHeatState (updateCalled s).heatTest (updateCalled s))
  generalize updateCalled s = a at *
  generalize evalHeat s = e at *
  rw [heat] at on ⊢
  rcases enterHeatState_marks a.heatTest a with ⟨off, _⟩ | ⟨_, _, target', warm'⟩
  · exact absurd ((enterHeatState_heat a.heatTest a).1.trans off) on
  · exact ⟨target'.trans kept, warm'.trans warm⟩

/-- At target and the keep-warm call outlast the reactions but in OFF (R125). -/
theorem settle_at_target {s : State} (target : s.heat.atTarget = true) (on : (settle s).heat.state ≠ .off) :
    (settle s).heat.atTarget = true ∧ (settle s).heat.keepWarm = s.heat.keepWarm := by
  obtain ⟨settled, same⟩ := settle_heat_evalHeat s
  have kept := evalHeat_at_target (s := firstRead s) (by rw [same]; exact target)
  rw [← settled, same] at kept
  exact kept on

/-! ### The reading -/

/-- What a reading does to the marks (R125). -/
theorem readingMarks_values {s : State} {fig : ClassFigures} (figures : s.figures = some fig) (reading : Int) :
    (s.heat.atTarget = true → (readingMarks reading s).heat.atTarget = true ∧
      (readingMarks reading s).heat.keepWarm =
        (if reading ≤ fig.target - 2 then true else if fig.target + 2 ≤ reading then false else s.heat.keepWarm)) ∧
    (s.heat.atTarget = false → s.heat.called = true → fig.target ≤ reading →
      (readingMarks reading s).heat.atTarget = true ∧
      (readingMarks reading s).heat.keepWarm = (decide (0 < s.heat.drawn) && decide (reading < fig.target + 2))) := by
  unfold readingMarks
  rw [figures]
  refine ⟨fun target => ?_, fun clear called reached => ?_⟩
  · dsimp only
    rw [if_pos target]
    unfold holdWarm
    split
    · exact ⟨target, rfl⟩
    · split
      · exact ⟨target, rfl⟩
      · exact ⟨target, rfl⟩
  · dsimp only
    rw [if_neg (by simp [clear]), updateCalled_of_called called, if_pos (by simp [called, clear, reached])]
    exact ⟨rfl, rfl⟩

theorem Reacted.readingMarks {a s : State} (h : Reacted a s) (reading : Int) : Reacted a (Machine.readingMarks reading s) := by
  unfold Machine.readingMarks
  split
  · exact h
  · split
    · unfold holdWarm
      split
      · exact h.withHeat _
      · split
        · exact h.withHeat _
        · exact h
    · dsimp only
      split
      · exact h.updateCalled.setAtTarget _ _
      · exact h.updateCalled

/-- The transaction on the wires is no part of what reactions leave. -/
theorem Reacted.of_idle {a b : State} (h : Reacted (idleLink a) b) : Reacted a b := { h with }

/-- A reading and the lead taken from it, before the marks (R33, R117). -/
def State.cabinRead (s : State) (t : Nat) (v : Int) : State :=
  recomputeLead { s.advance t with link := { s.link with
    busy := none, failureRun := 0,
    cache := { content := .reading v, taken := max s.now t / 1000, fresh := true, staleTimer := some (max s.now t + 120000) } } }

/-- The no-sensor mark in the cache (R33). -/
def State.noSensor (s : State) (t : Nat) : State :=
  { s.advance t with link := { s.link with
    busy := none, failureRun := 0, cache := { content := .noSensor, taken := max s.now t / 1000, fresh := false, staleTimer := none } } }

theorem execReadTempResponse_answered {t tag : Nat} {reading : Option Int} {x : Transaction} {s : State}
    (busy : s.link.busy = some x) (request : x.request = .readTemp) (same : x.tag = tag) (time : max s.now t ≤ x.timer) :
    exec (.readTempResponse t tag reading) s = .next (settle (match reading with
      | some v => readingMarks (clampInt (-80) 120 v) (s.cabinRead t (clampInt (-80) 120 v))
      | none => if s.link.cache.fresh then cacheWentStale (s.noSensor t) else s.noSensor t)) := by
  refine congrArg Host.Outcome.next ((takeReply_succeeds busy same time (by simp [request])).trans ?_)
  cases reading <;> rfl

/-- A fresh reading is the cabin used by a configured bay with a session open (R110, R117). -/
theorem settle_cabin {s : State} {t : Nat} {v : Int} (on : s.configured = true) (opened : s.sessionOpen = true) :
    (settle (readingMarks v (s.cabinRead t v))).lead.cabin = some (v, .cabin) := by
  have r : Reacted (s.cabinRead t v) (settle (readingMarks v (s.cabinRead t v))) := ((Reacted.refl _).readingMarks v).settle
  have read : (s.cabinRead t v).leadTaken := recomputeLead_taken fun off => by
    have off : s.configured = false := off
    rw [on] at off
    cases off
  have taken : (readingMarks v (s.cabinRead t v)).leadTaken :=
    State.leadTaken_congr read (by constructor <;> simp) (by simp) (by simp) (by simp) (by simp)
  have settled := (settle_governed (m := False) taken False.elim).1.1
  have keeps : (s.cabinRead t v).start = s.start ∧ (s.cabinRead t v).bay = s.bay ∧ (s.cabinRead t v).link.cache.fresh = true ∧
      (s.cabinRead t v).link.cache.content = .reading v := by simp [State.cabinRead]
  obtain ⟨start, bay, fresh, content⟩ := keeps
  generalize settle (readingMarks v (s.cabinRead t v)) = u at *
  have on' : u.configured = true := by
    rw [r.configured]; unfold State.configured at on ⊢; rw [start]; exact on
  obtain ⟨fig, figures⟩ : ∃ fig, u.figures = some fig := by
    have open_ : u.identity.isSome = true := by
      rw [r.identity]; unfold State.sessionOpen State.identity at opened; unfold State.identity; rw [bay]; exact opened
    obtain ⟨id, held⟩ := Option.isSome_iff_exists.mp open_
    exact ⟨_, by unfold State.figures; rw [held]; rfl⟩
  have used : u.cabinUsed = (v, .cabin) := by
    unfold State.cabinUsed
    rw [r.cache, fresh, content]
  unfold State.leadTaken State.leadOf at settled
  rw [on', figures, used] at settled
  exact (Prod.mk.inj (Prod.mk.inj settled).2).2

/-- Settles O15: the cache and the marks the answer leaves, and reactions that leave the cache, the cabin used and, but in OFF, the marks. -/
theorem cabinAnswerFillsTheCache : Obligations.CabinAnswerFillsTheCache := by
  intro t tag reading x s busy request same time
  have effect := execReadTempResponse_answered (reading := reading) busy request same time
  cases reading with
  | some v =>
    dsimp only at effect
    generalize hv : clampInt (-80) 120 v = w at effect
    have figures : (s.cabinRead t w).figures = s.figures := by
      unfold State.figures State.identity
      simp [State.cabinRead]
    have heat : (s.cabinRead t w).heat = s.heat := by simp [State.cabinRead]
    refine ⟨_, effect, ?_, fun v' e on opened => ?_, fun v' fig e figs on target => ?_, fun v' fig e figs on clear called reached => ?_,
      nofun⟩
    · dsimp only
      rw [hv]
      exact Reacted.of_idle (((Reacted.refl _).recomputeLead.readingMarks w).settle)
    · cases e
      rw [hv]
      exact settle_cabin on opened
    · cases e
      rw [hv]
      have marks := (readingMarks_values (figures.trans figs) w).1 (by rw [heat]; exact target)
      rw [heat] at marks
      obtain ⟨kept, same⟩ := settle_at_target marks.1 on
      exact ⟨kept, same.trans marks.2⟩
    · cases e
      rw [hv] at reached ⊢
      have marks := (readingMarks_values (figures.trans figs) w).2 (by rw [heat]; exact clear) (by rw [heat]; exact called) reached
      rw [heat] at marks
      obtain ⟨kept, same⟩ := settle_at_target marks.1 on
      exact ⟨kept, same.trans marks.2⟩
  | none =>
    dsimp only at effect
    refine ⟨_, effect, ?_, nofun, nofun, nofun, fun _ fresh opened => ?_⟩
    · have put : Reacted (s.noSensor t) (if s.link.cache.fresh then cacheWentStale (s.noSensor t) else s.noSensor t) := by
        split
        · exact (Reacted.refl _).recomputeLead.clearAtTarget
        · exact .refl _
      exact Reacted.of_idle put.settle
    · rw [if_pos fresh]
      refine settle_atTarget (fun on => ?_) (by simp [State.noSensor, cacheWentStale]) (by simp)
      have on : s.configured = true := by unfold State.configured at on ⊢; simpa [State.noSensor, cacheWentStale] using on
      refine State.leadTaken_congr (recomputeLead_taken (s := s.noSensor t) fun off => ?_) (by constructor <;> simp [cacheWentStale])
        (by simp [cacheWentStale]) (by simp [cacheWentStale]) (by simp [cacheWentStale]) (by simp [cacheWentStale])
      have off : s.configured = false := off
      rw [on] at off
      cases off

end Sys2Proof.Machine
end

section
/-! SUPPORT. The supply monitor: a sag detected and a supply recovered, at the heat controller and at a running lamp step (O35). -/

namespace Sys2Proof.Machine

open Sys2Proof

/-! ### The heat controller in a sag -/

/-- A called station stays called through the reactions unless it goes OFF (R124). -/
theorem evalHeat_called {s : State} (called : s.heat.called = true) (on : (evalHeat s).heat.state ≠ .off) :
    (evalHeat s).heat.called = true := by
  have heat : (evalHeat s).heat = _ := updateWanted_heat (enterHeatState (updateCalled s).heatTest (updateCalled s))
  rw [updateCalled_of_called called] at heat
  generalize evalHeat s = e at *
  rw [heat] at on ⊢
  rcases enterHeatState_marks s.heatTest s with ⟨off, _⟩ | ⟨_, kept, _⟩
  · exact absurd ((enterHeatState_heat s.heatTest s).1.trans off) on
  · exact kept.trans called

/-- A called station is shed while sag is present (R123, R136). -/
theorem settle_shed {s : State} (on : s.offCondition = false) (sound : s.heat.heaterFault = false) (called : s.heat.called = true)
    (sag : s.supply.sag = true) : (settle s).heat.state = .shed ∧ (settle s).heat.drawn = 0 := by
  have r := settle_reacted s
  have state := settle_heat s
  obtain ⟨heat, first⟩ := settle_heat_evalHeat s
  have fault : (settle s).heat.heaterFault = false := r.heaterFault.trans sound
  have sagging : (settle s).supply.sag = true := by rw [r.supply]; exact sag
  have off : (settle s).offCondition = false := r.offCondition.trans on
  have tested : (settle s).heatTest = if (settle s).heat.called then .shed else .waiting := by
    cases h : (settle s).heat.called <;> simp [State.heatTest, off, fault, sagging, h]
  obtain ⟨wanted, drawn⟩ := evalHeat_wanted (firstRead s)
  have kept := evalHeat_called (s := firstRead s) (by rw [first]; exact called)
  rw [← heat] at kept wanted drawn
  have stays : (settle s).heat.called = true := kept (by rw [state, tested]; split <;> nofun)
  have shed : (settle s).heat.state = .shed := by rw [state, tested, stays]; rfl
  have nothing : (evalHeat (firstRead s)).wantedNow = 0 := by
    unfold State.wantedNow
    rw [← heat, shed]
  exact ⟨shed, by omega⟩

/-- Without a sag nothing is shed (R123). -/
theorem settle_not_shed {s : State} (sag : s.supply.sag = false) : (settle s).heat.state ≠ .shed := by
  have steady : (settle s).supply.sag = false := by rw [(settle_reacted s).supply]; exact sag
  rw [settle_heat]
  generalize settle s = u at *
  unfold State.heatTest
  simp only [steady]
  split
  · nofun
  · split
    · nofun
    · split
      · nofun
      · simp only [Bool.false_eq_true, if_false]
        split
        · nofun
        · split <;> nofun

/-! ### What a sag leaves through the reactions -/

/-- The transaction on the wires and the waiting LAMP_SET stay through the reactions where no check may start (R23). -/
theorem settle_busy_stays {s : State} {x : Transaction} (h : s.checkBlocked) (busy : s.link.busy = some x) :
    (settle s).link.busy = some x ∧ (settle s).link.lampReq = s.link.lampReq := by
  obtain ⟨h1, _, _, busy1, slot1, _⟩ := react_of_checkBlocked h
  obtain ⟨_, _, _, busy2, slot2, _⟩ := react_of_checkBlocked h1
  have wires : (startPass (react (react s))).link.busy = some x := by
    have kept : (startPass (react (react s))).link.busy = (react (react s)).link.busy := by simp
    rw [kept, busy2, busy1, busy]
  have slot : (startPass (react (react s))).link.lampReq = (react (react s)).link.lampReq := by simp
  have still : arbitrate (startPass (react (react s))) = startPass (react (react s)) := by
    unfold arbitrate
    rw [wires]
  rw [settle_link, still, slot, slot2, slot1]
  exact ⟨wires, rfl⟩

theorem State.checkBlocked_of_sag {s : State} (sag : s.supply.sag = true) : s.checkBlocked := by simp [State.checkBlocked, sag]

/-! ### The step caught by a sag -/

/-- The off for the loose channel, where no LAMP_SET is on the wires (R77; log 18). -/
def State.looseOff (s : State) : Option LampReq :=
  if s.link.busyLampSet then none
  else if s.link.state = .up then s.lamps.loose.map fun c => { channel := c, on := false, live := false }
  else none

theorem caughtBySag_link (s : State) :
    (caughtBySag s).link = { s.link with lampReq := s.looseOff, busy := s.link.busy.map (·.disownLamp) } := by
  unfold caughtBySag State.looseOff raiseLooseOff
  cases wires : s.link.busyLampSet
  · cases loose : s.lamps.loose with
    | none => simp [loose, disownLampSets, stopStepTimers, openFeed]
    | some c =>
      by_cases up : s.link.state = .up <;> simp [loose, up, disownLampSets, stopStepTimers, openFeed, placeLampSet]
  · simp [disownLampSets, stopStepTimers, openFeed]

/-- What waits after the sag is an off, so no channel becomes loose (R76, R77). -/
theorem caughtBySag_loosens (s : State) : (caughtBySag s).link.loosens = none := by
  have slot : (caughtBySag s).link.lampReq = s.looseOff := by rw [caughtBySag_link]
  cases h : s.looseOff with
  | none => exact Link.loosens_of_empty (slot.trans h)
  | some q =>
    refine Link.loosens_of_off (slot.trans h) ?_
    unfold State.looseOff at h
    split at h
    · cases h
    · split at h
      · cases loose : s.lamps.loose with
        | none => rw [loose] at h; cases h
        | some c => rw [loose] at h; cases h; rfl
      · cases h

/-- The verdict a step caught by sag is recorded with (R77). -/
def Lamps.caughtWith (l : Lamps) (v : Verdict) (current : Nat) : Prop :=
  (l.shortTaken = false → v = .incomplete ∧ current = 0) ∧ (l.shortTaken = true → l.measured = some (v, current))

theorem caughtBySag_measured {s : State} {v : Verdict} {current : Nat} (h : s.lamps.caughtWith v current) :
    (caughtBySag s).lamps = { s.lamps with
      feed := false, watchTimer := none, warmTimer := none, meanTimer := none, capture := none,
      measured := some (v, current), offOwed := s.link.busyLampSet } := by
  have lamps : (caughtBySag s).lamps = _ := (caughtBySag_keeps s).2.2.2
  rw [lamps]
  obtain ⟨sound, short⟩ := h
  cases taken : s.lamps.shortTaken
  · obtain ⟨rfl, rfl⟩ := sound taken
    rfl
  · rw [short taken]
    rfl

/-- The retry of a step caught by its first sag waits in SAG_WAIT (R77). -/
theorem sagCatches_first {s : State} (fresh : s.lamps.sagRetry = false) :
    sagCatches s = { caughtBySag s with lamps := { (caughtBySag s).lamps with sagRetry := true, stage := some .sagWait } } := by
  have kept : (caughtBySag s).lamps.sagRetry = s.lamps.sagRetry := by simp
  rw [sagCatches_eq, kept, fresh]
  rfl

/-- A step caught by its second sag is recorded, and the next waits in PAUSED or the check completes (R77, R78). -/
theorem sagCatches_second {s : State} {n : Nat} {v : Verdict} {current : Nat} (sag : s.supply.sag = true)
    (retried : s.lamps.sagRetry = true) (step : s.lamps.step = some n) (h : s.lamps.caughtWith v current) :
    sagCatches s =
      if n < s.lamps.program.length then
        { (caughtBySag s).recorded n v current with
          lamps := { ((caughtBySag s).recorded n v current).lamps with step := some (n + 1), stage := some .paused } }
      else completeCheck ((caughtBySag s).recorded n v current) := by
  have lamps := caughtBySag_measured h
  have supply : (caughtBySag s).supply = s.supply := by simp
  have keeps := (State.recorded_keeps (caughtBySag s) n v current).2
  rw [sagCatches_eq, if_pos (by rw [lamps]; exact retried),
    finishStep_eq (n := n) (v := v) (current := current) (by rw [lamps]; exact step) (by rw [lamps]),
    beginStep_sag (by dsimp only; rw [keeps, supply]; exact sag)]
  rw [lamps]

theorem sagCatches_link_supply {s : State} {n : Nat} {v : Verdict} {current : Nat} (sag : s.supply.sag = true)
    (step : s.lamps.step = some n) (h : s.lamps.caughtWith v current) :
    (sagCatches s).link = (caughtBySag s).link ∧ (sagCatches s).supply.sag = true := by
  have supply : (caughtBySag s).supply = s.supply := by simp
  obtain ⟨link, kept⟩ := State.recorded_keeps (caughtBySag s) n v current
  cases retried : s.lamps.sagRetry
  · rw [sagCatches_first retried]
    exact ⟨rfl, by rw [← sag, ← supply]⟩
  · rw [sagCatches_second sag retried step h]
    split
    · exact ⟨link, by dsimp only; rw [kept, supply, sag]⟩
    · generalize (caughtBySag s).recorded n v current = d at *
      exact ⟨by simp [link], by simp [kept, sag]⟩

/-- A sag finds a step with the feed closed or closing (R77). -/
theorem lampSag_fed {s : State} {st : Stage} (running : s.lamps.running = true) (stage : s.lamps.stage = some st)
    (fed : st = .feedOn ∨ st = .warm ∨ st = .measure ∨ st = .switchOff) : lampSag s = sagCatches s := by
  unfold lampSag
  rw [if_pos running, stage]
  rcases fed with rfl | rfl | rfl | rfl <;> rfl

theorem lampSag_clearing {s : State} (running : s.lamps.running = true) (stage : s.lamps.stage = some .clearOff) :
    lampSag s = { s with lamps := { s.lamps with stage := some .paused } } := by
  unfold lampSag
  rw [if_pos running, stage]

theorem lampSag_waiting {s : State} {st : Stage} (running : s.lamps.running = true) (stage : s.lamps.stage = some st)
    (waits : st = .linkWait ∨ st = .paused ∨ st = .sagWait) : lampSag s = s := by
  unfold lampSag
  rw [if_pos running, stage]
  rcases waits with rfl | rfl | rfl <;> rfl

theorem Reacted.lampSag {a s : State} (h : Reacted a s) : Reacted a (Machine.lampSag s) := by
  have caught : Reacted a (caughtBySag s) := by
    unfold caughtBySag
    dsimp only
    split
    · exact h.openFeed.stopStepTimers.disownLampSets.withLamps _
    · exact (h.openFeed.stopStepTimers.disownLampSets.withLamps _).raiseLooseOff
  have catches : Reacted a (sagCatches s) := by
    rw [sagCatches_eq]
    split
    · exact caught.finishStep
    · exact caught.withLamps _
  unfold Machine.lampSag
  split
  · split
    case h_5 => exact h.withLamps _
    case h_6 => exact h
    all_goals exact catches
  · exact h

theorem Reacted.lampRecovered {a s : State} (h : Reacted a s) : Reacted a (Machine.lampRecovered s) := by
  unfold Machine.lampRecovered
  split
  · split
    case h_3 => exact h
    all_goals exact h.startStep
  · exact h

theorem Link.busyLampSet_iff {l : Link} :
    l.busyLampSet = true ↔ ∃ x, l.busy = some x ∧ ∃ c on, x.request = .lampSet c on := by
  unfold Link.busyLampSet
  split
  · next busy => exact ⟨fun _ => ⟨_, busy, _, _, rfl⟩, fun _ => rfl⟩
  · next other =>
    refine ⟨nofun, fun ⟨x, busy, c, on, request⟩ => ?_⟩
    obtain ⟨r, _, _, _⟩ := x
    dsimp only at request
    subst request
    exact absurd busy (other _ _ _ _ _)

/-- What the sag asks of the link for a step it catches, and what stays on the wires (R77; log 18). -/
theorem sagCatches_asks {s : State} {n : Nat} {v : Verdict} {current : Nat} (sag : s.supply.sag = true)
    (step : s.lamps.step = some n) (h : s.lamps.caughtWith v current) :
    (s.link.busyLampSet = true →
      (settle (sagCatches s)).link.busy.map (·.request) = s.link.busy.map (·.request) ∧
      (settle (sagCatches s)).link.liveLampSet = false ∧ (settle (sagCatches s)).link.lampReq = none) ∧
    (∀ c, s.link.busyLampSet = false → s.lamps.loose = some c → s.link.state = .up →
      (settle (sagCatches s)).link.asks (.lampSet c false) = true) ∧
    (s.link.busyLampSet = false → s.lamps.loose = none → ∀ c on,
      (settle (sagCatches s)).link.asks (.lampSet c on) = false) := by
  obtain ⟨link, sagging⟩ := sagCatches_link_supply sag step h
  have blocked := State.checkBlocked_of_sag sagging
  rw [caughtBySag_link] at link
  generalize sagCatches s = a at *
  refine ⟨fun wires => ?_, fun c free loose up => ?_, fun free loose c on => ?_⟩
  · obtain ⟨x, busy, c, on, request⟩ := Link.busyLampSet_iff.mp wires
    have busy' : a.link.busy = some x.disownLamp := by rw [link, busy]; rfl
    have slot : a.link.lampReq = none := by rw [link]; simp [State.looseOff, wires]
    obtain ⟨stays, slot'⟩ := settle_busy_stays blocked busy'
    refine ⟨by rw [stays, busy]; exact congrArg some x.disownLamp_request, ?_, slot'.trans slot⟩
    unfold Link.liveLampSet
    rw [stays]
    simp [Transaction.disownLamp, request]
  · rw [settle_asks_lamp blocked, link]
    simp [Link.asks, State.looseOff, free, loose, up]
  · rw [settle_asks_lamp blocked, link]
    have other (x : Transaction) (busy : s.link.busy = some x) : x.request ≠ .lampSet c on := fun request =>
      absurd (Link.busyLampSet_iff.mpr ⟨x, busy, c, on, request⟩) (by simp [free])
    simpa [Link.asks, State.looseOff, free, loose] using other

/-- The lamp record of a step caught by sag (R77). -/
def Lamps.caught (l : Lamps) (v : Verdict) (current : Nat) (owed : Bool) : Lamps :=
  { l with feed := false, watchTimer := none, warmTimer := none, meanTimer := none, capture := none, measured := some (v, current),
           offOwed := owed }

theorem sagCatches_still {s : State} {n : Nat} {v : Verdict} {current : Nat} (sag : s.supply.sag = true)
    (step : s.lamps.step = some n) (h : s.lamps.caughtWith v current) :
    (settle (sagCatches s)).lamps = (sagCatches s).lamps := by
  obtain ⟨link, sagging⟩ := sagCatches_link_supply sag step h
  exact settle_lamps_still (State.checkBlocked_of_sag sagging) (by rw [link]; exact caughtBySag_loosens s)

theorem sagCatches_first_settled {s : State} {n : Nat} {v : Verdict} {current : Nat} (sag : s.supply.sag = true)
    (fresh : s.lamps.sagRetry = false) (step : s.lamps.step = some n) (h : s.lamps.caughtWith v current) :
    (settle (sagCatches s)).lamps = { s.lamps.caught v current s.link.busyLampSet with
      sagRetry := true, stage := some .sagWait } := by
  rw [sagCatches_still sag step h, sagCatches_first fresh, caughtBySag_measured h]
  rfl

/-- The lamps after the second sag: the verdict written, the marks cleared, then the next step or the completion (R72, R73, R78). -/
theorem sagCatches_second_settled {s : State} {n : Nat} {v : Verdict} {current : Nat} (sag : s.supply.sag = true)
    (retried : s.lamps.sagRetry = true) (step : s.lamps.step = some n) (h : s.lamps.caughtWith v current) :
    (n < s.lamps.program.length →
      (settle (sagCatches s)).lamps = { s.lamps.caught v current s.link.busyLampSet with
        sheet := s.lamps.sheet.write n v current, failures := 0, begunAgain := false, sagRetry := false, shortTaken := false,
        measured := none, step := some (n + 1), stage := some .paused }) ∧
    (¬ n < s.lamps.program.length →
      (settle (sagCatches s)).lamps = { s.lamps.caught v current s.link.busyLampSet with
        sheet := { s.lamps.sheet.write n v current with state := .complete }, failures := 0, begunAgain := false,
        sagRetry := false, shortTaken := false, measured := none, running := false, step := none, stage := none } ∧
      (settle (sagCatches s)).notices.tells .lampSheetDone (settle (sagCatches s)).lamps.sheet.doneArg = true) := by
  have still := sagCatches_still sag step h
  have recorded := State.recorded_lamps (caughtBySag s) n v current
  rw [caughtBySag_measured h] at recorded
  refine ⟨fun more => ?_, fun last => ?_⟩
  · rw [still, sagCatches_second sag retried step h, if_pos more, recorded]
    rfl
  · have ends : sagCatches s = completeCheck ((caughtBySag s).recorded n v current) := by
      rw [sagCatches_second sag retried step h, if_neg last]
    have told := completeCheck_tells ((caughtBySag s).recorded n v current)
    rw [← ends] at told
    have blocked := State.checkBlocked_of_sag (sagCatches_link_supply sag step h).2
    refine ⟨?_, ?_⟩
    · rw [still, ends, completeCheck_lamps, recorded]
      rfl
    · rw [settle_tells_blocked blocked rfl, still]
      exact told

/-- After the sag the feed is open and no measurement runs, with the off owed as told. -/
def Lamps.caughtDark (l : Lamps) (owed : Bool) (after : Lamps) : Prop :=
  (after.feed = false ∧ after.watchTimer = none ∧ after.warmTimer = none ∧ after.meanTimer = none ∧ after.capture = none ∧
    after.loose = l.loose) ∧ after.offOwed = owed

/-- Whatever comes next, the feed is open, no measurement runs, and the off is owed while a LAMP_SET is on the wires (R77; log 20). -/
theorem sagCatches_dark {s : State} {n : Nat} {v : Verdict} {current : Nat} (sag : s.supply.sag = true)
    (step : s.lamps.step = some n) (h : s.lamps.caughtWith v current) :
    s.lamps.caughtDark s.link.busyLampSet (settle (sagCatches s)).lamps := by
  cases retried : s.lamps.sagRetry
  · rw [sagCatches_first_settled sag retried step h]
    exact ⟨⟨rfl, rfl, rfl, rfl, rfl, rfl⟩, rfl⟩
  · obtain ⟨next, done⟩ := sagCatches_second_settled sag retried step h
    by_cases more : n < s.lamps.program.length
    · rw [next more]
      exact ⟨⟨rfl, rfl, rfl, rfl, rfl, rfl⟩, rfl⟩
    · rw [(done more).1]
      exact ⟨⟨rfl, rfl, rfl, rfl, rfl, rfl⟩, rfl⟩

/-- The record of a step caught by its second sag (R53, R77). -/
theorem sagCatches_reports {s : State} {n : Nat} {p : LampStep} {v : Verdict} {current : Nat} (sag : s.supply.sag = true)
    (retried : s.lamps.sagRetry = true) (step : s.lamps.step = some n) (work : s.lamps.program[n - 1]? = some p)
    (h : s.lamps.caughtWith v current) (bad : v ≠ .ok) (on : s.sessionOpen = true) (room : s.faults.records.length < 24) :
    ∃ r ∈ (settle (sagCatches s)).faults.records,
      r.origin = .lamp ∧ r.module = p.channel ∧ r.code = Verdict.place v ∧ r.active = true := by
  have lamps := caughtBySag_measured h
  have keeps : CheckOnly s (caughtBySag s) := (caughtBySag_keeps s).1
  have faults : (caughtBySag s).faults = s.faults := by simp
  have bay : (caughtBySag s).bay = s.bay := by simp
  obtain ⟨r, mem, values⟩ := State.recorded_reports (s := caughtBySag s) (n := n) (p := p) (v := v) (by rw [lamps]; exact work) bad
    (by unfold State.sessionOpen State.identity at on ⊢; rw [bay]; exact on) (by rw [faults]; exact room) current
  have kept : (sagCatches s).faults = ((caughtBySag s).recorded n v current).faults := by
    rw [sagCatches_second sag retried step h]
    split <;> simp
  exact ⟨r, mem_settle (State.checkBlocked_of_sag (sagCatches_link_supply sag step h).2) (by rw [kept]; exact mem)
    (by rw [values.1]; nofun), values⟩

/-! ### The monitor -/

/-- The state in which a sag's detection reaches the lamp checker (R135). -/
def State.sagging (s : State) : State :=
  { s with supply := { s.supply with
      sag := true, detected := true, lowest := some s.supply.level, recovery := none, dip := none } }

theorem State.sagging_keeps (s : State) :
    s.sagging.supply.sag = true ∧ s.sagging.supply.detected = true ∧ s.sagging.lamps = s.lamps ∧ s.sagging.link = s.link ∧
    s.sagging.faults = s.faults ∧ s.sagging.sessionOpen = s.sessionOpen ∧ s.sagging.offCondition = s.offCondition ∧
    s.sagging.heat = s.heat :=
  ⟨rfl, rfl, rfl, rfl, rfl, rfl, rfl, rfl⟩

theorem sagging_feed_open {s : State} (h : s.feedSafe) : (settle (lampSag s.sagging)).lamps.feed = false := by
  have caught : (lampSag s.sagging).feedSafe := h.lampSag s.sagging.supply
  have safe := caught.settle
  have sag : (settle (lampSag s.sagging)).supply.sag = true := by
    rw [((Reacted.refl s.sagging).lampSag.settle).supply]
    rfl
  by_contra on
  have clear := (safe.1 (by simpa using on)).2.2.1
  rw [sag] at clear
  cases clear

/-- The condition of the sag is given as it stands (R136, R165). -/
theorem settle_supplySag (s : State) :
    ((settle s).notices.get .supplySag).holding = (s.supply.sag && s.supply.detected) := by
  rw [settle_conditions s .supplySag rfl, ← (settle_reacted s).supply]
  rfl

/-- A sag in CLEAR_OFF only pauses the step; its request runs to its end (R78). -/
theorem lampSag_clearing_settled {s : State} (sag : s.supply.sag = true) (running : s.lamps.running = true)
    (stage : s.lamps.stage = some .clearOff) :
    (settle (lampSag s)).lamps = { s.lamps with stage := some .paused, loose := (settle (lampSag s)).lamps.loose } ∧
    (s.link.lampReq.all (fun q => !q.on) = true → (settle (lampSag s)).lamps.loose = s.lamps.loose) ∧
    (∀ x, s.link.busy = some x →
      (settle (lampSag s)).link.busy = some x ∧ (settle (lampSag s)).link.lampReq = s.link.lampReq) := by
  have paused : (lampSag s).lamps = { s.lamps with stage := some .paused } ∧ (lampSag s).link = s.link ∧
      (lampSag s).supply = s.supply := by
    rw [lampSag_clearing running stage]
    exact ⟨rfl, rfl, rfl⟩
  obtain ⟨lamps, link, supply⟩ := paused
  generalize lampSag s = a at *
  have blocked := State.checkBlocked_of_sag (s := a) (by rw [supply]; exact sag)
  refine ⟨?_, fun slot => ?_, fun x busy => ?_⟩
  · rw [settle_lamps_blocked blocked, lamps]
  · have still : a.link.loosens = none := by
      rw [link]
      cases q : s.link.lampReq with
      | none => exact Link.loosens_of_empty q
      | some q' => exact Link.loosens_of_off q (by simpa [q] using slot)
    rw [settle_lamps_still blocked still, lamps]
  · rw [← link] at busy ⊢
    exact settle_busy_stays blocked busy

/-- A sag leaves a step that waits as it waits (R78). -/
theorem lampSag_waiting_settled {s : State} {st : Stage} (sag : s.supply.sag = true) (running : s.lamps.running = true)
    (stage : s.lamps.stage = some st) (waits : st = .linkWait ∨ st = .paused ∨ st = .sagWait) :
    (settle (lampSag s)).lamps = { s.lamps with loose := (settle (lampSag s)).lamps.loose } := by
  rw [lampSag_waiting running stage waits, settle_lamps_blocked (State.checkBlocked_of_sag sag)]

theorem lampSag_heat (s : State) : (lampSag s).heat = s.heat ∧ (lampSag s).offCondition = s.offCondition ∧
    (lampSag s).supply = s.supply := by
  have r := (Reacted.refl s).lampSag
  exact ⟨by simp, r.offCondition, r.supply⟩

/-- The state in which the supply's recovery reaches the lamp checker (R135). -/
def State.relieved (s : State) : State := { s with supply := { s.supply with sag := false, recovery := none } }

theorem State.relieved_keeps (s : State) :
    s.relieved.supply.sag = false ∧ s.relieved.lamps = s.lamps ∧ s.relieved.link = s.link ∧ s.relieved.now = s.now :=
  ⟨rfl, rfl, rfl, rfl⟩

/-- A step that waited out the sag begins (R78). -/
theorem lampRecovered_waiting {s : State} (running : s.lamps.running = true)
    (waits : s.lamps.stage = some .paused ∨ s.lamps.stage = some .sagWait) : lampRecovered s = startStep s := by
  unfold lampRecovered
  rw [if_pos running]
  rcases waits with stage | stage <;> rw [stage]

/-- In a sag the lowest follows the level, and the recovery time counts only above the threshold and its margin (R135). -/
theorem watchRecovery_eq (level : Nat) (s : State) : watchRecovery level s = { s with supply := { s.supply with
    lowest := some (min (s.supply.lowest.getD level) level),
    recovery := if s.supplyGood then some (s.supply.recovery.getD (s.now + 10000)) else none } } := by
  unfold watchRecovery Supply.lowestWith
  cases s.supply.lowest <;> cases s.supply.recovery <;> simp [Config.recovery]

/-- Out of a sag an unbroken stay below the threshold runs toward a detection (R135). -/
theorem watchDip_eq (level : Nat) (s : State) : watchDip level s = { s with supply := { s.supply with
    dip := if level < s.sagThreshold then some (s.supply.dip.getD (s.now + 20)) else none } } := by
  unfold watchDip
  cases s.supply.dip <;> rfl

/-- The monitor takes a level, before bring-up and in and out of a sag (R135). -/
theorem execSupplySenseChange_takes (t level : Nat) (s : State) :
    ∃ u : State, exec (.supplySenseChange t level) s = .next u ∧
    u = { s.advance t with supply := { s.supply with level := level, lowest := u.supply.lowest, recovery := u.supply.recovery,
                                                     dip := u.supply.dip } } ∧
    (s.start.phase = .reading → u.supply = { s.supply with level := level }) ∧
    (s.start.phase ≠ .reading → s.supply.sag = true →
      u.supply.dip = s.supply.dip ∧ u.supply.lowest = some (min (s.supply.lowest.getD level) level) ∧
      u.supply.recovery =
        (if s.sagThreshold + 5 < level then some (s.supply.recovery.getD (max s.now t + 10000)) else none)) ∧
    (s.start.phase ≠ .reading → s.supply.sag = false →
      u.supply.lowest = s.supply.lowest ∧ u.supply.recovery = s.supply.recovery ∧
      u.supply.dip = (if level < s.sagThreshold then some (s.supply.dip.getD (max s.now t + 20)) else none)) := by
  obtain ⟨a, ha⟩ : ∃ a, a = ({ s.advance t with supply := { s.supply with level := level } } : State) := ⟨_, rfl⟩
  have start : a.start = s.start := by rw [ha]; rfl
  have supply : a.supply = { s.supply with level := level } := by rw [ha]
  have threshold : a.sagThreshold = s.sagThreshold := by rw [ha]; rfl
  have now : a.now = max s.now t := by rw [ha]; rfl
  have effect : exec (.supplySenseChange t level) s = .next
      (if a.start.phase = .reading then a else if a.supply.sag then watchRecovery level a else watchDip level a) := by
    rw [ha]
    rfl
  have good : a.supplyGood = decide (s.sagThreshold + 5 < level) := by
    unfold State.supplyGood
    rw [threshold, supply]
    rfl
  by_cases reading : s.start.phase = .reading
  · rw [if_pos (by rw [start]; exact reading)] at effect
    exact ⟨a, effect, by rw [ha], fun _ => supply, fun other => absurd reading other, fun other => absurd reading other⟩
  · rw [if_neg (by rw [start]; exact reading)] at effect
    cases sag : s.supply.sag with
    | true =>
      rw [if_pos (by rw [supply]; exact sag), watchRecovery_eq, good, now, supply] at effect
      refine ⟨_, effect, by rw [ha]; rfl, fun h => absurd h reading, fun _ _ => ⟨rfl, rfl, ?_⟩, nofun⟩
      dsimp only
      simp only [decide_eq_true_eq]
    | false =>
      rw [if_neg (by rw [supply]; simp [sag]), watchDip_eq, threshold, now, supply] at effect
      exact ⟨_, effect, by rw [ha]; rfl, fun h => absurd h reading, nofun, fun _ _ => ⟨rfl, rfl, rfl⟩⟩

/-- Settles O35. -/
theorem supplyMonitorDetectsAndRecovers : Obligations.SupplyMonitorDetectsAndRecovers := by
  refine ⟨fun t level s => execSupplySenseChange_takes t level s, fun t d s dip due clear => ?_, fun t d s recovery due sag => ?_⟩
  · have absent : ¬(s.advance t).supply.sag = true := Bool.eq_false_iff.mp clear
    have effect : exec (.sagDetected t) s = .next (settle (lampSag (s.advance t).sagging)) :=
      congrArg Host.Outcome.next ((onDue_at (s := s) (t := t) dip due).trans (if_neg absent))
    have safe (h : s.feedSafe) := sagging_feed_open (s := s.advance t) (State.feedSafe_congr h rfl rfl)
    obtain ⟨sag, detected, lamps, link, faults, session, off, heat⟩ := State.sagging_keeps (s.advance t)
    have reacted := (Reacted.refl (s.advance t).sagging).lampSag
    have base : (s.advance t).lamps = s.lamps ∧ (s.advance t).link = s.link ∧ (s.advance t).faults = s.faults ∧
      (s.advance t).sessionOpen = s.sessionOpen ∧ (s.advance t).offCondition = s.offCondition ∧ (s.advance t).heat = s.heat :=
      ⟨rfl, rfl, rfl, rfl, rfl, rfl⟩
    obtain ⟨lamps', link', faults', session', off', heat'⟩ := base
    rw [lamps'] at lamps
    rw [link'] at link
    rw [faults'] at faults
    rw [session'] at session
    rw [off'] at off
    rw [heat'] at heat
    refine ⟨_, effect, reacted.settle, safe, ?_, ?_⟩
    · rw [settle_supplySag, reacted.supply, sag, detected]
      rfl
    generalize (s.advance t).sagging = a at *
    rw [← lamps, ← link, ← faults, ← session, ← off, ← heat]
    refine ⟨lampSag_clearing_settled sag, fun running waits => ?_,
      fun n p v current st running step first work stage fed sound short => ?_, fun called on fault => ?_⟩
    · rcases waits with stage | stage | stage <;> exact lampSag_waiting_settled sag running stage (by simp)
    · rw [lampSag_fed running stage fed]
      have h : a.lamps.caughtWith v current := ⟨sound, short⟩
      obtain ⟨wires, looseOff, silent⟩ := sagCatches_asks sag step h
      have second (retried : a.lamps.sagRetry = true) := sagCatches_second_settled sag retried step h
      have reports (retried : a.lamps.sagRetry = true) := sagCatches_reports sag retried step work h
      have retry (fresh : a.lamps.sagRetry = false) := sagCatches_first_settled sag fresh step h
      obtain ⟨dark, owed⟩ := sagCatches_dark sag step h
      generalize settle (sagCatches a) = u at *
      refine ⟨dark, fun busy => ?_, looseOff, silent, fun fresh => ?_, fun retried => ⟨?_, reports retried, fun more => ?_, fun last => ?_⟩⟩
      · obtain ⟨request, live, slot⟩ := wires busy
        exact ⟨request, live, slot, owed.trans busy⟩
      · rw [retry fresh]
        exact ⟨running, step, rfl, rfl, rfl, rfl, rfl, rfl, rfl⟩
      · by_cases more : n < a.lamps.program.length
        · rw [(second retried).1 more]
          rfl
        · rw [((second retried).2 more).1]
          rfl
      · rw [(second retried).1 more]
        exact ⟨running, rfl, rfl, rfl, rfl, rfl, rfl, rfl, rfl⟩
      · obtain ⟨lamps, told⟩ := (second retried).2 (by omega)
        refine ⟨by rw [lamps], by rw [lamps], by rw [lamps], told⟩
    · obtain ⟨heat, offs, supply⟩ := lampSag_heat a
      exact settle_shed (offs.trans on) (by rw [heat]; exact fault) (by rw [heat]; exact called) (by rw [supply]; exact sag)
  · have present : (s.advance t).supply.sag = true := sag
    have effect : exec (.supplyRecovered t) s = .next (settle (lampRecovered (s.advance t).relieved)) :=
      congrArg Host.Outcome.next ((onDue_at (s := s) (t := t) recovery due).trans (if_pos present))
    obtain ⟨clear, lamps, link, now⟩ := State.relieved_keeps (s.advance t)
    have reacted := (Reacted.refl (s.advance t).relieved).lampRecovered
    have base : (s.advance t).lamps = s.lamps ∧ (s.advance t).link = s.link ∧ (s.advance t).now = max s.now t := ⟨rfl, rfl, rfl⟩
    obtain ⟨lamps', link', now'⟩ := base
    rw [lamps'] at lamps
    rw [link'] at link
    rw [now'] at now
    refine ⟨_, effect, reacted.settle, ?_, ?_, ?_⟩
    · rw [settle_supplySag, reacted.supply, clear]
      rfl
    · exact settle_not_shed (by rw [reacted.supply]; exact clear)
    generalize (s.advance t).relieved = a at *
    rw [← lamps, ← link, ← now]
    intro running waits up
    rw [lampRecovered_waiting running waits]
    refine ⟨fun p work short loose => ?_, fun c short loose => ?_, fun p work short => ?_⟩
    · obtain ⟨⟨_, _, e⟩, asks⟩ := (startStep_settled running up work).2.2 short loose
      exact ⟨by rw [e], asks⟩
    · obtain ⟨asks, e, _⟩ := settle_placed (s := { a with lamps := { a.lamps with measured := none, stage := some .clearOff } })
        running c false true
      rw [startStep_loose up short loose]
      exact ⟨e rfl, asks⟩
    · exact (startStep_settled running up work).1 short

end Sys2Proof.Machine
end

section
/-! SUPPORT. Bring-up: an image that passes configures the part, one that fails leaves it unconfigured (O5, O6). -/

namespace Sys2Proof.Machine

open Sys2Proof

/-! ### The metering window through the reactions -/

/-- The meter as it stood, or restarted with the window it has (R137). -/
def Meter.restarted (m : Meter) (now : Nat) (v : Meter) : Prop := v = m ∨ v = m.restart now

theorem Meter.restarted.trans {a b c : Meter} {now : Nat} (h : a.restarted now b) (k : b.restarted now c) : a.restarted now c := by
  rcases h with rfl | rfl
  · exact k
  · refine .inr ?_
    rcases k with rfl | rfl
    · rfl
    · unfold Meter.restart
      cases a.window <;> rfl

/-- A window that starts at the present moment is not moved by a restart, and none starts. -/
theorem Meter.restarted.window {m v : Meter} {now : Nat} (h : m.restarted now v)
    (new : m.window = none ∨ m.window = some (now + 60000)) : v.window = m.window := by
  rcases h with rfl | rfl
  · rfl
  · rcases new with e | e <;> rw [Meter.restart, e] <;> rfl

theorem setDrawn_meter (n : Nat) (s : State) : s.meter.restarted s.now (setDrawn n s).meter := by
  unfold setDrawn
  split
  · exact .inl rfl
  · exact .inr rfl

theorem enterHeatState_meter (new : HeatState) (s : State) : s.meter.restarted s.now (enterHeatState new s).meter := by
  have dropped (x : Heat) : s.meter.restarted s.now (dropAll { s with heat := x }).meter := setDrawn_meter 0 { s with heat := x }
  unfold enterHeatState
  split
  · exact .inl rfl
  · cases new
    case off => dsimp only; split <;> simpa [startPoll] using dropped _
    case shed => dsimp only; split <;> simpa [startPoll] using dropped _
    case fault => dsimp only; split <;> simpa [startPoll] using dropped _
    all_goals dsimp only; split <;> exact .inl (by simp [startPoll])

theorem evalHeat_meter (s : State) : s.meter.restarted s.now (evalHeat s).meter := by
  have called : (updateCalled s).meter = s.meter ∧ (updateCalled s).now = s.now := by simp
  have entered := enterHeatState_meter (updateCalled s).heatTest (updateCalled s)
  rw [called.1, called.2] at entered
  have now : (enterHeatState (updateCalled s).heatTest (updateCalled s)).now = s.now := by simp
  unfold evalHeat updateWanted
  dsimp only
  generalize enterHeatState _ _ = e at *
  split
  · have drops := setDrawn_meter e.wantedNow { e with heat := { e.heat with wanted := e.wantedNow } }
    exact entered.trans (now ▸ drops)
  · exact entered

theorem settle_meter (s : State) : s.meter.restarted s.now (settle s).meter := by
  have first : (firstRead s).meter = s.meter ∧ (firstRead s).now = s.now := by simp [firstRead]
  have evaluated := evalHeat_meter (firstRead s)
  rw [first.1, first.2] at evaluated
  have same : (settle s).meter = (evalHeat (firstRead s)).meter := by
    rw [settle_again, react_firstRead]
    simp
  rw [same]
  exact evaluated

/-! ### What bring-up takes from the image -/

theorem State.sagThreshold_eq (s : State) :
    s.sagThreshold = ([180, 195, 210, 225][s.start.image.sagCode]?).getD 225 := by
  unfold State.sagThreshold
  rcases s.start.image.sagCode with _ | _ | _ | _ | n <;> simp

/-- The image given to the blocks, before the monitor starts (R172, R174). -/
def State.imaged (s : State) (img : Image) (passes : Bool) : State :=
  { s with
    start := { phase := if passes then .configured else .unconfigured, unconfigured := !passes, readTimer := none, image := img },
    faults := { s.faults with retention := if passes then img.retention else .newest },
    notices := { s.notices.loadMasks img.masks with order := img.order } }

/-- The monitor starts: the recovery time counts in a good supply, and the level that stands enters the lowest of a presumed sag
(R135; log 25). -/
theorem startMonitor_eq (s : State) : startMonitor s = { s with supply := { s.supply with
    recovery := if s.sagThreshold + 5 < s.supply.level then some (s.now + 10000) else none,
    lowest := if s.supply.sag then some (min (s.supply.lowest.getD s.supply.level) s.supply.level) else s.supply.lowest } } := by
  unfold startMonitor State.supplyGood Supply.lowestWith
  by_cases good : s.sagThreshold + 5 < s.supply.level <;> cases s.supply.lowest <;>
    simp [Config.recovery, Config.recoveryMargin, good]

theorem bringUp_fails (img : Image) (probe : Int) (s : State) :
    bringUp img false probe s = settle (startMonitor (s.imaged img false)) := rfl

theorem bringUp_passes (img : Image) (probe : Int) (s : State) :
    bringUp img true probe s = settle (startConfigured probe (startMonitor (s.imaged img true))) := rfl

/-- The metering window is outside what the reactions keep (R137). -/
theorem Reacted.unmetered {s u : State} {m : Meter} (h : Reacted { s with meter := m } u) (run : m.overdrawRun = s.meter.overdrawRun) :
    Reacted s u := { h with overdrawRun := h.overdrawRun.trans run }

/-- The claim period and the probe of a configured part start (R111, R121). -/
theorem startConfigured_reacted {s : State} (on : s.configured = true) (probe : Int) :
    Reacted { s with
      heat := { s.heat with claimTimer := some (s.now + 2000) },
      lead := { s.lead with
        probe := if s.start.image.probeFitted then some (clampInt (-80) 120 probe) else s.lead.probe,
        probeTimer := if s.start.image.probeFitted then some (s.now + 10000) else s.lead.probeTimer },
      line := { s.line with airSlot := s.line.airSlot || s.start.image.probeFitted } } (startConfigured probe s) := by
  cases fitted : s.start.image.probeFitted
  · have starts : startConfigured probe s = recomputeLead { s with
        heat := { s.heat with claimTimer := some (s.now + 2000) },
        meter := { s.meter with window := if s.start.image.meterFitted then some (s.now + 60000) else none } } :=
      if_neg (by simp [fitted])
    rw [starts]
    simp only [Bool.false_eq_true, if_false, Bool.or_false]
    exact (Reacted.refl _).recomputeLead.unmetered rfl
  · have starts : startConfigured probe s = sampleProbe probe { s with
        heat := { s.heat with claimTimer := some (s.now + 2000) },
        meter := { s.meter with window := if s.start.image.meterFitted then some (s.now + 60000) else none } } :=
      if_pos fitted
    rw [starts]
    simp only [if_true, Bool.or_true]
    have sampled := sampleProbe_reacted (s := { s with
        heat := { s.heat with claimTimer := some (s.now + 2000) },
        meter := { s.meter with window := if s.start.image.meterFitted then some (s.now + 60000) else none } }) on probe
    exact Reacted.unmetered (m := { s.meter with window := if s.start.image.meterFitted then some (s.now + 60000) else none })
      sampled rfl

theorem startConfigured_window (probe : Int) (s : State) :
    (startConfigured probe s).meter.window = if s.start.image.meterFitted then some (s.now + 60000) else none := by
  unfold startConfigured
  dsimp only
  split <;> simp [sampleProbe, Config.meterWindow]

/-! ### The check of the image -/

theorem foldl_add_toNat (l : List Word16) (a : Word16) :
    (l.foldl (· + ·) a).toNat = (a.toNat + (l.map (·.toNat)).sum) % 65536 := by
  induction l generalizing a with
  | nil => simp [Nat.mod_eq_of_lt a.isLt]
  | cons w l ih =>
    rw [List.foldl_cons, ih, BitVec.toNat_add, List.map_cons, List.sum_cons]
    omega

theorem imageSum_toNat (l : List Word16) : (imageSum l).toNat = (l.map (·.toNat)).sum % 65536 := by
  unfold imageSum
  rw [foldl_add_toNat]
  simp

theorem imagePasses_iff (words : List Word16) : imagePasses words = true ↔
    words.length = 183 ∧ words[182]? = some (imageSum (words.take 182)) ∧
    1 ≤ (imageOf words).station ∧ (imageOf words).station ≤ 48 := by
  have station : (imageOf words).station = field words 0 0 fun w => w.toNat := rfl
  unfold imagePasses
  rw [station]
  unfold field
  simp only [Bool.and_eq_true, decide_eq_true_eq, and_assoc]
  cases words[0]? with
  | none => simp
  | some w =>
    simp only [Bool.and_eq_true, decide_eq_true_eq]
    exact Iff.rfl

/-- An image passes when its check word is the sum of the words before it and its station number is a bay's (R172). -/
theorem imagePasses_parts (words : List Word16) : imagePasses words = true ↔
    ∃ (body : List Word16) (check : Word16), words = body ++ [check] ∧ body.length = 182 ∧
      (body.map (·.toNat)).sum % 65536 = check.toNat ∧ 1 ≤ (imageOf words).station ∧ (imageOf words).station ≤ 48 := by
  rw [imagePasses_iff]
  constructor
  · rintro ⟨length, sum, bay⟩
    refine ⟨words.take 182, imageSum (words.take 182), ?_, by simp [length], (imageSum_toNat _).symm, bay⟩
    have last : words.drop 182 = [imageSum (words.take 182)] := by
      obtain ⟨at182, value⟩ := List.getElem?_eq_some_iff.mp sum
      rw [List.drop_eq_getElem_cons at182, value, List.drop_of_length_le (by omega)]
    rw [← last, List.take_append_drop]
  · rintro ⟨body, check, rfl, length, sum, bay⟩
    refine ⟨by simp [length], ?_, bay⟩
    rw [List.getElem?_append_right (by omega), ← length, List.take_left]
    simp only [Nat.sub_self, List.getElem?_cons_zero, Option.some.injEq]
    exact BitVec.eq_of_toNat_eq (sum.symm.trans (imageSum_toNat body).symm)

/-! ### The two ends of the read -/

/-- The check word in time brings the part up (R172). -/
theorem exec_checkWord {t : Nat} {words : List Word16} {probe : Int} {s : State} (reading : s.start.phase = .reading)
    (time : ∀ d, s.start.readTimer = some d → max s.now t ≤ d) :
    exec (.configCheckWordReceived t words probe) s = .next (bringUp (imageOf words) (imagePasses words) probe (s.advance t)) := by
  have effect : exec (.configCheckWordReceived t words probe) s = .next (checkWordComes t words probe s) :=
    congrArg Host.Outcome.next (if_pos reading)
  rcases checkWordComes_cases t words probe s with ⟨d, timer, late, _⟩ | ⟨_, e⟩
  · exact absurd (time d timer) (by omega)
  · rw [effect, e]

/-- The sag threshold of an image, in tenths of a volt (R135). -/
def Image.threshold (img : Image) : Nat := ([180, 195, 210, 225][img.sagCode]?).getD 225

/-- The image given, and the monitor started (R135, R172, R174). -/
def State.monitored (s : State) (img : Image) (passes : Bool) : State := startMonitor (s.imaged img passes)

theorem State.monitored_eq (s : State) (img : Image) (passes : Bool) : s.monitored img passes = { s with
    start := { phase := if passes then .configured else .unconfigured, unconfigured := !passes, readTimer := none, image := img },
    faults := { s.faults with retention := if passes then img.retention else .newest },
    notices := { s.notices.loadMasks img.masks with order := img.order },
    supply := { s.supply with
      recovery := if img.threshold + 5 < s.supply.level then some (s.now + 10000) else none,
      lowest := if s.supply.sag then some (min (s.supply.lowest.getD s.supply.level) s.supply.level) else s.supply.lowest } } := by
  have threshold : (s.imaged img passes).sagThreshold = img.threshold := State.sagThreshold_eq _
  unfold State.monitored
  rw [startMonitor_eq, threshold]
  rfl

/-- What the end of the event keeps of the values bring-up takes (R135, R174). -/
theorem Reacted.monitored_values {a u : State} (r : Reacted a u) {s : State} {img : Image} {passes : Bool}
    (supply : a.supply = (s.monitored img passes).supply) (start : a.start = (s.monitored img passes).start) :
    u.supply.recovery = (if img.threshold + 5 < s.supply.level then some (s.now + 10000) else none) ∧
    u.supply.lowest =
      (if s.supply.sag then some (min (s.supply.lowest.getD s.supply.level) s.supply.level) else s.supply.lowest) ∧
    u.sagThreshold = img.threshold := by
  refine ⟨?_, ?_, ?_⟩
  · rw [r.supply, supply, State.monitored_eq]
  · rw [r.supply, supply, State.monitored_eq]
  · rw [State.sagThreshold_eq, r.start, start]
    rfl

theorem Notices.get_ordered (n : Notices) (order : Nat) (src : Source) : ({ n with order := order } : Notices).get src = n.get src := rfl

/-- The own masks are the image's, through the event (R163, R174). -/
theorem Reacted.loads {a u : State} (r : Reacted a u) {n : Notices} {masks : Word16} {order : Nat}
    (notices : a.notices = { n.loadMasks masks with order := order }) (src : Source) :
    (u.notices.get src).masked = masks.getLsbD src.number.val := by
  rw [r.masks, notices, Notices.get_ordered, Notices.get_loadMasks]

/-- Settles O5. -/
theorem passingImageConfigures : Obligations.PassingImageConfigures := by
  refine ⟨imagePasses_parts, fun t words probe s reading time passes => ?_⟩
  have effect := exec_checkWord (words := words) (probe := probe) reading time
  have brought : bringUp (imageOf words) true probe (s.advance t) =
      settle (startConfigured probe ((s.advance t).monitored (imageOf words) true)) := bringUp_passes _ _ _
  rw [passes, brought] at effect
  have eq := State.monitored_eq (s.advance t) (imageOf words) true
  have on : ((s.advance t).monitored (imageOf words) true).configured = true := by rw [eq]; rfl
  have r := (startConfigured_reacted on probe).settle
  obtain ⟨recovery, lowest, threshold⟩ := r.monitored_values (s := s.advance t) (img := imageOf words) (passes := true) rfl rfl
  have window := (settle_meter (startConfigured probe ((s.advance t).monitored (imageOf words) true))).window
  rw [startConfigured_window] at window
  have image : ((s.advance t).monitored (imageOf words) true).start.image = imageOf words := by rw [eq]
  have now : ((s.advance t).monitored (imageOf words) true).now = max s.now t := by rw [eq]; rfl
  generalize settle (startConfigured probe _) = u at *
  rw [eq] at r
  refine ⟨u, effect, ?_, ?_, ?_, ?_, lowest, threshold⟩
  · rw [recovery, lowest]
    exact r
  · rw [window (by split <;> simp), image, now]
  · exact r.loads (n := s.notices) (order := (imageOf words).order) rfl
  · rw [recovery, threshold]
    rfl

/-! ### An image that fails -/

/-- A failing image's effect, by either end of the read (R172, R174, R175). -/
theorem readFails_settled (t : Nat) (img : Image) (s : State) :
    ∃ u : State, settle ((s.advance t).monitored img false) = u ∧
      Reacted
        { s.advance t with
          start := { phase := .unconfigured, unconfigured := true, readTimer := none, image := img },
          faults := { s.faults with retention := .newest },
          notices := { s.notices.loadMasks img.masks with order := img.order },
          supply := { s.supply with recovery := u.supply.recovery, lowest := u.supply.lowest } } u ∧
      u.supply.recovery = (if u.sagThreshold + 5 < s.supply.level then some (max s.now t + 10000) else none) ∧
      u.supply.lowest =
        (if s.supply.sag then some (min (s.supply.lowest.getD s.supply.level) s.supply.level) else s.supply.lowest) ∧
      u.heat.state = .off ∧ u.heat.drawn = 0 ∧ (s.meter.window = none → u.meter.window = none) := by
  have eq := State.monitored_eq (s.advance t) img false
  have r := settle_reacted ((s.advance t).monitored img false)
  obtain ⟨recovery, lowest, threshold⟩ := r.monitored_values (s := s.advance t) rfl rfl
  have meter : ((s.advance t).monitored img false).meter = s.meter := by rw [eq]; rfl
  have window := (settle_meter ((s.advance t).monitored img false)).window
  have idle : ((s.advance t).monitored img false).offCondition = true :=
    State.offCondition_iff.mpr (by rw [eq]; simp [State.configured])
  obtain ⟨off, drawn⟩ := settle_off idle
  rw [meter] at window
  generalize settle _ = u at *
  rw [eq] at r
  refine ⟨u, rfl, ?_, ?_, lowest, off, drawn, fun none => (window (.inl none)).trans none⟩
  · rw [recovery, lowest]
    exact r
  · rw [recovery, threshold]
    rfl

/-- Settles O6. -/
theorem failingImageLeavesUnconfigured : Obligations.FailingImageLeavesUnconfigured := by
  refine ⟨fun c words s ends => ?_, fun t d words probe s reading timer late => ?_, fun t words probe s ended => ?_⟩
  · obtain ⟨u, e, values⟩ := readFails_settled (Instr.moment c) (imageOf words) s
    refine ⟨u, ?_, values⟩
    rw [← e]
    rcases ends with ⟨t, probe, rfl, reading, time, fails⟩ | ⟨t, d, rfl, timer, due⟩
    · rw [exec_checkWord reading time, fails]
      rfl
    · exact execConfigReadTimeout_due timer due
  · have fails : exec (.configReadTimeout d (words.take 182)) s = .next (readTimesOut (words.take 182) (s.advance d)) :=
      execConfigReadTimeout_due timer (Nat.le_max_right _ _)
    have start : (readTimesOut (words.take 182) (s.advance d)).start =
        { phase := .unconfigured, unconfigured := true, readTimer := none, image := imageOf (words.take 182) } := by
      obtain ⟨u, e, r, _⟩ := readFails_settled d (imageOf (words.take 182)) s
      exact (congrArg State.start e).trans r.start
    have effect : exec (.configCheckWordReceived t words probe) s = .next (checkWordComes t words probe s) :=
      congrArg Host.Outcome.next (if_pos reading)
    refine ⟨_, fails, ?_, start, ?_⟩
    · rcases checkWordComes_cases t words probe s with ⟨d', timer', _, e⟩ | ⟨time, _⟩
      · rw [effect, e, Option.some.inj (timer'.symm.trans timer)]
      · exact absurd (time d timer) (by omega)
    · rw [start]
      exact List.getElem?_eq_none (by simp [Config.imageWords])
  · exact congrArg Host.Outcome.next (if_neg ended)

end Sys2Proof.Machine
end

section
/-! SUPPORT. The image taken from the words delivered: kept, clamped or defaulted, field by field (O7). -/

namespace Sys2Proof.Machine

open Sys2Proof

/-! ### One field -/

theorem field_of_some {α : Type} {words : List Word16} {i : Nat} {w : Word16} (h : words[i]? = some w) (dflt : α) (f : Word16 → α) :
    field words i dflt f = f w := by
  unfold field
  rw [h]

theorem field_of_none {α : Type} {words : List Word16} {i : Nat} (h : words[i]? = none) (dflt : α) (f : Word16 → α) :
    field words i dflt f = dflt := by
  unfold field
  rw [h]

/-- What a field's default and every word's reading satisfy, the field satisfies. -/
theorem field_meets {α : Type} {p : α → Prop} {words : List Word16} {i : Nat} {dflt : α} {f : Word16 → α} (default : p dflt)
    (reads : ∀ w, p (f w)) : p (field words i dflt f) := by
  unfold field
  split
  · exact reads _
  · exact default

theorem clampNat_between {lo hi : Nat} (le : lo ≤ hi) (n : Nat) : lo ≤ clampNat lo hi n ∧ clampNat lo hi n ≤ hi := by
  unfold clampNat
  omega

theorem clampInt_between {lo hi : Int} (le : lo ≤ hi) (n : Int) : lo ≤ clampInt lo hi n ∧ clampInt lo hi n ≤ hi := by
  unfold clampInt
  omega

/-- A number field stands in its range (R173). -/
theorem field_between {words : List Word16} {i lo hi dflt : Nat} {g : Word16 → Nat} (low : lo ≤ dflt) (high : dflt ≤ hi) :
    lo ≤ field words i dflt (fun w => clampNat lo hi (g w)) ∧ field words i dflt (fun w => clampNat lo hi (g w)) ≤ hi :=
  field_meets (p := fun v => lo ≤ v ∧ v ≤ hi) ⟨low, high⟩ fun w => clampNat_between (low.trans high) (g w)

theorem field_le {words : List Word16} {i hi dflt : Nat} {g : Word16 → Nat} (high : dflt ≤ hi) :
    field words i dflt (fun w => clampNat 0 hi (g w)) ≤ hi := (field_between (Nat.zero_le _) high).2

theorem takenWithin_clampInt {lo hi : Int} (le : lo ≤ hi) (v dflt : Int) : takenWithin (some v) lo hi dflt (clampInt lo hi v) := by
  unfold takenWithin clampInt
  dsimp only
  omega

theorem takenWithin_clampNat {lo hi : Nat} (le : lo ≤ hi) (n : Nat) (dflt : Int) :
    takenWithin (some (n : Int)) lo hi dflt (clampNat lo hi n : Nat) := by
  unfold takenWithin clampNat
  dsimp only
  omega

/-- A number field takes the value its word delivers, or the nearer limit, or its default (R172, R173). -/
theorem field_taken {words : List Word16} {i lo hi dflt : Nat} (g : Word16 → Nat) (le : lo ≤ hi := by decide) :
    takenWithin (words[i]?.map fun w => (g w : Int)) lo hi dflt (field words i dflt fun w => clampNat lo hi (g w) : Nat) := by
  cases h : words[i]? with
  | none => rw [field_of_none h]; rfl
  | some w => rw [field_of_some h]; exact takenWithin_clampNat le (g w) dflt

theorem field_taken_int {words : List Word16} {i : Nat} {lo hi dflt : Int} (g : Word16 → Int) (le : lo ≤ hi) :
    takenWithin (words[i]?.map g) lo hi dflt (field words i dflt fun w => clampInt lo hi (g w)) := by
  cases h : words[i]? with
  | none => rw [field_of_none h]; rfl
  | some w => rw [field_of_some h]; exact takenWithin_clampInt le (g w) dflt

/-! ### Codes -/

theorem signedByte_eq {b : Nat} (byte : b < 256) : signedByte b = if (b : Int) < 128 then (b : Int) else b - 256 := by
  unfold signedByte
  rw [BitVec.toInt_eq_toNat_cond, BitVec.toNat_ofNat, Nat.mod_eq_of_lt byte]
  split <;> split <;> omega

theorem whOfCode_eq (code : Nat) : whOfCode code = ([1, 2, 5, 10][code]?).getD 10 := by
  rcases code with _ | _ | _ | _ | n <;> rfl

theorem whOfCode_mem (code : Nat) : whOfCode code ∈ [1, 2, 5, 10] := by
  rcases code with _ | _ | _ | n <;> simp [whOfCode]

theorem labelOfCode_eq (code : Nat) :
    labelOfCode code = ([BandLabel.ok, .low, .high, .openCircuit, .short][code]?).getD .short := by
  rcases code with _ | _ | _ | _ | _ | n <;> rfl

/-! ### The band table -/

theorem bandsOf_length (words : List Word16) : (bandsOf words).length = 8 := by
  unfold bandsOf
  split <;> simp

theorem bandsOf_short {words : List Word16} (h : words.length < 38) :
    bandsOf words = List.replicate 8 { lower := 2000, upper := 0, label := .ok } := if_neg (by omega)

theorem getElem?_map_range {α : Type} {f : Nat → α} {m n : Nat} {x : α} (h : ((List.range m).map f)[n]? = some x) : x = f n := by
  rw [List.getElem?_map] at h
  obtain ⟨k, at_, rfl⟩ := Option.map_eq_some_iff.mp h
  rw [(List.getElem?_eq_some_iff.mp at_).2.symm, List.getElem_range]

theorem bandsOf_getElem {words : List Word16} (whole : 38 ≤ words.length) {n : Nat} {b : Band} (h : (bandsOf words)[n]? = some b) :
    b = bandAt words n := by
  unfold bandsOf at h
  rw [if_pos whole] at h
  exact getElem?_map_range h

theorem bandAt_between (words : List Word16) (n : Nat) : (bandAt words n).lower ≤ 2000 ∧ (bandAt words n).upper ≤ 2000 :=
  ⟨field_le (by omega), field_le (by omega)⟩

theorem bandsOf_between {words : List Word16} {b : Band} (h : b ∈ bandsOf words) : b.lower ≤ 2000 ∧ b.upper ≤ 2000 := by
  unfold bandsOf at h
  split at h
  · obtain ⟨n, _, rfl⟩ := List.mem_map.mp h
    exact bandAt_between words n
  · rw [List.eq_of_mem_replicate h]
    exact ⟨Nat.le_refl _, Nat.zero_le _⟩

/-! ### A lamp program -/

theorem programAt_short {words : List Word16} {i : Nat} (h : words.length < i + 33) : programAt words i = [] := if_neg (by omega)

theorem programAt_whole {words : List Word16} {i : Nat} {w : Word16} (whole : i + 33 ≤ words.length) (h : words[i]? = some w) :
    programAt words i = (List.range (clampNat 0 16 w.toNat)).map fun k => stepAt words (i + 1 + 2 * k) :=
  (if_pos whole).trans (field_of_some h _ _)

theorem programAt_length (words : List Word16) (i : Nat) : (programAt words i).length ≤ 16 := by
  unfold programAt
  split
  · refine field_meets (p := fun l : List LampStep => l.length ≤ 16) (by simp) fun w => ?_
    simpa using (clampNat_between (Nat.zero_le 16) w.toNat).2
  · simp

theorem mem_programAt {words : List Word16} {i : Nat} {p : LampStep} (h : p ∈ programAt words i) :
    ∃ k, p = stepAt words (i + 1 + 2 * k) := by
  revert h
  unfold programAt
  split
  · refine field_meets (p := fun l : List LampStep => p ∈ l → _) nofun fun w mem => ?_
    obtain ⟨k, _, e⟩ := List.mem_map.mp mem
    exact ⟨k, e.symm⟩
  · nofun

theorem stepAt_between (words : List Word16) (i : Nat) : (stepAt words i).channel ≤ 31 ∧ (stepAt words i).onThreshold ≤ 2000 :=
  ⟨field_le (by omega), field_le (by omega)⟩

/-! ### A class -/

theorem imageOf_class (words : List Word16) (c : Fin 4) : (imageOf words).classes[c] = classAt words c := by
  match c with
  | 0 => rfl
  | 1 => rfl
  | 2 => rfl
  | 3 => rfl

theorem targetOfWord_between (w : Word16) : 20 ≤ targetOfWord w ∧ targetOfWord w ≤ 50 := clampInt_between (by omega) _

/-! ### The whole image -/

theorem classAt_inRange (words : List Word16) (c : Nat) :
    (20 ≤ (classAt words c).target ∧ (classAt words c).target ≤ 50) ∧
    (100 ≤ (classAt words c).demand ∧ (classAt words c).demand ≤ 2000) ∧
    (50 ≤ (classAt words c).loss ∧ (classAt words c).loss ≤ 600) ∧ (classAt words c).program.length ≤ 16 ∧
    ∀ p ∈ (classAt words c).program, p.channel ≤ 31 ∧ p.onThreshold ≤ 2000 := by
  refine ⟨field_meets (p := fun v : Int => 20 ≤ v ∧ v ≤ 50) (by omega) targetOfWord_between, field_between (by omega) (by omega),
    field_between (by omega) (by omega), programAt_length words _, fun p mem => ?_⟩
  obtain ⟨k, rfl⟩ := mem_programAt mem
  exact stepAt_between words _

theorem mem_classes {words : List Word16} {x : ClassFigures} (h : x ∈ (imageOf words).classes.toList) :
    ∃ c, x = classAt words c := by
  have listed : (imageOf words).classes.toList = [classAt words 0, classAt words 1, classAt words 2, classAt words 3] := rfl
  rw [listed] at h
  simp only [List.mem_cons, List.not_mem_nil, or_false] at h
  rcases h with e | e | e | e <;> exact ⟨_, e⟩

/-- Every field but the station number stands in its range (R173). -/
theorem imageOf_inRange (words : List Word16) : (imageOf words).inRange := by
  refine ⟨field_between (by omega) (by omega), field_le (by omega), field_between (by omega) (by omega), ?wh, ?design,
    field_le (by omega), field_between (by omega) (by omega), field_between (by omega) (by omega), field_le (by omega),
    field_le (by omega), field_between (by omega) (by omega), field_between (by omega) (by omega), field_between (by omega) (by omega),
    field_between (by omega) (by omega), bandsOf_length words, fun b => bandsOf_between, fun c mem => ?_⟩
  case wh => exact field_meets (p := fun v => v ∈ [1, 2, 5, 10]) (by simp) fun w => whOfCode_mem _
  case design => exact field_meets (p := fun v : Int => -80 ≤ v ∧ v ≤ 120) (by decide) fun w => clampInt_between (by decide) _
  obtain ⟨k, rfl⟩ := mem_classes mem
  exact classAt_inRange words k

/-- The band table is one field: taken whole, or every band unused (R171; log 12). -/
theorem bandsOf_taken {words : List Word16} (whole : 38 ≤ words.length) {n : Nat} {b : Band} (h : (bandsOf words)[n]? = some b) :
    takenWithin (wordAt words (14 + 3 * n)) 0 2000 2000 b.lower ∧ takenWithin (wordAt words (15 + 3 * n)) 0 2000 0 b.upper ∧
    ∀ w, words[16 + 3 * n]? = some w → b.label = ([BandLabel.ok, .low, .high, .openCircuit, .short][w.toNat]?).getD .short := by
  rw [bandsOf_getElem whole h]
  refine ⟨field_taken _, field_taken _, fun w delivered => ?_⟩
  exact (field_of_some delivered _ _).trans (labelOfCode_eq _)

/-- A lamp program is one field: its step count and each of its steps (R171, R173; log 12). -/
theorem programAt_taken {words : List Word16} {i : Nat} (whole : i + 33 ≤ words.length) :
    takenWithin (wordAt words i) 0 16 0 (programAt words i).length ∧
    ∀ (n : Nat) (p : LampStep), (programAt words i)[n]? = some p →
      takenWithin (highAt words (i + 1 + 2 * n)) 0 31 0 p.channel ∧
      takenWithin (wordAt words (i + 1 + 2 * n + 1)) 0 2000 0 p.onThreshold ∧
      ∀ w, words[i + 1 + 2 * n]? = some w → p.flashing = w.getLsbD 0 ∧ p.blocking = w.getLsbD 1 := by
  obtain ⟨w, delivered⟩ : ∃ w, words[i]? = some w := ⟨_, List.getElem?_eq_getElem (by omega)⟩
  rw [programAt_whole whole delivered]
  refine ⟨?_, fun n p h => ?_⟩
  · rw [List.length_map, List.length_range, wordAt, delivered]
    exact takenWithin_clampNat (by decide) w.toNat 0
  · rw [getElem?_map_range h]
    refine ⟨field_taken _, field_taken _, fun w delivered => ?_⟩
    exact ⟨field_of_some delivered _ _, field_of_some delivered _ _⟩

/-- The target a word to 127 delivers; above, what the word reads as is free (R173; log 11). -/
theorem target_taken (words : List Word16) (c : Nat) :
    (∀ v, wordAt words (38 + 36 * c) = some v → v ≤ 127 → takenWithin (some v) 20 50 36 (classAt words c).target) ∧
    (wordAt words (38 + 36 * c) = none → (classAt words c).target = 36) := by
  refine ⟨fun v delivered small => ?_, fun missing => field_of_none (Option.map_eq_none_iff.mp missing) _ _⟩
  obtain ⟨w, there, rfl⟩ := Option.map_eq_some_iff.mp delivered
  have target : (classAt words c).target = clampInt 20 50 w.toNat :=
    (field_of_some there _ _).trans (congrArg (clampInt 20 50) (if_pos (by omega)))
  rw [target]
  exact takenWithin_clampInt (by omega) _ _

/-- A fitted flag is its byte's being nonzero (R173). -/
theorem fitted_taken (words : List Word16) (i : Nat) :
    field words i false (fun w => highByte w != 0) = (highAt words i).any (fun v => decide (v ≠ 0)) := by
  cases h : words[i]? with
  | none => rw [field_of_none h, highAt, h]; rfl
  | some w =>
    rw [field_of_some h, highAt, h]
    have same : ((highByte w : Nat) : Int) ≠ 0 ↔ highByte w ≠ 0 := by omega
    exact Bool.eq_iff_iff.mpr (bne_iff_ne.trans (same.symm.trans decide_eq_true_iff.symm))

/-- Settles O7, by one lemma for each kind of field. -/
theorem imageIsClampedIntoRange : Obligations.ImageIsClampedIntoRange := by
  refine ⟨rfl, fun words m taken => ?_⟩
  subst taken
  refine ⟨imageOf_inRange words, ?station, rfl, field_taken _, field_taken _, field_taken _, ?meter,
    ?wh, ?probe, ?design, field_taken _, ?retention, field_taken _, field_taken _,
    field_taken _, field_taken _, ?masks, field_taken _, field_taken _,
    field_taken _, field_taken _, bandsOf_short, fun whole n b => bandsOf_taken whole, fun c => ?_⟩
  case station =>
    cases h : words[0]? with
    | none => rw [wordAt, h]; exact congrArg Nat.cast (field_of_none h _ _)
    | some w => rw [wordAt, h]; exact congrArg Nat.cast (field_of_some h _ _)
  case meter => exact fitted_taken words 3
  case wh =>
    cases h : words[3]? with
    | none => exact field_of_none h _ _
    | some w => exact (field_of_some h _ _).trans (whOfCode_eq _)
  case probe => exact fitted_taken words 4
  case design =>
    cases h : words[4]? with
    | none => rw [lowAt, h]; exact field_of_none h _ _
    | some w =>
      have design : (imageOf words).design = clampInt (-80) 120 (signedByte (lowByte w)) := field_of_some h _ _
      rw [design, lowAt, h, signedByte_eq (b := lowByte w) (Nat.mod_lt _ (by decide))]
      exact takenWithin_clampInt (by decide) _ _
  case retention =>
    cases h : words[5]? with
    | none => rw [lowAt, h]; exact iff_of_true (field_of_none h _ _) rfl
    | some w =>
      have retention : (imageOf words).retention = if lowByte w = 0 then .newest else .first := field_of_some h _ _
      rw [retention, lowAt, h]
      by_cases zero : lowByte w = 0
      · exact iff_of_true (if_pos zero) (congrArg Nat.cast zero)
      · rw [if_neg zero]
        exact iff_of_false nofun fun e => zero (Int.ofNat.inj e)
  case masks =>
    cases h : words[10]? with
    | none => exact field_of_none h _ _
    | some w => exact field_of_some h _ _
  obtain ⟨small, missing⟩ := target_taken words c
  have program : (classAt words c).program = programAt words (41 + 36 * c) := rfl
  rw [imageOf_class]
  refine ⟨small, missing, field_taken _, field_taken _, fun short => programAt_short (by omega), fun whole => ?_⟩
  obtain ⟨length, steps⟩ := programAt_taken (words := words) (i := 41 + 36 * c) (by omega)
  refine ⟨length, fun n p h => ?_⟩
  have places : 41 + 36 * c.val + 1 + 2 * n = 42 + 36 * c + 2 * n ∧ 42 + 36 * c.val + 2 * n + 1 = 43 + 36 * c + 2 * n := by omega
  have taken := steps n p h
  rw [places.1, places.2] at taken
  exact taken

end Sys2Proof.Machine
end

section
/-! SUPPORT. A BAY_STATUS payload: its bytes as R178 says, and no two alike (O43). -/

namespace Sys2Proof.Machine

open Sys2Proof

/-! ### Bytes -/

theorem byteOf_toNat (n : Nat) : (byteOf n).toNat = n % 256 := BitVec.toNat_ofNat n 8

theorem byteOf_toNat_of_lt {n : Nat} (h : n < 256) : (byteOf n).toNat = n := by rw [byteOf_toNat, Nat.mod_eq_of_lt h]

/-- The two bytes of a word, most significant first. -/
theorem bytes2_word (w : Word16) : ∃ hi lo : Byte, bytes2 w.toNat = [hi, lo] ∧ 256 * hi.toNat + lo.toNat = w.toNat := by
  refine ⟨_, _, rfl, ?_⟩
  have small := w.isLt
  simp only [BitVec.ofNat_toNat, BitVec.setWidth_eq, BitVec.extractLsb'_toNat, Nat.shiftRight_eq_div_pow]
  omega

/-! ### Byte 0 -/

theorem occupancyCode_le (o : Occupancy) : occupancyCode o ≤ 4 := by cases o <;> decide

theorem occupancyCode_inj {o p : Occupancy} (h : occupancyCode o = occupancyCode p) : o = p := by
  revert h
  cases o <;> cases p <;> decide

theorem depCode_le (d : DepState) : depCode d ≤ 6 := by cases d <;> decide

theorem depCode_inj {d e : DepState} (h : depCode d = depCode e) : d = e := by
  revert h
  cases d <;> cases e <;> decide

theorem statusByte0_off {b : BayStatus} (off : b.heat = .off) :
    statusByte0 b = 16 * occupancyCode b.occupancy + 2 * depCode b.dep := if_pos off

/-- The departure state's number in the form of a station that is not OFF (R178). -/
def DepState.heatedCode (d : DepState) : Nat :=
  match d with
  | .ready => 1
  | .settling => 2
  | _ => 0

theorem DepState.heatedCode_le (d : DepState) : d.heatedCode ≤ 2 := by cases d <;> decide

theorem DepState.heatedCode_inj {d e : DepState} (hd : d = .assigned ∨ d = .ready ∨ d = .settling)
    (he : e = .assigned ∨ e = .ready ∨ e = .settling) (h : d.heatedCode = e.heatedCode) : d = e := by
  revert h
  rcases hd with rfl | rfl | rfl <;> rcases he with rfl | rfl | rfl <;> decide

theorem statusByte0_on {b : BayStatus} (on : b.heat ≠ .off) :
    statusByte0 b = 128 + (if b.occupancy = .unlinked then 64 else 0) + 16 * b.dep.heatedCode + heatDrawnCode b.heat b.drawn := by
  unfold statusByte0
  rw [if_neg on]
  rfl

theorem BayStatus.related.heatDrawn_le {b : BayStatus} (h : b.related) : heatDrawnCode b.heat b.drawn ≤ 11 := by
  obtain ⟨_, _, heating, maintain, _⟩ := h
  cases state : b.heat with
  | heating => have := heating state; simp only [heatDrawnCode]; omega
  | maintain => have := maintain state; simp only [heatDrawnCode]; omega
  | _ => simp [heatDrawnCode]

theorem BayStatus.related.byte0_lt {b : BayStatus} (h : b.related) : statusByte0 b < 256 := by
  by_cases off : b.heat = .off
  · have := occupancyCode_le b.occupancy
    have := depCode_le b.dep
    rw [statusByte0_off off]
    omega
  · have := h.heatDrawn_le
    have := b.dep.heatedCode_le
    rw [statusByte0_on off]
    split <;> omega

/-- The heat state and the stages drawn that a code stands for (R178). -/
def heatDrawnOf (code : Nat) : HeatState × Nat :=
  match code with
  | 0 => (.off, 0)
  | 1 => (.waiting, 0)
  | 2 => (.starved, 0)
  | 3 => (.shed, 0)
  | 4 => (.fault, 0)
  | n + 5 => if n < 5 then (.heating, n) else (.maintain, n - 5)

theorem heatDrawnOf_code {b : BayStatus} (h : b.related) : heatDrawnOf (heatDrawnCode b.heat b.drawn) = (b.heat, b.drawn) := by
  obtain ⟨_, still, heating, _⟩ := h
  cases state : b.heat
  case heating => rw [heatDrawnCode, Nat.add_comm]; exact if_pos (Nat.lt_succ_of_le (heating state))
  case maintain =>
    have shift : 10 + b.drawn = b.drawn + 5 + 5 := by omega
    rw [heatDrawnCode, shift]
    have reads : heatDrawnOf (b.drawn + 5 + 5) =
        if b.drawn + 5 < 5 then (.heating, b.drawn + 5) else (.maintain, b.drawn + 5 - 5) := rfl
    rw [reads, if_neg (by omega), Nat.add_sub_cancel]
  all_goals rw [still (by rw [state]; nofun) (by rw [state]; nofun)]; rfl

/-- The heat state and the stages drawn are read off their code (R178). -/
theorem heatDrawnCode_inj {b c : BayStatus} (hb : b.related) (hc : c.related)
    (same : heatDrawnCode b.heat b.drawn = heatDrawnCode c.heat c.drawn) : b.heat = c.heat ∧ b.drawn = c.drawn := by
  have read := congrArg heatDrawnOf same
  rw [heatDrawnOf_code hb, heatDrawnOf_code hc] at read
  exact Prod.mk.inj read

/-- Byte 0 carries the occupancy, the heat state, the departure state and the stages drawn (R178). -/
theorem statusByte0_inj {b c : BayStatus} (hb : b.related) (hc : c.related) (same : statusByte0 b = statusByte0 c) :
    b.occupancy = c.occupancy ∧ b.heat = c.heat ∧ b.dep = c.dep ∧ b.drawn = c.drawn := by
  have ob := occupancyCode_le b.occupancy
  have oc := occupancyCode_le c.occupancy
  have db := depCode_le b.dep
  have dc := depCode_le c.dep
  have eb := b.dep.heatedCode_le
  have ec := c.dep.heatedCode_le
  have fb := hb.heatDrawn_le
  have fc := hc.heatDrawn_le
  by_cases off : b.heat = .off <;> by_cases off' : c.heat = .off
  · rw [statusByte0_off off, statusByte0_off off'] at same
    have drawn := hb.2.1 (by simp [off]) (by simp [off])
    have drawn' := hc.2.1 (by simp [off']) (by simp [off'])
    exact ⟨occupancyCode_inj (by omega), off.trans off'.symm, depCode_inj (by omega), drawn.trans drawn'.symm⟩
  · rw [statusByte0_off off, statusByte0_on off'] at same
    omega
  · rw [statusByte0_on off, statusByte0_off off'] at same
    omega
  · rw [statusByte0_on off, statusByte0_on off'] at same
    obtain ⟨plugged, dep⟩ := hb.1 off
    obtain ⟨plugged', dep'⟩ := hc.1 off'
    have parts : b.occupancy = c.occupancy ∧ b.dep.heatedCode = c.dep.heatedCode ∧
        heatDrawnCode b.heat b.drawn = heatDrawnCode c.heat c.drawn := by
      rcases plugged with e | e <;> rcases plugged' with e' | e' <;> rw [e, e'] at same ⊢ <;>
        simp only [reduceCtorEq, if_true, if_false] at same
      · exact ⟨rfl, by omega, by omega⟩
      · omega
      · omega
      · exact ⟨rfl, by omega, by omega⟩
    obtain ⟨occupancy, code, heat⟩ := parts
    obtain ⟨state, drawn⟩ := heatDrawnCode_inj hb hc heat
    exact ⟨occupancy, state, DepState.heatedCode_inj dep dep' code, drawn⟩

/-! ### The count field -/

/-- Numbers paired below a triangle are read off its sum (R178). -/
theorem triangle_inj {a b c d : Nat} (hb : b ≤ a) (hd : d ≤ c) (same : a * (a + 1) / 2 + b = c * (c + 1) / 2 + d) :
    a = c ∧ b = d := by
  have above {x y : Nat} (lt : x < y) : x * (x + 1) / 2 + x + 1 ≤ y * (y + 1) / 2 := by
    have grows : (x + 1) * (x + 2) ≤ y * (y + 1) := Nat.mul_le_mul lt (by omega)
    have next : (x + 1) * (x + 2) = x * (x + 1) + 2 * (x + 1) := by ring
    omega
  rcases Nat.lt_trichotomy a c with lt | rfl | gt
  · have := above lt
    omega
  · exact ⟨rfl, by omega⟩
  · have := above gt
    omega

theorem triangle_le {a b : Nat} (hb : b ≤ a) (ha : a ≤ 16) : a * (a + 1) / 2 + b ≤ 152 := by
  have grows : a * (a + 1) ≤ 16 * 17 := Nat.mul_le_mul ha (by omega)
  omega

/-- The place of a sheet's state among those that have entries (R178). -/
def SheetState.run (sh : SheetState) : Nat :=
  match sh with
  | .empty | .running => 0
  | .partly => 1
  | .complete => 2

theorem SheetState.run_le (sh : SheetState) : sh.run ≤ 2 := by cases sh <;> decide

theorem SheetState.run_inj {sh sh' : SheetState} (some : sh ≠ .empty) (some' : sh' ≠ .empty) (h : sh.run = sh'.run) : sh = sh' := by
  revert some some' h
  cases sh <;> cases sh' <;> decide

theorem sheetNumber_eq {sh : SheetState} (some : sh ≠ .empty) (a b : Nat) :
    sheetNumber sh a b = 1 + 153 * sh.run + a * (a + 1) / 2 + b := by
  cases sh
  case empty => exact absurd rfl some
  all_goals simp [sheetNumber, SheetState.run]

theorem BayStatus.related.sheet_le {b : BayStatus} (h : b.related) : sheetNumber b.sheet b.notOk b.blockingNotOk ≤ 459 := by
  obtain ⟨_, _, _, _, _, _, _, _, _, _, blocking, few, _⟩ := h
  by_cases none : b.sheet = .empty
  · rw [none]
    exact Nat.zero_le _
  · have := triangle_le blocking few
    have := b.sheet.run_le
    rw [sheetNumber_eq none]
    omega

theorem sheetNumber_inj {b c : BayStatus} (hb : b.related) (hc : c.related)
    (same : sheetNumber b.sheet b.notOk b.blockingNotOk = sheetNumber c.sheet c.notOk c.blockingNotOk) :
    b.sheet = c.sheet ∧ b.notOk = c.notOk ∧ b.blockingNotOk = c.blockingNotOk := by
  obtain ⟨_, _, _, _, _, _, _, _, _, _, blocking, few, empty⟩ := hb
  obtain ⟨_, _, _, _, _, _, _, _, _, _, blocking', few', empty'⟩ := hc
  have size := triangle_le blocking few
  have size' := triangle_le blocking' few'
  by_cases none : b.sheet = .empty <;> by_cases none' : c.sheet = .empty
  · have := empty none
    have := empty' none'
    exact ⟨none.trans none'.symm, by omega, by omega⟩
  · rw [none, sheetNumber_eq none'] at same
    simp only [sheetNumber] at same
    omega
  · rw [none', sheetNumber_eq none] at same
    simp only [sheetNumber] at same
    omega
  · rw [sheetNumber_eq none, sheetNumber_eq none'] at same
    have run : b.sheet.run = c.sheet.run := by omega
    obtain ⟨notOk, blocks⟩ := triangle_inj blocking blocking' (by omega)
    exact ⟨SheetState.run_inj none none' run, notOk, blocks⟩

theorem faultNumber_none {b : BayStatus} (none : b.figure = none) : faultNumber b = 16383 := by
  unfold faultNumber
  rw [none]

theorem faultNumber_some {b : BayStatus} (known : b.figure ≠ none) :
    faultNumber b = 625 * b.records + 25 * b.activeBlocking + b.activeAdvisory := by
  unfold faultNumber
  split
  · next none => exact absurd none known
  · rfl

theorem BayStatus.related.fault_le {b : BayStatus} (h : b.related) :
    faultNumber b ≤ 16383 ∧ (b.figure ≠ none → faultNumber b ≤ 15600) := by
  obtain ⟨_, _, _, _, _, _, records, active, _⟩ := h
  by_cases none : b.figure = .none
  · exact ⟨(faultNumber_none none).le, fun known => absurd none known⟩
  · rw [faultNumber_some none]
    omega

theorem faultNumber_inj {b c : BayStatus} (hb : b.related) (hc : c.related) (same : faultNumber b = faultNumber c) :
    (b.figure = none ↔ c.figure = none) ∧ b.records = c.records ∧ b.activeBlocking = c.activeBlocking ∧
    b.activeAdvisory = c.activeAdvisory := by
  have below := hb.fault_le.2
  have below' := hc.fault_le.2
  obtain ⟨_, _, _, _, _, _, records, active, empty, _⟩ := hb
  obtain ⟨_, _, _, _, _, _, records', active', empty', _⟩ := hc
  by_cases none : b.figure = .none <;> by_cases none' : c.figure = .none
  · have := empty none
    have := empty' none'
    exact ⟨iff_of_true none none', by omega, by omega, by omega⟩
  · have := faultNumber_none none
    have := below' none'
    omega
  · have := faultNumber_none none'
    have := below none
    omega
  · rw [faultNumber_some none, faultNumber_some none'] at same
    have all : b.records = c.records := by omega
    have blocking : b.activeBlocking = c.activeBlocking := by omega
    exact ⟨iff_of_false none none', all, blocking, by omega⟩

theorem BayStatus.related.count_lt {b : BayStatus} (h : b.related) : countField b < 16777216 := by
  have := h.sheet_le
  have := h.fault_le.1
  unfold countField
  split <;> omega

/-- The count field carries the sheet number, the lost mark and the fault number (R178). -/
theorem countField_inj {b c : BayStatus} (hb : b.related) (hc : c.related) (same : countField b = countField c) :
    sheetNumber b.sheet b.notOk b.blockingNotOk = sheetNumber c.sheet c.notOk c.blockingNotOk ∧
    b.blockingLost = c.blockingLost ∧ faultNumber b = faultNumber c := by
  have := hb.fault_le.1
  have := hc.fault_le.1
  unfold countField at same
  cases lost : b.blockingLost <;> cases lost' : c.blockingLost <;> rw [lost, lost'] at same <;>
    simp only [if_true, if_false, Bool.false_eq_true] at same
  · exact ⟨by omega, rfl, by omega⟩
  · omega
  · omega
  · exact ⟨by omega, rfl, by omega⟩

/-! ### The lead and the figure -/

theorem BayStatus.related.leadByte_lt {b : BayStatus} (h : b.related) : leadByte b.lead b.mark < 256 := by
  obtain ⟨_, _, _, _, lead, _⟩ := h
  cases mark : b.mark <;> simp only [leadByte] <;> omega

theorem leadByte_inj {b c : BayStatus} (hb : b.related) (hc : c.related) (same : leadByte b.lead b.mark = leadByte c.lead c.mark) :
    b.lead = c.lead ∧ b.mark = c.mark := by
  obtain ⟨_, _, _, _, lead, marked, _⟩ := hb
  obtain ⟨_, _, _, _, lead', marked', _⟩ := hc
  cases mark : b.mark <;> cases mark' : c.mark <;> simp_all [leadByte] <;> omega

theorem BayStatus.related.figure_lt {b : BayStatus} (h : b.related) : b.figure.getD 0 < 256 := by
  obtain ⟨_, _, _, _, _, _, _, _, _, figure, _⟩ := h
  cases known : b.figure with
  | none => simp
  | some n =>
    rw [known] at figure
    have := of_decide_eq_true figure
    rw [Option.getD_some]
    omega

/-! ### The payload -/

theorem statusPayload_bytes (b : BayStatus) : ∃ hi lo : Byte, 256 * hi.toNat + lo.toNat = b.maskedPending.toNat ∧
    Content.payload (.bayStatus b) =
      [byteOf (statusByte0 b), byteOf (countField b / 65536), byteOf (countField b / 256), byteOf (countField b),
        byteOf (leadByte b.lead b.mark), byteOf (b.figure.getD 0), hi, lo] := by
  obtain ⟨hi, lo, bytes, value⟩ := bytes2_word b.maskedPending
  refine ⟨hi, lo, value, ?_⟩
  have payload : Content.payload (.bayStatus b) = statusPayload b := rfl
  rw [payload, statusPayload, bytes]
  rfl

/-- Three bytes carry a number below 2 to the 24th. -/
theorem three_bytes {n : Nat} (h : n < 16777216) :
    65536 * (byteOf (n / 65536)).toNat + 256 * (byteOf (n / 256)).toNat + (byteOf n).toNat = n := by
  simp only [byteOf_toNat]
  omega

/-- Byte 0 of a station that is not OFF, by the numbers of its departure and heat states (R178). -/
theorem statusByte0_numbers {b : BayStatus} (on : b.heat ≠ .off) {dep heat : Nat}
    (d : b.dep = .assigned ∧ dep = 0 ∨ b.dep = .ready ∧ dep = 1 ∨ b.dep = .settling ∧ dep = 2)
    (h : b.heat = .waiting ∧ heat = 1 ∨ b.heat = .starved ∧ heat = 2 ∨ b.heat = .shed ∧ heat = 3 ∨ b.heat = .fault ∧ heat = 4 ∨
      b.heat = .heating ∧ heat = 5 + b.drawn ∨ b.heat = .maintain ∧ heat = 10 + b.drawn) :
    statusByte0 b = 128 + (if b.occupancy = .unlinked then 64 else 0) + 16 * dep + heat := by
  have dep' : b.dep.heatedCode = dep := by
    rcases d with ⟨e, rfl⟩ | ⟨e, rfl⟩ | ⟨e, rfl⟩ <;> rw [e] <;> rfl
  have heat' : heatDrawnCode b.heat b.drawn = heat := by
    rcases h with ⟨e, rfl⟩ | ⟨e, rfl⟩ | ⟨e, rfl⟩ | ⟨e, rfl⟩ | ⟨e, rfl⟩ | ⟨e, rfl⟩ <;> rw [e] <;> rfl
  rw [statusByte0_on on, dep', heat']

/-- The count field, by the numbers of the sheet and the fault list (R178). -/
theorem countField_numbers {b : BayStatus} {sheet fault : Nat}
    (s : b.sheet = .empty ∧ sheet = 0 ∨
      ∃ k, (b.sheet = .running ∧ k = 0 ∨ b.sheet = .partly ∧ k = 1 ∨ b.sheet = .complete ∧ k = 2) ∧
        sheet = 1 + 153 * k + b.notOk * (b.notOk + 1) / 2 + b.blockingNotOk)
    (f : fault = if b.figure = none then 16383 else 625 * b.records + 25 * b.activeBlocking + b.activeAdvisory) :
    countField b = 32768 * sheet + (if b.blockingLost then 16384 else 0) + fault := by
  have sheet' : sheetNumber b.sheet b.notOk b.blockingNotOk = sheet := by
    rcases s with ⟨e, rfl⟩ | ⟨k, ⟨e, rfl⟩ | ⟨e, rfl⟩ | ⟨e, rfl⟩, rfl⟩ <;> rw [e] <;> simp [sheetNumber]
  have fault' : faultNumber b = fault := by
    by_cases unknown : b.figure = none
    · rw [f, if_pos unknown, faultNumber_none unknown]
    · rw [f, if_neg unknown, faultNumber_some unknown]
  unfold countField
  rw [sheet', fault']

/-- No two states that R178 packs have one payload. -/
theorem statusPayload_inj {b c : BayStatus} (hb : b.related) (hc : c.related)
    (same : Content.payload (.bayStatus b) = Content.payload (.bayStatus c)) : b = c := by
  obtain ⟨hi, lo, pending, bytes⟩ := statusPayload_bytes b
  obtain ⟨hi', lo', pending', bytes'⟩ := statusPayload_bytes c
  rw [bytes, bytes'] at same
  simp only [List.cons.injEq, and_true] at same
  obtain ⟨byte0, top, middle, low, lead, figure, rfl, rfl⟩ := same
  have code : statusByte0 b = statusByte0 c := by
    rw [← byteOf_toNat_of_lt hb.byte0_lt, byte0, byteOf_toNat_of_lt hc.byte0_lt]
  have count : countField b = countField c := by
    rw [← three_bytes hb.count_lt, top, middle, low, three_bytes hc.count_lt]
  have marked : leadByte b.lead b.mark = leadByte c.lead c.mark := by
    rw [← byteOf_toNat_of_lt hb.leadByte_lt, lead, byteOf_toNat_of_lt hc.leadByte_lt]
  have figures : b.figure.getD 0 = c.figure.getD 0 := by
    rw [← byteOf_toNat_of_lt hb.figure_lt, figure, byteOf_toNat_of_lt hc.figure_lt]
  obtain ⟨occupancy, heat, dep, drawn⟩ := statusByte0_inj hb hc code
  obtain ⟨sheets, lost, faults⟩ := countField_inj hb hc count
  obtain ⟨sheet, notOk, blocking⟩ := sheetNumber_inj hb hc sheets
  obtain ⟨unknown, records, activeBlocking, activeAdvisory⟩ := faultNumber_inj hb hc faults
  obtain ⟨lead, mark⟩ := leadByte_inj hb hc marked
  have known : b.figure = c.figure := by
    cases h : b.figure <;> cases h' : c.figure <;> simp_all
  have masked : b.maskedPending = c.maskedPending := BitVec.eq_of_toNat_eq (pending.symm.trans pending')
  cases b
  cases c
  simp_all

end Sys2Proof.Machine
end

section
/-! SUPPORT. The frames a bay sends, sorted as another bay hears them (O43). -/

namespace Sys2Proof.Machine

open Sys2Proof

/-! ### Fields read back -/

theorem claimStateOf_code (c : ClaimState) : claimStateOf (byteOf (claimCode c)) = some c := by cases c <;> rfl

theorem heatStateOf_code (h : HeatState) : heatStateOf (byteOf (heatCode h)) = some h := by cases h <;> rfl

/-- Three bytes carry a signed number that fits them (R177). -/
theorem signed3_bytes3 {v : Int} (fits : fitsSigned24 v = true) :
    ∃ a b c : Byte, bytes3 v = [a, b, c] ∧ signed3 a b c = v := by
  refine ⟨_, _, _, rfl, ?_⟩
  have joined (w : BitVec 24) : (w.extractLsb' 16 8 ++ w.extractLsb' 8 8 ++ w.extractLsb' 0 8 : BitVec 24) = w := by
    rw [BitVec.extractLsb'_append_extractLsb'_eq_extractLsb' (start₁ := 8) (len₁ := 8) (start₂ := 16) rfl,
      BitVec.extractLsb'_append_extractLsb'_eq_extractLsb' (start₁ := 0) (len₁ := 8) (start₂ := 8) rfl]
    exact BitVec.extractLsb'_eq_self
  unfold signed3
  unfold fitsSigned24 at fits
  simp only [Bool.and_eq_true, decide_eq_true_eq] at fits
  rw [joined]
  exact BitVec.toInt_ofInt_eq_self (by decide) (by omega) (by omega)

theorem byte_ofInt {v : Int} (fits : fitsSigned8 v = true) : (BitVec.ofInt 8 v).toInt = v := by
  unfold fitsSigned8 at fits
  simp only [Bool.and_eq_true, decide_eq_true_eq] at fits
  exact BitVec.toInt_ofInt_eq_self (by decide) (by omega) (by omega)

/-! ### The frame on the wires -/

theorem payload_length_le (c : Content) : c.payload.length ≤ 8 := by
  cases c with
  | faultEntry position record => cases record <;> exact Nat.le_refl 8
  | lampEntry step entry =>
    cases entry with
    | none => exact Nat.le_of_ble_eq_true rfl
    | some e =>
      have result : (resultBytes e.result).length = 3 := by cases e.result <;> rfl
      have whole : (Content.payload (.lampEntry step (some e))).length = (resultBytes e.result).length + 2 := rfl
      omega
  | bayStatus b => exact Nat.le_refl 8
  | _ => exact Nat.le_of_ble_eq_true rfl

theorem wireFrame_parts (own : Nat) (c : Content) :
    (wireFrame own c).kind = BitVec.ofNat 4 c.kind ∧ (wireFrame own c).sender = BitVec.ofNat 6 own ∧
    (wireFrame own c).payload = c.payload := ⟨rfl, rfl, rfl⟩

theorem wireFrame_sender {own : Nat} (bay : bayNumber own = true) (c : Content) : (wireFrame own c).sender.toNat = own := by
  unfold bayNumber at bay
  simp only [Bool.and_eq_true, decide_eq_true_eq] at bay
  have sender : (wireFrame own c).sender.toNat = own % 64 := BitVec.toNat_ofNat own 6
  omega

/-- A whole frame of the right length, its check field the check over its bits (R92). -/
theorem RawFrame.checked {f : RawFrame} (whole : f.whole = true) (length : f.len.toNat = f.payload.length) :
    ({ f with check := crc f.bits } : RawFrame).checkRight = true := by
  have bits : ({ f with check := crc f.bits } : RawFrame).bits = f.bits := rfl
  unfold RawFrame.checkRight
  rw [Bool.and_eq_true, Bool.and_eq_true, bits, decide_eq_true_eq, decide_eq_true_eq]
  refine ⟨⟨whole, length⟩, ?_⟩
  dsimp only

theorem wireFrame_checkRight (own : Nat) (c : Content) : (wireFrame own c).checkRight = true := by
  have length : (BitVec.ofNat 4 c.payload.length).toNat = c.payload.length := by
    have := payload_length_le c
    rw [BitVec.toNat_ofNat]
    omega
  unfold wireFrame
  exact RawFrame.checked rfl length

theorem kind_isBays (c : Content) : panelKind (BitVec.ofNat 4 c.kind).toNat = false := by cases c <;> rfl

/-- A bay's frame with a right form and no target is heard as what it stands for, by another bay as its commands, and by a bay with the
same number only as that (R92 to R95). -/
theorem sortFrame_wireFrame {own : Nat} {c : Content} {t : Nat} {commands : List Instr} (bay : bayNumber own = true)
    (meaning : payloadMeaning t (wireFrame own c) = some { target := none, commands := commands }) (n : Nat) :
    sortFrame (some n) t (wireFrame own c) = if own = n then [.ownNumberHeard t] else commands := by
  have allowed : senderAllowed (wireFrame own c).kind.toNat own = true := by
    unfold senderAllowed
    have kind : panelKind (wireFrame own c).kind.toNat = false := kind_isBays c
    rw [kind]
    exact bay
  unfold sortFrame
  rw [if_pos (wireFrame_checkRight own c), meaning, wireFrame_sender bay, allowed]
  rfl

/-! ### What each content stands for -/

theorem payloadMeaning_depart {f : RawFrame} {st a b c : Byte} (kind : f.kind.toNat = 1) (payload : f.payload = [st, a, b, c])
    (t : Nat) : payloadMeaning t f = (claimStateOf st).bind fun s =>
      some { target := none, commands := [.departClaimReceived t f.sender.toNat s (signed3 a b c)] } := by
  unfold payloadMeaning
  rw [kind, payload]
  rfl

theorem payloadMeaning_heat {f : RawFrame} {st w i d p a b c : Byte} (kind : f.kind.toNat = 2)
    (payload : f.payload = [st, w, i, d, p, a, b, c]) (form : heatClaimForm w.toNat i.toNat d.toNat p.toNat = true) (t : Nat) :
    payloadMeaning t f = (heatStateOf st).bind fun s => some { target := none, commands :=
      [.heatClaimReceived t f.sender.toNat s w.toNat i.toNat d.toNat p.toNat (signed3 a b c)] } := by
  unfold payloadMeaning
  rw [kind, payload]
  exact congrArg ((heatStateOf st).bind ·) (funext fun s => if_pos form)

theorem payloadMeaning_air {f : RawFrame} {v : Byte} (kind : f.kind.toNat = 8) (payload : f.payload = [v]) (t : Nat) :
    payloadMeaning t f = some { target := none, commands := [.airTempReceived t f.sender.toNat v.toInt] } := by
  unfold payloadMeaning
  rw [kind, payload]
  rfl

theorem payloadMeaning_notice {f : RawFrame} {src a b c : Byte} (kind : f.kind.toNat = 9) (payload : f.payload = [src, a, b, c])
    (known : src.toNat ≤ 15) (t : Nat) : payloadMeaning t f = some { target := none, commands := [.frameNotForBay t] } := by
  unfold payloadMeaning
  rw [kind, payload]
  exact if_pos known

theorem payloadMeaning_report {f : RawFrame} {a b c d e : Byte}
    (form : (f.kind.toNat = 11 ∨ f.kind.toNat = 13) ∧ (∃ g h i, f.payload = [a, b, c, d, e, g, h, i]) ∨
      f.kind.toNat = 12 ∧ f.payload = [a, b, c, d, e]) (t : Nat) :
    payloadMeaning t f = some { target := none, commands := [.frameNotForBay t] } := by
  unfold payloadMeaning
  rcases form with ⟨kind | kind, g, h, i, payload⟩ | ⟨kind, payload⟩ <;> rw [kind, payload] <;> rfl

theorem depart_meaning {own : Nat} (bay : bayNumber own = true) (t : Nat) (state : ClaimState) {countdown : Int}
    (fits : fitsSigned24 countdown = true) :
    payloadMeaning t (wireFrame own (.depart state countdown)) =
      some { target := none, commands := [.departClaimReceived t own state countdown] } := by
  obtain ⟨a, b, c, bytes, value⟩ := signed3_bytes3 fits
  have sender := wireFrame_sender bay (.depart state countdown)
  have payload : (wireFrame own (.depart state countdown)).payload = [byteOf (claimCode state), a, b, c] :=
    congrArg (List.cons (byteOf (claimCode state))) bytes
  have kind : (wireFrame own (.depart state countdown)).kind.toNat = 1 := rfl
  generalize wireFrame own (.depart state countdown) = f at *
  rw [payloadMeaning_depart kind payload, claimStateOf_code, sender, value]
  rfl

theorem bytes_of_form {wanted intended drawn power : Nat} (form : heatClaimForm wanted intended drawn power = true) :
    (byteOf wanted).toNat = wanted ∧ (byteOf intended).toNat = intended ∧ (byteOf drawn).toNat = drawn ∧
    (byteOf power).toNat = power := by
  unfold heatClaimForm at form
  simp only [Bool.and_eq_true, decide_eq_true_eq] at form
  exact ⟨byteOf_toNat_of_lt (by omega), byteOf_toNat_of_lt (by omega), byteOf_toNat_of_lt (by omega), byteOf_toNat_of_lt (by omega)⟩

theorem bytes_form {wanted intended drawn power : Nat} (form : heatClaimForm wanted intended drawn power = true) :
    heatClaimForm (byteOf wanted).toNat (byteOf intended).toNat (byteOf drawn).toNat (byteOf power).toNat = true := by
  obtain ⟨w, i, d, p⟩ := bytes_of_form form
  rw [w, i, d, p]
  exact form

theorem heat_meaning {own : Nat} (bay : bayNumber own = true) (t : Nat) (state : HeatState) {wanted intended drawn power : Nat}
    {latest : Int} (form : heatClaimForm wanted intended drawn power = true) (fits : fitsSigned24 latest = true) :
    payloadMeaning t (wireFrame own (.heat state wanted intended drawn power latest)) =
      some { target := none, commands := [.heatClaimReceived t own state wanted intended drawn power latest] } := by
  obtain ⟨a, b, c, bytes, value⟩ := signed3_bytes3 fits
  have sender := wireFrame_sender bay (.heat state wanted intended drawn power latest)
  have payload : (wireFrame own (.heat state wanted intended drawn power latest)).payload =
      [byteOf (heatCode state), byteOf wanted, byteOf intended, byteOf drawn, byteOf power, a, b, c] :=
    congrArg ([byteOf (heatCode state), byteOf wanted, byteOf intended, byteOf drawn, byteOf power] ++ ·) bytes
  have kind : (wireFrame own (.heat state wanted intended drawn power latest)).kind.toNat = 2 := rfl
  generalize wireFrame own (.heat state wanted intended drawn power latest) = f at *
  obtain ⟨w, i, d, p⟩ := bytes_of_form form
  rw [payloadMeaning_heat kind payload (bytes_form form), heatStateOf_code, sender, value, w, i, d, p]
  rfl

theorem air_meaning {own : Nat} (bay : bayNumber own = true) (t : Nat) {temp : Int} (fits : fitsSigned8 temp = true) :
    payloadMeaning t (wireFrame own (.air temp)) = some { target := none, commands := [.airTempReceived t own temp] } := by
  have sender := wireFrame_sender bay (.air temp)
  have payload : (wireFrame own (.air temp)).payload = [BitVec.ofInt 8 temp] := rfl
  have kind : (wireFrame own (.air temp)).kind.toNat = 8 := rfl
  generalize wireFrame own (.air temp) = f at *
  rw [payloadMeaning_air kind payload, sender, byte_ofInt fits]

/-- A notice and a report are for the panels (R94). -/
theorem panel_meaning (own t : Nat) (c : Content) (h : c.isReport = true ∨ ∃ src arg more, c = .notice src arg more) :
    payloadMeaning t (wireFrame own c) = some { target := none, commands := [.frameNotForBay t] } := by
  rcases h with report | ⟨src, arg, more, rfl⟩
  · cases c with
    | faultEntry position record => cases record <;> exact payloadMeaning_report (.inl ⟨.inl rfl, _, _, _, rfl⟩) t
    | lampEntry step entry =>
      cases entry with
      | none => exact payloadMeaning_report (.inr ⟨rfl, rfl⟩) t
      | some e =>
        obtain ⟨a, b, c, bytes⟩ : ∃ a b c, resultBytes e.result = [a, b, c] := by
          cases e.result <;> exact ⟨_, _, _, rfl⟩
        exact payloadMeaning_report (.inr ⟨rfl, congrArg (byteOf step :: byteOf e.channel :: ·) bytes⟩) t
    | bayStatus b => exact payloadMeaning_report (.inl ⟨.inr rfl, _, _, _, rfl⟩) t
    | _ => cases report
  · exact payloadMeaning_notice rfl rfl (by rw [byteOf_toNat]; omega) t

/-- Every frame a bay sends has the form of its kind, whatever it carries (R92). -/
theorem sent_meaning (own t : Nat) {c : Content} (form : ∀ state wanted intended drawn power latest,
    c = .heat state wanted intended drawn power latest → heatClaimForm wanted intended drawn power = true) :
    ∃ commands, payloadMeaning t (wireFrame own c) = some { target := none, commands := commands } := by
  cases c with
  | depart state countdown =>
    have meaning := payloadMeaning_depart (f := wireFrame own (.depart state countdown)) rfl rfl t
    rw [claimStateOf_code] at meaning
    exact ⟨_, meaning⟩
  | heat state wanted intended drawn power latest =>
    have meaning := payloadMeaning_heat (f := wireFrame own (.heat state wanted intended drawn power latest)) rfl rfl
      (bytes_form (form _ _ _ _ _ _ rfl)) t
    rw [heatStateOf_code] at meaning
    exact ⟨_, meaning⟩
  | air temp => exact ⟨_, payloadMeaning_air rfl rfl t⟩
  | notice src arg more => exact ⟨_, panel_meaning own t _ (.inr ⟨_, _, _, rfl⟩)⟩
  | _ => exact ⟨_, panel_meaning own t _ (.inl rfl)⟩

/-- Settles O43. -/
theorem ownFramesAreHeardAsTheyWereSent : Obligations.OwnFramesAreHeardAsTheyWereSent := by
  refine ⟨fun b hb => ⟨?_, fun c hc => statusPayload_inj hb hc⟩, fun own other t bay bay' apart => ⟨fun state countdown fits => ?_,
    fun state wanted intended drawn power latest form fits => ?_, fun temp fits => ?_, fun content h => ?_, fun content form => ?_⟩⟩
  · obtain ⟨hi, lo, pending, payload⟩ := statusPayload_bytes b
    refine ⟨_, _, _, _, _, _, _, _, payload, fun off => ?_, fun on dep heat d h => ?_, fun sheet fault s f => ?_, ?_, ?_, pending⟩
    · rw [byteOf_toNat_of_lt hb.byte0_lt, statusByte0_off off]
    · rw [byteOf_toNat_of_lt hb.byte0_lt, statusByte0_numbers on d h]
    · rw [three_bytes hb.count_lt, countField_numbers s f]
    · rw [byteOf_toNat_of_lt hb.leadByte_lt]
      cases b.mark <;> rfl
    · exact byteOf_toNat_of_lt hb.figure_lt
  · rw [sortFrame_wireFrame bay (depart_meaning bay t state fits), if_neg apart]
  · rw [sortFrame_wireFrame bay (heat_meaning bay t state form fits), if_neg apart]
  · rw [sortFrame_wireFrame bay (air_meaning bay t fits), if_neg apart]
  · rw [sortFrame_wireFrame bay (panel_meaning own t content h), if_neg apart]
  · obtain ⟨commands, meaning⟩ := sent_meaning own t form
    rw [sortFrame_wireFrame bay meaning, if_pos rfl]

end Sys2Proof.Machine
end
